-- ==== Sys2Proof/Word.lean ====
section
/-! DEFINITION. The word types of the part: the octet of its serial lines, the 32-bit part time and the 16-bit slew angle. -/

namespace Sys2Proof

/-- One octet of a serial line (spec 01 section 1.1, 11 section 11.1). -/
abbrev Byte := BitVec 8

/-- A value of part time, in ms, wrapping after 2³² ms (R178). -/
abbrev Stamp := BitVec 32

/-- A slew angle in binary angle units, 65 536 to a turn (spec 00 section 5.1). -/
abbrev Angle := BitVec 16

end Sys2Proof
end

