-- ==== Sys2Proof/Machine/Records.lean ====
section
/-! DEFINITION. The records the eleven blocks keep (spec 01 to 11), as plain data. -/

namespace Sys2Proof

/-! ## Sensor Channel Unit (spec 01) -/

/-- The authority level, in rising order (R28, spec 00 section 5.5). -/
inductive Authority
  | operator | supervisor | service
  deriving DecidableEq, Repr, Inhabited

/-- Why a channel is FAILED (spec 01, the context table). -/
inductive FailReason
  | lineBreak | silent | miswired | sensorFault
  deriving DecidableEq, Repr, Inhabited

/-- The health of a sensor channel (spec 01 section 1.5). -/
inductive Health
  | off | acquiring | live | stale | failed (reason : FailReason)
  deriving DecidableEq, Repr, Inhabited

/-- Which samples the sample flags of CHANNEL STATUS describe (R11). -/
inductive StatusMode
  | latest | accumulated
  deriving DecidableEq, Repr, Inhabited

/-- The flags of a sample (R7). -/
structure SampleFlags where
  degraded : Bool := false
  fault    : Bool := false
  gap      : Bool := false
  clamped  : Bool := false
  deriving DecidableEq, Repr, Inhabited

/-- One accepted reading (R7). The A value of channel 3 is the slew angle read unsigned; the other values are signed. -/
structure Sample where
  a     : Int
  b     : Int
  stamp : Stamp
  flags : SampleFlags
  deriving DecidableEq, Repr, Inhabited

/-- The retained settings of one channel (R20). -/
structure ChannelSettings where
  enable  : Bool
  unit    : Byte
  mask    : Byte
  window  : Nat
  spacing : Nat
  mode    : StatusMode
  deriving DecidableEq, Repr, Inhabited

/-- A frame assembler, of a sensor line (R1) or of the host link (R169): the bytes collected so far, the start byte first. -/
inductive Assembler
  | hunting
  | collecting (bytes : List Byte)
  deriving DecidableEq, Repr, Inhabited

/-- The break detector of one channel (R15). -/
structure BreakDetector where
  lowRun : Nat := 0
  mark   : Bool := false
  deriving DecidableEq, Repr, Inhabited

/-- The reference of the last accepted frame (R5, R6). -/
structure LastFrame where
  seq   : Nat
  stamp : Stamp
  deriving DecidableEq, Repr, Inhabited

/-- The eleven statistics of a channel, each a 16-bit saturating count (R19). -/
structure ChannelStats where
  framesSeen : Nat := 0
  accepted   : Nat := 0
  framing    : Nat := 0
  check      : Nat := 0
  typeReject : Nat := 0
  foreign    : Nat := 0
  chatter    : Nat := 0
  overrun    : Nat := 0
  missed     : Nat := 0
  superseded : Nat := 0
  breaks     : Nat := 0
  deriving DecidableEq, Repr, Inhabited

/-- A channel context (spec 01, the context table). The stale and the silent timer hold the stamp they measure from (R14). -/
structure Channel where
  settings     : ChannelSettings
  assembler    : Assembler := .hunting
  brk          : BreakDetector := {}
  lastFrame    : Option LastFrame := none
  health       : Health
  acqCount     : Nat := 0
  rejectRun    : Nat := 0
  faultRun     : Nat := 0
  staleTimer   : Option Stamp := none
  silentTimer  : Option Stamp := none
  fifo         : List Sample := []
  chatterLatch : Bool := false
  overrunLatch : Bool := false
  accumulated  : SampleFlags := {}
  stats        : ChannelStats := {}
  deriving DecidableEq, Repr, Inhabited

/-! ## Machine Line Unit (spec 02) -/

/-- One debounced input: `true` is ACTIVE; the last sample is absent until the first reading after a reset (R24, R25). -/
structure Debouncer where
  level : Bool := false
  last  : Option Bool := none
  deriving DecidableEq, Repr, Inhabited

/-- Something for each of the seven inputs (spec 02 section 2.1). -/
structure PerInput (α : Type) where
  pilotEnable   : α
  seat          : α
  joyLeft       : α
  joyRight      : α
  travel        : α
  supervisorKey : α
  servicePlug   : α
  deriving DecidableEq, Repr, Inhabited

/-- The samples of one reading of the seven inputs: `true` is ACTIVE (R24). -/
abbrev InputSamples := PerInput Bool

/-- A set of the three cut lines (spec 02 section 2.5). -/
structure CutSet where
  left   : Bool
  right  : Bool
  boomUp : Bool
  deriving DecidableEq, Repr, Inhabited

/-- An alarm pattern, lowest rank first (spec 02 section 2.6). -/
inductive AlarmPattern
  | off | chirp | pulse | steady
  deriving DecidableEq, Repr, Inhabited

/-- The three alarm request slots (R32). -/
structure AlarmSlots where
  sl : AlarmPattern := .off
  ps : AlarmPattern := .off
  zt : AlarmPattern := .off
  deriving DecidableEq, Repr, Inhabited

/-- The Machine Line Unit (spec 02). `nextReading` is the part time of the next 2 ms reading (R24) and `periodStart` the
start of the present on or off period of the cadence (R33). -/
structure Mlu where
  inputs      : PerInput Debouncer
  nextReading : Stamp
  authority   : Authority
  cutCopy     : CutSet
  cutLines    : CutSet
  slots       : AlarmSlots
  driven      : AlarmPattern
  sounder     : Bool
  periodStart : Stamp
  deriving DecidableEq, Repr, Inhabited

/-! ## Pose Solver (spec 03) -/

/-- The geometry record (spec 03 section 3.1). -/
structure Geometry where
  fx         : Int
  fz         : Int
  lb         : Nat
  ls         : Nat
  lk         : Nat
  ah         : Nat
  ar         : Nat
  bandOrigin : Nat
  bandWidth  : Nat
  deriving DecidableEq, Repr, Inhabited

/-- The held A and B values of a channel (R41). -/
structure HeldValue where
  a : Int := 0
  b : Int := 0
  deriving DecidableEq, Repr, Inhabited

/-- A computation in flight: what it took at its start (R41), and whether a selected sample whose values it used carried
DEGRADED (R47). The values it uses are the held values, which change only at a start. -/
structure Computation where
  geometry     : Geometry
  health       : Vector Health 5
  usedDegraded : Bool
  deriving DecidableEq, Repr, Inhabited

/-- The quality of a pose (R47). -/
inductive PoseQuality
  | good | degraded | invalid
  deriving DecidableEq, Repr, Inhabited

/-- The pose record (R46). -/
structure Pose where
  reach       : Int
  height      : Int
  slewAngle   : Angle
  slewRate    : Int
  boomAngle   : Int
  stickAngle  : Int
  bucketAngle : Int
  boomRate    : Int
  stickRate   : Int
  bucketRate  : Int
  curl        : Int
  tilt        : Int
  gradeError  : Option Int
  quality     : PoseQuality
  slewValid   : Bool
  tiltClamped : Bool
  stamp       : Stamp
  count       : BitVec 32
  deriving DecidableEq, Repr, Inhabited

/-- The grade record (R49). -/
structure Grade where
  on        : Bool
  depth     : Nat
  slope     : Int
  refReach  : Nat
  tolerance : Nat
  deriving DecidableEq, Repr, Inhabited

/-- The Pose Solver (spec 03). -/
structure Ps where
  geometry     : Geometry
  held         : Vector HeldValue 5
  inFlight     : Option Computation
  pendingStart : Bool
  pose         : Pose
  grade        : Grade
  overdig      : Bool
  tipInterval  : Nat
  tipLast      : Option Stamp
  deriving DecidableEq, Repr, Inhabited

/-! ## Zone Table (spec 04) -/

/-- The kind of a stored zone (spec 04 section 4.1); EMPTY is the absence of a record. -/
inductive ZoneKind
  | keepOut | keepIn | ceiling | truckBay
  deriving DecidableEq, Repr, Inhabited

/-- Whether a zone is fixed to the tracks or to the ground (R56). -/
inductive Anchor
  | machine | site
  deriving DecidableEq, Repr, Inhabited

/-- The authority a zone needs before it may be set aside (R56). -/
inductive SuspendLevel
  | operator | supervisor | service | never
  deriving DecidableEq, Repr, Inhabited

/-- A zone record (R56). -/
structure ZoneRecord where
  kind          : ZoneKind
  anchor        : Anchor
  start         : Angle
  extent        : Nat
  rmin          : Int
  rmax          : Int
  hmin          : Int
  hmax          : Int
  angularMargin : Nat
  heightMargin  : Nat
  suspendLevel  : SuspendLevel
  armAtStart    : Bool
  label         : List Byte
  deriving DecidableEq, Repr, Inhabited

/-- The state an UNANCHORED zone returns to (R65). -/
inductive PriorState
  | dormant | armed | suspended
  deriving DecidableEq, Repr, Inhabited

/-- The state of an entry that holds a record (spec 04 section 4.3). -/
inductive ZoneState
  | dormant | armed | suspended
  | unanchored (prior : PriorState)
  deriving DecidableEq, Repr, Inhabited

/-- A record and its state. -/
structure Zone where
  record : ZoneRecord
  state  : ZoneState
  deriving DecidableEq, Repr, Inhabited

/-- One entry of the zone table: EMPTY (`none`) or a zone, with the two statistics (R56, R70). -/
structure ZoneEntry where
  held       : Option Zone := none
  intrusions : Nat := 0
  cuts       : Nat := 0
  deriving DecidableEq, Repr, Inhabited

/-- The Zone Table (spec 04). -/
structure Zt where
  zones      : Vector ZoneEntry 16
  unanchored : Nat
  deriving DecidableEq, Repr, Inhabited

/-! ## Slew Limiter (spec 05) -/

/-- The slew settings (R76). -/
structure SlewSettings where
  deceleration   : Nat
  hysteresis     : Nat
  swingThreshold : Nat
  deriving DecidableEq, Repr, Inhabited

/-- The marks the SL keeps for a zone (R84, R85, R90). -/
structure ZoneMarks where
  leftHeld  : Bool := false
  rightHeld : Bool := false
  caution   : Bool := false
  intrusion : Bool := false
  deriving DecidableEq, Repr, Inhabited

/-- The slew state (R87). -/
inductive SlewState
  | held | limiting | caution | free
  deriving DecidableEq, Repr, Inhabited

/-- The causes of one cut line: the zones on whose account it is due, ascending, and the held account (R87). -/
structure LineCauses where
  zones : List (Fin 16) := []
  held  : Bool := false
  deriving DecidableEq, Repr, Inhabited

/-- The causes of the three lines. -/
structure CutCauses where
  left   : LineCauses := {}
  right  : LineCauses := {}
  boomUp : LineCauses := {}
  deriving DecidableEq, Repr, Inhabited

/-- The Slew Limiter (spec 05). -/
structure Sl where
  settings  : SlewSettings
  pose      : Option Pose
  health    : Health
  marks     : Vector ZoneMarks 16
  state     : SlewState
  cutSet    : CutSet
  causes    : CutCauses
  prevAngle : Option Angle
  travel    : Nat
  turns     : BitVec 32
  deriving DecidableEq, Repr, Inhabited

/-! ## Cycle Tracker (spec 06) -/

/-- The cycle settings (R95). -/
structure CycleSettings where
  curlClosed   : Int
  curlOpen     : Int
  digHeight    : Int
  minLoadForce : Nat
  windowLength : Nat
  steadiness   : Nat
  boomRise     : Nat
  stopOnSoft   : Bool
  deriving DecidableEq, Repr, Inhabited

/-- The phase of the dig cycle (spec 06 section 6.3). -/
inductive Phase
  | unknown | digging | loaded | swingLoaded | dumping | returning
  deriving DecidableEq, Repr, Inhabited

/-- The quality of a weighed pass (R105). -/
inductive PassQuality
  | noWeight | light | unsteady | short | good
  deriving DecidableEq, Repr, Inhabited

/-- A weighed result (R104, R105). The mean force, the spread and the lifted force are absent for NO_WEIGHT. -/
structure Weighed where
  band    : Fin 8
  count   : Nat
  mean    : Option Int
  spread  : Option Int
  lifted  : Option Int
  payload : Option Nat
  quality : PassQuality
  deriving DecidableEq, Repr, Inhabited

/-- A weigh window: OPEN while `result` is absent, CLOSED with its weighed result (R102, R103). `forRun` says that it
opened while the run now active was active (R111, R117). -/
structure Window where
  band       : Fin 8
  length     : Nat
  steadiness : Nat
  sum        : Int
  count      : Nat
  least      : Option Int
  most       : Option Int
  forRun     : Bool
  result     : Option Weighed
  deriving DecidableEq, Repr, Inhabited

/-- The kind of a calibration run with what it keeps (spec 06 section 6.8). -/
inductive RunKind
  | empty (bands : Byte) (collected : Vector (List Int) 8)
  | gain (load : Nat)
  deriving DecidableEq, Repr, Inhabited

/-- A calibration run record (spec 06 section 6.8). -/
structure Run where
  kind : RunKind
  soft : Nat
  deriving DecidableEq, Repr, Inhabited

/-- The Cycle Tracker (spec 06). `step` is READY (`none`) or BUSY with the window it judges (R111). -/
structure Ct where
  settings : CycleSettings
  fempty   : Vector Int 8
  gain     : Vector Nat 8
  pose     : Option Pose
  health   : Health
  force    : Option Int
  phase    : Phase
  window   : Option Window
  run      : Option Run
  step     : Option Window
  waiting  : List Window
  deriving DecidableEq, Repr, Inhabited

/-! ## Load Recorder (spec 07) -/

/-- An entry of the truck class table; a target of 0 marks it unused (R119). -/
structure TruckClass where
  target    : Nat
  tolerance : Nat
  deriving DecidableEq, Repr, Inhabited

/-- A pass as the Cycle Tracker hands it over (R107); no bay is a CAST. -/
structure Pass where
  payload   : Option Nat
  quality   : PassQuality
  band      : Fin 8
  dumpAngle : Angle
  stamp     : Stamp
  bay       : Option (Fin 16)
  deriving DecidableEq, Repr, Inhabited

/-- A pass record of a load (spec 07 section 7.2). -/
structure PassRecord where
  position  : Nat
  payload   : Option Nat
  quality   : PassQuality
  band      : Fin 8
  dumpAngle : Angle
  stamp     : Stamp
  bay       : Fin 16
  deriving DecidableEq, Repr, Inhabited

/-- The state of a load record (spec 07 section 7.2). -/
inductive LoadState
  | isOpen | closedHost | closedFull | closedNewBay | closedTravel
  deriving DecidableEq, Repr, Inhabited

/-- A load record (spec 07 section 7.2). `fuelPerTonne` is the figure fixed at the closing (R126), absent while OPEN. -/
structure Load where
  number           : Nat
  cls              : Fin 16
  target           : Nat
  tolerance        : Nat
  bay              : Fin 16
  state            : LoadState
  passes           : List PassRecord
  total            : Nat
  incompleteWeight : Bool
  atTarget         : Bool
  overloaded       : Bool
  fuel             : BitVec 48
  fuelPerTonne     : Option Nat
  opened           : Stamp
  closed           : Option Stamp
  deriving DecidableEq, Repr, Inhabited

/-- The Load Recorder (spec 07). `travelTaken` says that it has taken the TRAVEL event of the reading that comes at this very
moment, before a pass that came with it (R129, assumption log 27). -/
structure Lr where
  classes      : Vector TruckClass 16
  nextClass    : Fin 16
  nextNumber   : Nat
  openLoad     : Option Load
  history      : List Load
  passTotal    : BitVec 32
  payloadTotal : BitVec 48
  travelTaken  : Bool
  deriving DecidableEq, Repr, Inhabited

/-! ## Economy Manager (spec 08) -/

/-- The economy settings (spec 08 section 8.4). -/
structure EconomySettings where
  workRpm       : Nat
  ecoRpm        : Nat
  idleRpm       : Nat
  ecoEnable     : Bool
  idleDelay     : Nat
  seatDelay     : Nat
  shutdownDelay : Nat
  coolantLimit  : Nat
  deriving DecidableEq, Repr, Inhabited

/-- An engine report after its clamps (R132). -/
structure EngineReport where
  rpm         : Nat
  load        : Nat
  fuelRate    : Nat
  coolant     : Option Int
  running     : Bool
  regenActive : Bool
  engineFault : Bool
  deriving DecidableEq, Repr, Inhabited

/-- The engine state copy: the last report with its stamp (R132). -/
structure EngineCopy where
  report : EngineReport
  stamp  : Stamp
  deriving DecidableEq, Repr, Inhabited

/-- The engine mode (spec 08 section 8.5). -/
inductive EngineMode
  | stopped | work | eco | autoIdle | shutdownPending | shutdownAdvised
  deriving DecidableEq, Repr, Inhabited

/-- The shutdown timer: an expired timer keeps its start, from which ECONOMY SET works the expiry out afresh (R142). -/
inductive ShutdownTimer
  | stopped
  | running (start : Stamp)
  | expired (start : Stamp)
  deriving DecidableEq, Repr, Inhabited

/-- Which commit the EM waits for (R143). -/
inductive CommitWait
  | none | prior | own
  deriving DecidableEq, Repr, Inhabited

/-- The reasons of an advice (R145). -/
structure Reasons where
  derate         : Bool
  ecoPhase       : Bool
  idleTimer      : Bool
  shutdown       : Bool
  deferred       : Bool
  cancel         : Bool
  retainedFailed : Bool
  deriving DecidableEq, Repr, Inhabited

/-- The four fields of an advice (R145). -/
structure Advice where
  mode    : EngineMode
  rpm     : Nat
  cap     : Nat
  reasons : Reasons
  deriving DecidableEq, Repr, Inhabited

/-- The Economy Manager (spec 08). -/
structure Em where
  settings        : EconomySettings
  copy            : Option EngineCopy
  mode            : EngineMode
  idleTimer       : Option Stamp
  shutdownTimer   : ShutdownTimer
  deferred        : Bool
  cancel          : Bool
  failed          : Bool
  wait            : CommitWait
  fuelTotal       : BitVec 48
  engineSeconds   : Nat
  weightedSeconds : Nat
  histogram       : Vector Nat 8
  fuelAcc         : Nat
  engineMs        : Nat
  weightedAcc     : Nat
  bucketMs        : Vector Nat 8
  gaps            : Nat
  cap             : Nat
  lastAdvice      : Advice
  deriving DecidableEq, Repr, Inhabited

/-! ## Service Table (spec 09) -/

/-- The wear basis of a service item (spec 09 section 9.1). -/
inductive Basis
  | engineHours | weightedHours | fuelLitres | slewTurns | passes | tonnes
  deriving DecidableEq, Repr, Inhabited

/-- The severity of a service item (R148). -/
inductive Severity
  | advisory | derate
  deriving DecidableEq, Repr, Inhabited

/-- The definition of a service item (R148). -/
structure ServiceDef where
  code     : Nat
  basis    : Basis
  interval : Nat
  warn     : Nat
  grace    : Nat
  severity : Severity
  cap      : Nat
  deriving DecidableEq, Repr, Inhabited

/-- A service item's retained content (R148). -/
structure ServiceItem where
  definition : ServiceDef
  consumed   : Nat
  attention  : Bool
  suspended  : Bool
  deriving DecidableEq, Repr, Inhabited

/-- The state of a service item (R150). -/
inductive ItemState
  | ok | dueSoon | due | overdue | suspended
  deriving DecidableEq, Repr, Inhabited

/-- A service item with its state, which is volatile (spec 09, the table of what the ST holds). -/
structure ServiceEntry where
  item  : ServiceItem
  state : ItemState
  deriving DecidableEq, Repr, Inhabited

/-- The Service Table (spec 09). -/
structure St where
  entries     : Vector (Option ServiceEntry) 24
  reportedCap : Nat
  deriving DecidableEq, Repr, Inhabited

/-! ## Retained Store (spec 10) -/

/-- The retained content (R161). -/
structure Retained where
  channels        : Vector ChannelSettings 6
  geometry        : Geometry
  zones           : Vector (Option ZoneRecord) 16
  slew            : SlewSettings
  slewTurns       : BitVec 32
  cycle           : CycleSettings
  fempty          : Vector Int 8
  gain            : Vector Nat 8
  classes         : Vector TruckClass 16
  passTotal       : BitVec 32
  payloadTotal    : BitVec 48
  economy         : EconomySettings
  fuelTotal       : BitVec 48
  engineSeconds   : Nat
  weightedSeconds : Nat
  histogram       : Vector Nat 8
  items           : Vector (Option ServiceItem) 24
  deriving DecidableEq, Repr, Inhabited

/-- The layout version of an image, as far as any rule reads it: this part's, or another (R166). -/
inductive LayoutVersion
  | ofThisPart | other
  deriving DecidableEq, Repr, Inhabited

/-- The retained image: its content, its layout version and whether its integrity check agrees with them (R161, R166;
the check's method is not in the spec, assumption log 5). -/
structure Image where
  layout      : LayoutVersion
  content     : Retained
  checkAgrees : Bool
  deriving DecidableEq, Repr, Inhabited

/-- Who asked for a commit (R163). -/
inductive Requester
  | host | economy
  deriving DecidableEq, Repr, Inhabited

/-- The commit record (spec 10, the table of what the RS holds). -/
structure CommitRecord where
  snapshot  : Retained
  requester : Requester
  attempt   : Nat
  deriving DecidableEq, Repr, Inhabited

/-- The state of the Retained Store, with the commit record while COMMITTING (spec 10 section 10.2). -/
inductive RsState
  | clean | dirty | failed
  | committing (record : CommitRecord)
  deriving DecidableEq, Repr, Inhabited

/-- The result of a commit that a RESTART waited for (R167, R177). -/
structure AwaitedCommit where
  done     : Bool
  attempts : Nat
  deriving DecidableEq, Repr, Inhabited

/-- The Retained Store (spec 10). -/
structure Rs where
  image          : Image
  state          : RsState
  changed        : Bool
  restartPending : Bool
  awaited        : Option AwaitedCommit
  deriving DecidableEq, Repr, Inhabited

/-! ## Link Controller (spec 11) -/

/-- A good frame from the host (R170). -/
structure CommandFrame where
  kind : Byte
  tag  : Byte
  body : List Byte
  deriving DecidableEq, Repr, Inhabited

/-- A reply: the kind with bit 7 set, the tag, and the body whose first byte is the status (R173). -/
structure Reply where
  kind : Byte
  tag  : Byte
  body : List Byte
  deriving DecidableEq, Repr, Inhabited

/-- The cause of a reset (R177). -/
inductive ResetCause
  | powerOn | restart
  deriving DecidableEq, Repr, Inhabited

/-- The retained result of STARTED (R177). -/
inductive RetainedResult
  | loaded | retainedLost | clean | dirty | failed
  deriving DecidableEq, Repr, Inhabited

/-- Why a zone was re-armed (R72). -/
inductive RearmCause
  | authority | reanchor
  deriving DecidableEq, Repr, Inhabited

/-- Why an intrusion ended (R90). -/
inductive IntrusionEndCause
  | disarmed | unknown | cleared
  deriving DecidableEq, Repr, Inhabited

/-- The event of a ZONE EVENT with the fields of its own (R72, R90). -/
inductive ZoneEvent
  | reArmed (cause : RearmCause)
  | unanchored (prior : PriorState)
  | intrusion (kind : ZoneKind) (angle : Angle) (reach height : Int) (poseCount : BitVec 32)
  | intrusionEnd (cause : IntrusionEndCause) (poseCount : BitVec 32)
  deriving DecidableEq, Repr, Inhabited

/-- The fields of a SLEW STATE notice (R88). -/
structure SlewReport where
  previous  : SlewState
  new       : SlewState
  cutSet    : CutSet
  causes    : CutCauses
  lead      : Nat
  angle     : Angle
  rate      : Int
  valid     : Bool
  poseCount : BitVec 32
  stamp     : Stamp
  deriving DecidableEq, Repr, Inhabited

/-- Why an over-dig ended (R51). -/
inductive OverdigEndCause
  | risen | invalid | gradeOff
  deriving DecidableEq, Repr, Inhabited

/-- The event of a LOAD EVENT with the fields of its own (spec 07 section 7.6). -/
inductive LoadEventKind
  | opened | atTarget | overloaded
  | lastPass (remaining mean : Nat)
  | reclassed
  | closed
  deriving DecidableEq, Repr, Inhabited

/-- How a calibration run ended FAILED (R114, R115). -/
inductive RunFailure
  | softLimit | softStop | hardPressure | hardPose | hardSettings
  deriving DecidableEq, Repr, Inhabited

/-- The outcome of a calibration run (R117); DONE carries the band set written and the new entries, ascending by band. -/
inductive RunOutcome
  | done (bands : Byte) (values : List Int)
  | cancelled
  | failed (reason : RunFailure)
  deriving DecidableEq, Repr, Inhabited

/-- The notices of the part with their fields (spec 11 section 11.5). -/
inductive Notice
  | started (cause : ResetCause) (result : RetainedResult) (awaited : Option AwaitedCommit)
  | channelHealth (channel : Fin 6) (previous new : Health) (time : Stamp)
  | authority (previous new : Authority) (time : Stamp)
  | zoneEvent (event : ZoneEvent) (index : Fin 16) (state : Option ZoneState) (time : Stamp)
  | slewState (report : SlewReport)
  | tipReport (reach height : Int) (angle : Angle) (gradeError : Option Int) (quality : PoseQuality) (poseCount : BitVec 32)
  | gradeEvent (ended : Option OverdigEndCause) (reach height : Int) (gradeError : Option Int) (quality : PoseQuality) (poseCount : BitVec 32) (stamp : Stamp)
  | passRecorded (passTotal : BitVec 32) (filed : Option (Nat × Nat × Nat)) (pass : Pass)
  | loadEvent (event : LoadEventKind) (load : Load) (time : Stamp)
  | calibrationResult (gainRun : Bool) (outcome : RunOutcome) (soft : Nat) (time : Stamp)
  | engineAdvice (advice : Advice) (time : Stamp)
  | serviceAttention (index : Fin 24) (previous new : ItemState) (item : ServiceItem) (time : Stamp)
  | commitResult (requester : Requester) (done : Bool) (attempts : Nat) (state : RsState) (time : Stamp)
  deriving DecidableEq, Repr, Inhabited

/-- What the transmitter sends: a reply or a notice (R175). -/
inductive TxFrame
  | reply (r : Reply)
  | notice (n : Notice)
  deriving DecidableEq, Repr, Inhabited

/-- The transmitter (R175). -/
inductive Transmitter
  | free
  | sending (frame : TxFrame)
  deriving DecidableEq, Repr, Inhabited

/-- The interpreter (R172). -/
inductive Interpreter
  | idle | interpreting
  deriving DecidableEq, Repr, Inhabited

/-- The six link statistics, 16-bit saturating (R179). -/
structure LinkStats where
  received  : Nat := 0
  check     : Nat := 0
  length    : Nat := 0
  timeout   : Nat := 0
  framing   : Nat := 0
  inboxFull : Nat := 0
  deriving DecidableEq, Repr, Inhabited

/-- The rate of the host link (R169). -/
inductive LinkRate
  | r115200 | r460800
  deriving DecidableEq, Repr, Inhabited

/-- The Link Controller (spec 11). `early` says of each waiting notice in turn, the oldest first, whether it waited already
when a RESTART was taken; one of which it says nothing did not, and while a RESTART is pending the others are not sent (R167,
assumption log 10). -/
structure Lc where
  assembler   : Assembler
  lastChar    : Stamp
  inbox       : List CommandFrame
  interpreter : Interpreter
  replySlot   : Option Reply
  notices     : List Notice
  early       : List Bool
  tx          : Transmitter
  stats       : LinkStats
  noticeLoss  : Nat
  rate        : LinkRate
  time        : Stamp
  deriving DecidableEq, Repr, Inhabited

end Sys2Proof
end

