-- ==== Sys2Proof/Syntax.lean ====
section
/-! DEFINITION. The commands of the part: one constructor for each row of spec/opcode_table.json.
The 33 host commands and UNKNOWN_KIND are the interpreter's taking of a frame at the head of the inbox (R172): their
operands are the frame's tag and body (and its kind, for UNKNOWN_KIND). The rest are events of the lines, the timers,
the units that take time, and the supply (assumption log 1). -/

namespace Sys2Proof

/-- The commands (spec/opcode_table.json, row by row). -/
inductive Instr
  /-- SENSOR_FRAME_ARRIVAL (R1, R3): the ninth character of a frame, with a good stop bit. -/
  | sensorFrameArrival (ch : Fin 6) (char : Byte)
  /-- SENSOR_FRAMING_ERROR (R1): a character with a low stop bit. -/
  | sensorFramingError (ch : Fin 6)
  /-- BREAK_DETECTED (R15): the low sample that takes the low run to 5. -/
  | breakDetected (ch : Fin 6)
  /-- BREAK_END (R15): the second high sample in a row while the break mark is set. -/
  | breakEnd (ch : Fin 6)
  /-- STALE_TIMER_EXPIRY (R14). -/
  | staleTimerExpiry (ch : Fin 6)
  /-- SILENT_TIMER_EXPIRY (R14). -/
  | silentTimerExpiry (ch : Fin 6)
  /-- CHANNEL_SET (R20). -/
  | channelSet (tag : Byte) (body : List Byte)
  /-- CHANNEL_STATUS (R21). -/
  | channelStatus (tag : Byte) (body : List Byte)
  /-- CHANNEL_RESTART (R22). -/
  | channelRestart (tag : Byte) (body : List Byte)
  /-- INPUT_LEVEL_CHANGE (R24): a reading that accepts at least one new level. -/
  | inputLevelChange (samples : InputSamples)
  /-- ALARM_CADENCE (R33): an on or off period ends. -/
  | alarmCadence
  /-- POSE_COMPLETION (R48). -/
  | poseCompletion
  /-- CALIBRATION_STEP_END (R111). -/
  | calibrationStepEnd
  /-- GEOMETRY_SET (R36). -/
  | geometrySet (tag : Byte) (body : List Byte)
  /-- GEOMETRY_GET (R37). -/
  | geometryGet (tag : Byte) (body : List Byte)
  /-- GRADE_SET (R49). -/
  | gradeSet (tag : Byte) (body : List Byte)
  /-- TIP_SUBSCRIBE (R52). -/
  | tipSubscribe (tag : Byte) (body : List Byte)
  /-- ZONE_WRITE (R59). -/
  | zoneWrite (tag : Byte) (body : List Byte)
  /-- ZONE_CLEAR (R60). -/
  | zoneClear (tag : Byte) (body : List Byte)
  /-- ZONE_READ (R71). -/
  | zoneRead (tag : Byte) (body : List Byte)
  /-- ZONE_SUSPEND (R62). -/
  | zoneSuspend (tag : Byte) (body : List Byte)
  /-- ZONE_RESUME (R63). -/
  | zoneResume (tag : Byte) (body : List Byte)
  /-- REANCHOR (R66). -/
  | reanchor (tag : Byte) (body : List Byte)
  /-- SLEW_SETTINGS (R76). -/
  | slewSettings (tag : Byte) (body : List Byte)
  /-- CYCLE_SETTINGS (R95). -/
  | cycleSettings (tag : Byte) (body : List Byte)
  /-- CALIBRATE_EMPTY (R109). -/
  | calibrateEmpty (tag : Byte) (body : List Byte)
  /-- CALIBRATE_GAIN (R110). -/
  | calibrateGain (tag : Byte) (body : List Byte)
  /-- CALIBRATE_CANCEL (R116). -/
  | calibrateCancel (tag : Byte) (body : List Byte)
  /-- TRUCK_CLASS_SET (R119). -/
  | truckClassSet (tag : Byte) (body : List Byte)
  /-- LOAD_NEXT (R120). -/
  | loadNext (tag : Byte) (body : List Byte)
  /-- LOAD_CLOSE (R128). -/
  | loadClose (tag : Byte) (body : List Byte)
  /-- LOAD_READ (R130). -/
  | loadRead (tag : Byte) (body : List Byte)
  /-- ENGINE_REPORT (R132). -/
  | engineReport (tag : Byte) (body : List Byte)
  /-- COUNTERS_READ (R136). -/
  | countersRead (tag : Byte) (body : List Byte)
  /-- ECONOMY_SET (R137). -/
  | economySet (tag : Byte) (body : List Byte)
  /-- IDLE_TIMER_EXPIRY (R139). -/
  | idleTimerExpiry
  /-- SHUTDOWN_TIMER_EXPIRY (R142). -/
  | shutdownTimerExpiry
  /-- SERVICE_ITEM_SET (R155). -/
  | serviceItemSet (tag : Byte) (body : List Byte)
  /-- SERVICE_READ (R156). -/
  | serviceRead (tag : Byte) (body : List Byte)
  /-- SERVICE_ACK (R157). -/
  | serviceAck (tag : Byte) (body : List Byte)
  /-- SERVICE_DONE (R158). -/
  | serviceDone (tag : Byte) (body : List Byte)
  /-- SERVICE_SUSPEND (R159). -/
  | serviceSuspend (tag : Byte) (body : List Byte)
  /-- COMMIT (R163). -/
  | commit (tag : Byte) (body : List Byte)
  /-- COMMIT_ATTEMPT_END (R164): whether the write was completed, and the image as it is read back. -/
  | commitAttemptEnd (written : Bool) (readBack : Image)
  /-- RESTART (R167). -/
  | restart (tag : Byte) (body : List Byte)
  /-- RESTART_TAKES_EFFECT (R167). -/
  | restartTakesEffect
  /-- POWER_ON (R166), with the LINK_SPEED strap (R169): `true` is high. -/
  | powerOn (strapHigh : Bool)
  /-- HOST_FRAME_ARRIVAL (R170): the last CRC character of a frame. -/
  | hostFrameArrival (char : Byte)
  /-- HOST_FRAMING_ERROR (R169): a character with a low stop bit. -/
  | hostFramingError
  /-- HOST_LENGTH_ERROR (R169): a length character outside 2..242. -/
  | hostLengthError (char : Byte)
  /-- HOST_GAP_TIMEOUT (R169): a character more than 20 ms after the one before. -/
  | hostGapTimeout (char : Byte)
  /-- UNKNOWN_KIND (R172). -/
  | unknownKind (kind tag : Byte) (body : List Byte)
  /-- GET_STATUS (R176). -/
  | getStatus (tag : Byte) (body : List Byte)
  /-- TRANSMIT_END (R175). -/
  | transmitEnd
  /-- SENSOR_CHARACTER (R1): a character with a good stop bit that does not complete a frame. -/
  | sensorCharacter (ch : Fin 6) (char : Byte)
  /-- HOST_CHARACTER (R169): a character with a good stop bit that is none of the rows above. -/
  | hostCharacter (char : Byte)
  /-- INPUT_READING (R24): a reading that accepts no level change. -/
  | inputReading (samples : InputSamples)
  /-- BREAK_DETECTOR_SAMPLE (R15): a line sample (`true` is high) that neither detects nor ends a break. -/
  | breakDetectorSample (ch : Fin 6) (high : Bool)
  /-- POWER_LOSS (R165): with the image that a write cut short leaves. -/
  | powerLoss (left : Image)
  deriving DecidableEq, Repr

end Sys2Proof
end

