-- ==== Sys2Proof/Config.lean ====
section
/-! DEFINITION. What the spec leaves free. Constants without a body: a claim holds whatever they are. -/

namespace Sys2Proof

/-- The order the part takes where the spec says that deliveries or events "have no order among themselves", or that
either of two may be taken first inside one step: the n-th such choice of a run reads `freeChoice n`
(R27, R32, R48, R101, R125, R129, R134, R143, and where it names none: R18, R24, R36, R72, R90, R96; assumption logs 7, 8, 9, 14,
22, 27, 31, 32). -/
opaque Config.freeChoice : Nat → Nat

end Sys2Proof
end

