-- ==== Sys2Proof/Machine/Defaults.lean ====
section
/-! DEFINITION. The values the blocks take at a reset: the defaults of the retained content when the image is lost
(R161 and the rules it names), and the reset values of the volatile records. -/

namespace Sys2Proof

/-- The default stale window of a channel (spec 01, the table at the head). -/
def defaultWindow : Fin 6 → Nat
  | 4 => 200
  | 5 => 30
  | _ => 50

/-- The default settings of a channel (R23). -/
def ChannelSettings.default (ch : Fin 6) : ChannelSettings :=
  { enable := true, unit := 0, mask := 0, window := defaultWindow ch, spacing := 5, mode := .latest }

/-- The default geometry record (R35). -/
def Geometry.default : Geometry :=
  { fx := 800, fz := 2900, lb := 7600, ls := 3400, lk := 1900, ah := 1600, ar := 900, bandOrigin := 3000, bandWidth := 1500 }

/-- The default slew settings (R76). -/
def SlewSettings.default : SlewSettings :=
  { deceleration := 1820, hysteresis := 64, swingThreshold := 910 }

/-- The default cycle settings (R95). -/
def CycleSettings.default : CycleSettings :=
  { curlClosed := 6000, curlOpen := 2000, digHeight := -500, minLoadForce := 200000, windowLength := 16
    steadiness := 400000, boomRise := 182, stopOnSoft := false }

/-- The default truck class table (R119): class 0 in use, the others unused. -/
def defaultClasses : Vector TruckClass 16 :=
  (Vector.replicate 16 { target := 0, tolerance := 0 }).set 0 { target := 90000, tolerance := 5000 }

/-- The default economy settings (spec 08 section 8.4, R137). -/
def EconomySettings.default : EconomySettings :=
  { workRpm := 1800, ecoRpm := 1500, idleRpm := 900, ecoEnable := true, idleDelay := 5, seatDelay := 3
    shutdownDelay := 600, coolantLimit := 95 }

/-- The retained content every block takes when the image is lost (R161). -/
def Retained.default : Retained :=
  { channels := #v[.default 0, .default 1, .default 2, .default 3, .default 4, .default 5]
    geometry := .default
    zones := Vector.replicate 16 none
    slew := .default
    slewTurns := 0
    cycle := .default
    fempty := Vector.replicate 8 0
    gain := Vector.replicate 8 1024
    classes := defaultClasses
    passTotal := 0
    payloadTotal := 0
    economy := .default
    fuelTotal := 0
    engineSeconds := 0
    weightedSeconds := 0
    histogram := Vector.replicate 8 0
    items := Vector.replicate 24 none }

/-- The health a reset gives a channel (R23). -/
def ChannelSettings.resetHealth (c : ChannelSettings) : Health :=
  if c.enable then .acquiring else .off

/-- A channel context after a reset (R23). -/
def ChannelSettings.freshChannel (c : ChannelSettings) : Channel :=
  { settings := c, health := c.resetHealth }

/-- The empty set of cut lines. -/
def CutSet.empty : CutSet := { left := false, right := false, boomUp := false }

/-- All three cut lines (R31). -/
def CutSet.all : CutSet := { left := true, right := true, boomUp := true }

/-- The seven debouncers after a reset (R25). -/
def freshInputs : PerInput Debouncer :=
  { pilotEnable := {}, seat := {}, joyLeft := {}, joyRight := {}, travel := {}, supervisorKey := {}, servicePlug := {} }

/-- The Machine Line Unit after a reset, with the ZT alarm slot as the zone table's state gives it
(R25, R28, R31, R34, R74, R75); the first reading falls 2 ms after the reset (R24). -/
def Mlu.fresh (ztSlot : AlarmPattern) : Mlu :=
  { inputs := freshInputs
    nextReading := 2
    authority := .operator
    cutCopy := .all
    cutLines := .all
    slots := { zt := ztSlot }
    driven := ztSlot
    sounder := ztSlot != .off
    periodStart := 0 }

/-- The pose record after a reset (R54). -/
def Pose.fresh : Pose :=
  { reach := 0, height := 0, slewAngle := 0, slewRate := 0, boomAngle := 0, stickAngle := 0, bucketAngle := 0
    boomRate := 0, stickRate := 0, bucketRate := 0, curl := 0, tilt := 0, gradeError := none, quality := .invalid
    slewValid := false, tiltClamped := false, stamp := 0, count := 0 }

/-- The Pose Solver after a reset, with the computation of R55 in flight (R54, R55). -/
def Ps.fresh (g : Geometry) (health : Vector Health 5) : Ps :=
  { geometry := g
    held := Vector.replicate 5 {}
    inFlight := some { geometry := g, health := health, usedDegraded := false }
    pendingStart := false
    pose := .fresh
    grade := { on := false, depth := 0, slope := 0, refReach := 0, tolerance := 0 }
    overdig := false
    tipInterval := 0
    tipLast := none }

/-- The Slew Limiter after a reset (R94). -/
def Sl.fresh (settings : SlewSettings) (turns : BitVec 32) (health : Health) : Sl :=
  { settings := settings, pose := none, health := health, marks := Vector.replicate 16 {}, state := .held
    cutSet := .all, causes := {}, prevAngle := none, travel := 0, turns := turns }

/-- The Cycle Tracker after a reset (R118). -/
def Ct.fresh (settings : CycleSettings) (fempty : Vector Int 8) (gain : Vector Nat 8) (health : Health) : Ct :=
  { settings := settings, fempty := fempty, gain := gain, pose := none, health := health, force := none
    phase := .unknown, window := none, run := none, step := none, waiting := [] }

/-- The Load Recorder after a reset (R131). -/
def Lr.fresh (classes : Vector TruckClass 16) (passTotal : BitVec 32) (payloadTotal : BitVec 48) : Lr :=
  { classes := classes, nextClass := 0, nextNumber := 1, openLoad := none, history := []
    passTotal := passTotal, payloadTotal := payloadTotal, travelTaken := false }

/-- The reasons of the advice a reset sets, by the cap alone (R145, R147). -/
def Reasons.ofCap (cap : Nat) : Reasons :=
  { derate := decide (cap < 100), ecoPhase := false, idleTimer := false, shutdown := false, deferred := false
    cancel := false, retainedFailed := false }

/-- The Economy Manager after a reset (R147). -/
def Em.fresh (r : Retained) (cap : Nat) : Em :=
  { settings := r.economy, copy := none, mode := .stopped, idleTimer := none, shutdownTimer := .stopped
    deferred := false, cancel := false, failed := false, wait := .none, fuelTotal := r.fuelTotal
    engineSeconds := r.engineSeconds, weightedSeconds := r.weightedSeconds, histogram := r.histogram
    fuelAcc := 0, engineMs := 0, weightedAcc := 0, bucketMs := Vector.replicate 8 0, gaps := 0, cap := cap
    lastAdvice := { mode := .stopped, rpm := 0, cap := cap, reasons := .ofCap cap } }

/-- The Link Controller after a reset, STARTED not yet handed over (R177). A frame being sent stays with the transmitter. -/
def Lc.fresh (rate : LinkRate) (tx : Transmitter) : Lc :=
  { assembler := .hunting, lastChar := 0, inbox := [], interpreter := .idle, replySlot := none, notices := []
    early := [], tx := tx, stats := {}, noticeLoss := 0, rate := rate, time := 0 }

end Sys2Proof
end

