-- ==== Sys2Proof/Machine/State.lean ====
section
/-! DEFINITION. The state of the part, its outcomes' reasons, and the state after reset. -/

namespace Sys2Proof.Machine

/-- The part: its eleven blocks (spec 00 section 3), whether it is supplied, how many free choices have been read, and the
queue of commands waiting, first in, first out. -/
structure State where
  scu     : Vector Channel 6
  mlu     : Mlu
  ps      : Ps
  zt      : Zt
  sl      : Sl
  ct      : Ct
  lr      : Lr
  em      : Em
  st      : St
  rs      : Rs
  lc      : Lc
  powered : Bool
  choices : Nat
  pending : List Instr
  deriving DecidableEq, Repr

/-- The reasons a step can stop with a fault: none. The spec names no event that stops the part; its errors are
statistics, health states, reply statuses and notices (INVENTORY.md, Faults). Nothing raises a fault, so this is safe. -/
inductive Fault
  deriving DecidableEq, Repr

/-- The reasons a step can be refused. -/
inductive Refusal
  /-- Raised by `exec` for a command of the table that has no meaning yet; none is left, so nothing raises it. Safe. -/
  | notModelled (mnemonic : String)
  deriving DecidableEq, Repr

/-- The part right after a power-on that found the image lost, with the LINK_SPEED strap low (R166, R177; assumption
log 4): default retained content, store DIRTY, the reset computation in flight (R55), and the STARTED notice, the only
notice, already taken by the free transmitter (R175). -/
def State.reset : State where
  scu := #v[(ChannelSettings.default 0).freshChannel, (ChannelSettings.default 1).freshChannel,
    (ChannelSettings.default 2).freshChannel, (ChannelSettings.default 3).freshChannel,
    (ChannelSettings.default 4).freshChannel, (ChannelSettings.default 5).freshChannel]
  mlu := .fresh .off
  ps := .fresh .default (Vector.replicate 5 .acquiring)
  zt := { zones := Vector.replicate 16 {}, unanchored := 0 }
  sl := .fresh .default 0 .acquiring
  ct := .fresh .default (Vector.replicate 8 0) (Vector.replicate 8 1024) .acquiring
  lr := .fresh defaultClasses 0 0
  em := .fresh .default 100
  st := { entries := Vector.replicate 24 none, reportedCap := 100 }
  rs := { image := { layout := .ofThisPart, content := .default, checkAgrees := false }
          state := .dirty, changed := false, restartPending := false, awaited := none }
  lc := { Lc.fresh .r115200 (.sending (.notice (.started .powerOn .retainedLost none))) with notices := [] }
  powered := true
  choices := 0
  pending := []

end Sys2Proof.Machine
end

