-- ==== Sys2Proof/Machine/Ops.lean ====
section
/-! DEFINITION. The operations every block shares: part time, saturating counts, one channel or zone of a table, and the
free order of deliveries. -/

namespace Sys2Proof.Machine

/-- What a meaning answers. -/
abbrev Result := Host.Outcome State Fault Refusal

/-- A command that the state does not allow to happen changes nothing (assumption log 1). -/
def whenDue (due : Bool) (s : State) (f : State → State) : Result :=
  .next (if due then f s else s)

/-- Part time (R178). -/
def State.now (s : State) : Stamp := s.lc.time

/-- The time from `start` to `now`, their difference mod 2³² (R178). -/
def elapsed (now start : Stamp) : Nat := (now - start).toNat

/-- A saturating addition: the count stops at `cap` (spec 00 section 5.3). -/
def satAdd (cap count amount : Nat) : Nat := min cap (count + amount)

/-- The largest value of a 16-bit saturating count. -/
def max16 : Nat := 65535

/-- The largest value of a 32-bit saturating count. -/
def max32 : Nat := 4294967295

/-- `v` clamped to `lo..hi` (spec 00 section 5.2). -/
def clampInt (lo hi v : Int) : Int := max lo (min hi v)

/-- A change of one channel context. -/
def onChannel (ch : Fin 6) (f : Channel → Channel) (s : State) : State :=
  { s with scu := s.scu.set ch (f s.scu[ch]) }

/-- A change of one zone entry. -/
def onZone (i : Fin 16) (f : ZoneEntry → ZoneEntry) (s : State) : State :=
  { s with zt := { s.zt with zones := s.zt.zones.set i (f s.zt.zones[i]) } }

/-- Run sequences of actions, each sequence in its own order, interleaved in an order the spec leaves open: while two or more
sequences have actions left, the next free choice names the one whose action comes next (assumption log 7). The first
argument bounds the number of actions. -/
def runInterleaved : Nat → List (List (State → State)) → State → State
  | 0, _, s => s
  | n + 1, qs, s =>
    match qs.filter fun q => !q.isEmpty with
    | [] => s
    | [q] => q.foldl (fun s f => f s) s
    | q :: r :: rest =>
      let live := q :: r :: rest
      let k := Config.freeChoice s.choices % live.length
      let chosen := live.getD k []
      runInterleaved n (live.set k chosen.tail) (chosen.headD id { s with choices := s.choices + 1 })

/-- Run sequences that have no order among themselves. -/
def interleave (qs : List (List (State → State))) (s : State) : State :=
  runInterleaved (qs.map List.length).sum qs s

/-- Run actions that have no order among themselves (R27, R48, R101, R125, R134, R151). -/
def anyOrder (fs : List (State → State)) (s : State) : State := interleave (fs.map fun f => [f]) s

end Sys2Proof.Machine
end

