-- ==== Sys2Proof/Machine/Flags.lean ====
section
/-! DEFINITION. Check codes, flag sets and ranks: the CRC of the sensor frame (R2) and of the link frame (R168), the union
of sample flags (R11), and the orders of authority, suspend level, alarm pattern and item state. -/

namespace Sys2Proof

/-- The union of two sets of sample flags (R11). -/
def SampleFlags.union (a b : SampleFlags) : SampleFlags :=
  { degraded := a.degraded || b.degraded, fault := a.fault || b.fault, gap := a.gap || b.gap, clamped := a.clamped || b.clamped }

/-- Rising order of authority (spec 00 section 5.5). -/
def Authority.rank : Authority → Nat
  | .operator => 0
  | .supervisor => 1
  | .service => 2

/-- Rising order of suspend level; NEVER is above every authority (R62). -/
def SuspendLevel.rank : SuspendLevel → Nat
  | .operator => 0
  | .supervisor => 1
  | .service => 2
  | .never => 3

/-- The rank of an alarm pattern (spec 02 section 2.6). -/
def AlarmPattern.rank : AlarmPattern → Nat
  | .off => 0
  | .chirp => 1
  | .pulse => 2
  | .steady => 3

/-- The higher-ranked of two patterns (R32). -/
def AlarmPattern.higher (a b : AlarmPattern) : AlarmPattern :=
  if a.rank < b.rank then b else a

/-- The highest-ranked pattern among the slots (R32). -/
def AlarmSlots.highest (s : AlarmSlots) : AlarmPattern := (s.sl.higher s.ps).higher s.zt

/-- Whether a store state is COMMITTING (R162). -/
def RsState.isCommitting : RsState → Bool
  | .committing _ => true
  | _ => false

/-- Whether a channel is FAILED or OFF (R42, R92, R96). -/
def Health.isDown : Health → Bool
  | .failed _ | .off => true
  | _ => false

namespace Machine

/-- One bit of the CRC-8, polynomial 0x07, most significant bit first (R2). -/
def crc8Shift (c : Byte) : Byte :=
  if c.msb then (c <<< 1) ^^^ 0x07 else c <<< 1

/-- One byte of the CRC-8 (R2). -/
def crc8Byte (c b : Byte) : Byte := crc8Shift^[8] (c ^^^ b)

/-- The CRC-8 over bytes, from 0, without final inversion (R2). -/
def crc8 (bytes : List Byte) : Byte := bytes.foldl crc8Byte 0

/-- One bit of the CRC-16, polynomial 0x1021, most significant bit first (R168). -/
def crc16Shift (c : BitVec 16) : BitVec 16 :=
  if c.msb then (c <<< 1) ^^^ 0x1021 else c <<< 1

/-- One byte of the CRC-16 (R168). -/
def crc16Byte (c : BitVec 16) (b : Byte) : BitVec 16 :=
  crc16Shift^[8] (c ^^^ (b.setWidth 16 <<< 8))

/-- The CRC-16 over bytes, from 0xFFFF, not reflected, without final inversion (R168). -/
def crc16 (bytes : List Byte) : BitVec 16 := bytes.foldl crc16Byte 0xFFFF

end Machine

end Sys2Proof
end

