-- ==== Sys2Proof/Machine/Operands.lean ====
section
/-! DEFINITION. The operand forms of the host commands: the length of each body and the fields read from it, in the order
and widths of R180, with the ranges each owner's rule checks. A reader answers `none` where the owner refuses the command
with BAD_FIELD for its fields alone. -/

namespace Sys2Proof.Machine

/-! ## Fields -/

/-- A one-byte number at offset `i`. -/
def u8 (b : List Byte) (i : Nat) : Nat := (b.getD i 0).toNat

/-- A two-byte number at offset `i`, high byte first. -/
def u16 (b : List Byte) (i : Nat) : Nat := u8 b i * 256 + u8 b (i + 1)

/-- A four-byte number at offset `i`, high byte first. -/
def u32 (b : List Byte) (i : Nat) : Nat := u16 b i * 65536 + u16 b (i + 2)

/-- A 16-bit value read as two's complement. -/
def signed16 (n : Nat) : Int := if n < 32768 then n else (n : Int) - 65536

/-- A two-byte signed number at offset `i` (R168). -/
def s16 (b : List Byte) (i : Nat) : Int := signed16 (u16 b i)

/-- An index below `k`. -/
def index? (k n : Nat) : Option (Fin k) := if h : n < k then some ⟨n, h⟩ else none

/-- A flag, a setting or a switch that is off or on: 1 or 0, any other value names none (R180, assumption log 11). -/
def flag? : Nat → Option Bool
  | 0 => some false
  | 1 => some true
  | _ => none

/-- The operation of a command that reads or writes: READ is 0, WRITE is 1 (R95, R119, R137, R180). -/
inductive ReadWrite (α : Type)
  | read
  | write (value : α)
  deriving DecidableEq, Repr

/-! ## Body lengths (R172, R180) -/

/-- The length of a command that carries an operation with codes 0 and 1; a code that names none may come with either
length, for the owner to refuse (assumption log 11). -/
def lengthByOp (n0 n1 : Nat) (b : List Byte) : Bool :=
  match b with
  | [] => false
  | op :: _ =>
    if op = 0 then b.length == n0 else if op = 1 then b.length == n1 else b.length == n0 || b.length == n1

/-- ZONE WRITE has 22 bytes and the label (R180). -/
def zoneWriteLength (b : List Byte) : Bool := decide (22 ≤ b.length) && b.length == 22 + u8 b 21

/-- SERVICE ACK has a count byte and that many indexes (R157, R180). -/
def serviceAckLength (b : List Byte) : Bool := decide (1 ≤ b.length) && b.length == 1 + u8 b 0

/-! ## Bodies -/

/-- Status mode codes (R20). -/
def statusMode? : Nat → Option StatusMode
  | 0 => some .latest
  | 1 => some .accumulated
  | _ => none

/-- CHANNEL SET (R20). -/
def channelSet? (b : List Byte) : Option (Fin 6 × ChannelSettings) :=
  match index? 6 (u8 b 0), flag? (u8 b 1), statusMode? (u8 b 6) with
  | some ch, some en, some mode =>
    if 5 ≤ u8 b 4 ∧ u8 b 4 ≤ 200 ∧ 2 ≤ u8 b 5 ∧ u8 b 5 ≤ 50 ∧ u8 b 5 < u8 b 4 then
      some (ch, { enable := en, unit := b.getD 2 0, mask := b.getD 3 0, window := u8 b 4, spacing := u8 b 5, mode := mode })
    else none
  | _, _, _ => none

/-- CHANNEL STATUS (R21): the channel and the clear flag. -/
def channelStatus? (b : List Byte) : Option (Fin 6 × Bool) :=
  match index? 6 (u8 b 0), flag? (u8 b 1) with
  | some ch, some clear => some (ch, clear)
  | _, _ => none

/-- The reach check of a stored geometry record (R35, R36). -/
def reachSum (g : Geometry) : Nat := g.fx.natAbs + g.fz.natAbs + g.lb + g.ls + g.lk

/-- The ranges of the geometry record and its reach check (spec 03 section 3.1, R36). -/
def geometryValid (g : Geometry) : Bool :=
  decide (-5000 ≤ g.fx ∧ g.fx ≤ 5000 ∧ -5000 ≤ g.fz ∧ g.fz ≤ 5000 ∧ 1000 ≤ g.lb ∧ g.lb ≤ 15000 ∧ 500 ≤ g.ls ∧
    g.ls ≤ 10000 ∧ 300 ≤ g.lk ∧ g.lk ≤ 5000 ∧ 1 ≤ g.ah ∧ g.ah ≤ 4000 ∧ 1 ≤ g.ar ∧ g.ar ≤ 4000 ∧ g.bandOrigin ≤ 20000 ∧
    250 ≤ g.bandWidth ∧ g.bandWidth ≤ 4000 ∧ reachSum g ≤ 30000)

/-- The geometry record a body carries. -/
def geometryOf (b : List Byte) : Geometry :=
  { fx := s16 b 0, fz := s16 b 2, lb := u16 b 4, ls := u16 b 6, lk := u16 b 8, ah := u16 b 10, ar := u16 b 12
    bandOrigin := u16 b 14, bandWidth := u16 b 16 }

/-- GEOMETRY SET (R36). -/
def geometrySet? (b : List Byte) : Option Geometry :=
  if geometryValid (geometryOf b) then some (geometryOf b) else none

/-- GRADE SET (R49): with mode OFF only the mode is checked. -/
def gradeSet? (b : List Byte) : Option Grade :=
  match flag? (u8 b 0) with
  | some on =>
    let g : Grade := { on := on, depth := u16 b 1, slope := s16 b 3, refReach := u16 b 5, tolerance := u16 b 7 }
    if on = false ∨ (g.depth ≤ 15000 ∧ -500 ≤ g.slope ∧ g.slope ≤ 500 ∧ g.refReach ≤ 30000 ∧ g.tolerance ≤ 500) then
      some g
    else none
  | none => none

/-- Anchor codes (R57). -/
def anchor? : Nat → Option Anchor
  | 0 => some .machine
  | 1 => some .site
  | _ => none

/-- Suspend level codes (R57, R180). -/
def suspendLevel? : Nat → Option SuspendLevel
  | 0 => some .operator
  | 1 => some .supervisor
  | 2 => some .service
  | 3 => some .never
  | _ => none

/-- Zone kind codes other than EMPTY (R57). -/
def zoneKind? : Nat → Option ZoneKind
  | 1 => some .keepOut
  | 2 => some .keepIn
  | 3 => some .ceiling
  | 4 => some .truckBay
  | _ => none

/-- A label character (R56). -/
def labelChar (c : Byte) : Bool := decide (0x20 ≤ c.toNat ∧ c.toNat ≤ 0x7E)

/-- The ranges of a zone record (R56, R57). -/
def zoneValid (z : ZoneRecord) : Bool :=
  decide (0 ≤ z.rmin ∧ z.rmin ≤ z.rmax ∧ z.rmax ≤ 30000 ∧ -30000 ≤ z.hmin ∧ z.hmin ≤ z.hmax ∧ z.hmax ≤ 30000 ∧
    z.extent ≤ 65535 ∧ z.angularMargin ≤ 8192 ∧ z.heightMargin ≤ 2000 ∧ z.label.length ≤ 12) && z.label.all labelChar

/-- The zone record a ZONE WRITE body carries, its codes read (R180). -/
def zoneRecordOf (b : List Byte) (kind : ZoneKind) (anchor : Anchor) (level : SuspendLevel) : ZoneRecord :=
  { kind := kind, anchor := anchor, start := BitVec.ofNat 16 (u16 b 3), extent := u16 b 5, rmin := u16 b 7, rmax := u16 b 9
    hmin := s16 b 11, hmax := s16 b 13, angularMargin := u16 b 15, heightMargin := u16 b 17, suspendLevel := level
    armAtStart := (b.getD 20 0).getLsbD 0, label := b.drop 22 }

/-- ZONE WRITE (R57): a write of kind EMPTY is checked for its index and kind alone and carries no record. -/
def zoneWrite? (b : List Byte) : Option (Fin 16 × Option ZoneRecord) :=
  match index? 16 (u8 b 0) with
  | none => none
  | some i =>
    if u8 b 1 = 0 then some (i, none)
    else
      match zoneKind? (u8 b 1), anchor? (u8 b 2), suspendLevel? (u8 b 19) with
      | some k, some a, some l =>
        let z := zoneRecordOf b k a l
        if zoneValid z then some (i, some z) else none
      | _, _, _ => none

/-- ZONE READ (R71): the index and the clear flag. -/
def zoneRead? (b : List Byte) : Option (Fin 16 × Bool) :=
  match index? 16 (u8 b 0), flag? (u8 b 1) with
  | some i, some clear => some (i, clear)
  | _, _ => none

/-- The ranges of the slew settings (R76). -/
def slewSettingsValid (s : SlewSettings) : Bool :=
  decide (256 ≤ s.deceleration ∧ s.deceleration ≤ 16384 ∧ 16 ≤ s.hysteresis ∧ s.hysteresis ≤ 1024 ∧
    182 ≤ s.swingThreshold ∧ s.swingThreshold ≤ 4551)

/-- SLEW SETTINGS (R76). -/
def slewSettings? (b : List Byte) : Option SlewSettings :=
  let s : SlewSettings := { deceleration := u16 b 0, hysteresis := u16 b 2, swingThreshold := u16 b 4 }
  if slewSettingsValid s then some s else none

/-- The ranges of the cycle settings (R95). -/
def cycleSettingsValid (c : CycleSettings) : Bool :=
  decide (-32768 ≤ c.curlOpen ∧ c.curlOpen < c.curlClosed ∧ c.curlClosed ≤ 32767 ∧ -15000 ≤ c.digHeight ∧
    c.digHeight ≤ 5000 ∧ c.minLoadForce ≤ 24000000 ∧ 4 ≤ c.windowLength ∧ c.windowLength ≤ 32 ∧
    c.steadiness ≤ 48000000 ∧ c.boomRise ≤ 16384)

/-- CYCLE SETTINGS (R95). -/
def cycleSettings? (b : List Byte) : Option (ReadWrite CycleSettings) :=
  match u8 b 0 with
  | 0 => some .read
  | 1 =>
    match flag? (u8 b 18) with
    | some stop =>
      let c : CycleSettings :=
        { curlClosed := s16 b 1, curlOpen := s16 b 3, digHeight := s16 b 5, minLoadForce := u32 b 7, windowLength := u8 b 11
          steadiness := u32 b 12, boomRise := u16 b 16, stopOnSoft := stop }
      if cycleSettingsValid c then some (.write c) else none
    | none => none
  | _ => none

/-- CALIBRATE EMPTY (R109): a band set that is not empty. -/
def calibrateEmpty? (b : List Byte) : Option Byte :=
  if b.getD 0 0 = 0 then none else some (b.getD 0 0)

/-- CALIBRATE GAIN (R110): the known load. -/
def calibrateGain? (b : List Byte) : Option Nat :=
  if 1000 ≤ u16 b 0 ∧ u16 b 0 ≤ 65000 then some (u16 b 0) else none

/-- The ranges of a truck class entry (R119). -/
def classValid (i : Fin 16) (c : TruckClass) : Bool :=
  decide ((c.target = 0 ∨ (1000 ≤ c.target ∧ c.target ≤ 400000)) ∧ c.tolerance ≤ 50000 ∧ c.tolerance ≤ c.target ∧
    ¬(c.target = 0 ∧ i = 0))

/-- TRUCK CLASS SET (R119). -/
def truckClassSet? (b : List Byte) : Option (ReadWrite (Fin 16 × TruckClass)) :=
  match u8 b 0 with
  | 0 => some .read
  | 1 =>
    match index? 16 (u8 b 1) with
    | some i =>
      let c : TruckClass := { target := u32 b 2, tolerance := u16 b 6 }
      if classValid i c then some (.write (i, c)) else none
    | none => none
  | _ => none

/-- LOAD NEXT (R120): the class index and the re-class flag. -/
def loadNext? (b : List Byte) : Option (Fin 16 × Bool) :=
  match index? 16 (u8 b 0), flag? (u8 b 1) with
  | some i, some f => some (i, f)
  | _, _ => none

/-- The selector of LOAD READ: 0xFF is OPEN, or an age 0..15 (R130, R180). -/
inductive LoadSelector
  | isOpen
  | age (n : Fin 16)
  deriving DecidableEq, Repr

/-- LOAD READ (R130). -/
def loadRead? (b : List Byte) : Option LoadSelector :=
  if u8 b 0 = 0xFF then some .isOpen else (index? 16 (u8 b 0)).map .age

/-- The values of an ENGINE REPORT as sent, before the clamps (R180). -/
def engineReportOf (b : List Byte) : EngineReport :=
  { rpm := u16 b 0, load := u8 b 2, fuelRate := u16 b 3
    coolant := if u8 b 6 = 0 then none else some (s16 b 7)
    running := (b.getD 5 0).getLsbD 0, regenActive := (b.getD 5 0).getLsbD 1, engineFault := (b.getD 5 0).getLsbD 2 }

/-- The clamps of R132. -/
def clampReport (r : EngineReport) : EngineReport :=
  { r with rpm := min r.rpm 4000, load := min r.load 125, fuelRate := min r.fuelRate 6000
           coolant := r.coolant.map (clampInt (-40) 150) }

/-- The ranges of the economy settings (spec 08 section 8.4, R137). -/
def economySettingsValid (e : EconomySettings) : Bool :=
  decide (600 ≤ e.idleRpm ∧ e.idleRpm ≤ e.ecoRpm ∧ e.ecoRpm ≤ e.workRpm ∧ e.workRpm ≤ 2200 ∧
    (e.idleDelay = 0 ∨ (2 ≤ e.idleDelay ∧ e.idleDelay ≤ 60)) ∧ 2 ≤ e.seatDelay ∧ e.seatDelay ≤ 60 ∧
    (e.shutdownDelay = 0 ∨ (60 ≤ e.shutdownDelay ∧ e.shutdownDelay ≤ 3600)) ∧ 60 ≤ e.coolantLimit ∧ e.coolantLimit ≤ 110)

/-- ECONOMY SET (R137). -/
def economySet? (b : List Byte) : Option (ReadWrite EconomySettings) :=
  match u8 b 0 with
  | 0 => some .read
  | 1 =>
    match flag? (u8 b 7) with
    | some eco =>
      let e : EconomySettings :=
        { workRpm := u16 b 1, ecoRpm := u16 b 3, idleRpm := u16 b 5, ecoEnable := eco, idleDelay := u8 b 8, seatDelay := u8 b 9
          shutdownDelay := u16 b 10, coolantLimit := u8 b 12 }
      if economySettingsValid e then some (.write e) else none
    | none => none
  | _ => none

/-- Basis codes (spec 09 section 9.1, R155). -/
def basis? : Nat → Option Basis
  | 0 => some .engineHours
  | 1 => some .weightedHours
  | 2 => some .fuelLitres
  | 3 => some .slewTurns
  | 4 => some .passes
  | 5 => some .tonnes
  | _ => none

/-- Severity codes (R155). -/
def severity? : Nat → Option Severity
  | 0 => some .advisory
  | 1 => some .derate
  | _ => none

/-- The ranges of a service definition (R148, R155). -/
def serviceDefValid (d : ServiceDef) : Bool :=
  decide (d.code ≤ 65535 ∧ 1 ≤ d.interval ∧ d.interval ≤ 30000 ∧ 50 ≤ d.warn ∧ d.warn ≤ 99 ∧ d.grace ≤ d.interval ∧
    40 ≤ d.cap ∧ d.cap ≤ 100 ∧ ¬(d.basis = .passes ∧ d.interval = 1))

/-- SERVICE ITEM SET (R155): WRITE is 0 with a definition, CLEAR is 1 with none. -/
def serviceItemSet? (b : List Byte) : Option (Fin 24 × Option ServiceDef) :=
  match index? 24 (u8 b 1) with
  | none => none
  | some i =>
    match u8 b 0 with
    | 0 =>
      match basis? (u8 b 4), severity? (u8 b 10) with
      | some basis, some sev =>
        let d : ServiceDef :=
          { code := u16 b 2, basis := basis, interval := u16 b 5, warn := u8 b 7, grace := u16 b 8, severity := sev
            cap := u8 b 11 }
        if serviceDefValid d then some (i, some d) else none
      | _, _ => none
    | 1 => some (i, none)
    | _ => none

/-- SERVICE READ (R156): the first index and the count. -/
def serviceRead? (b : List Byte) : Option (Nat × Nat) :=
  if u8 b 0 ≤ 23 ∧ 1 ≤ u8 b 1 ∧ u8 b 1 ≤ 6 ∧ u8 b 0 + u8 b 1 ≤ 24 then some (u8 b 0, u8 b 1) else none

/-- SERVICE ACK (R157): the listed indexes. -/
def serviceAck? (b : List Byte) : Option (List Nat) :=
  let is := (b.drop 1).map BitVec.toNat
  if 1 ≤ is.length ∧ is.length ≤ 24 ∧ is.all (fun i => decide (i < 24)) = true then some is else none

/-- SERVICE SUSPEND (R159): the index and the switch. -/
def serviceSuspend? (b : List Byte) : Option (Fin 24 × Bool) :=
  match index? 24 (u8 b 0), flag? (u8 b 1) with
  | some i, some on => some (i, on)
  | _, _ => none

end Sys2Proof.Machine
end

