-- ==== Sys2Proof/Machine/Wire.lean ====
section
/-! DEFINITION. The messages of the host link as octets: the frame (R168), the reply statuses (R173) and the bodies of the
notices and of the records in replies (R180). Where R180 leaves a detail to be worked out see assumption log 12. -/

namespace Sys2Proof

namespace Machine

/-- `n` in `k` bytes, high byte first (R168). -/
def be (k n : Nat) : List Byte :=
  (List.range k).reverse.map fun i => BitVec.ofNat 8 (n / 256 ^ i)

/-- A signed value in `k` bytes, two's complement, high byte first (R168). -/
def beInt (k : Nat) (z : Int) : List Byte := be k (z % (256 ^ k : Nat)).toNat

/-- A flag in one byte (R180). -/
def beFlag (b : Bool) : List Byte := be 1 b.toNat

/-- A set of named members, the first-listed at bit 0 (R180). -/
def packBits (members : List Bool) : Nat := members.foldr (fun b n => 2 * n + b.toNat) 0

/-- A stamp or part time, 4 bytes (R180). -/
def beStamp (t : Stamp) : List Byte := be 4 t.toNat

/-- A list of varying length: a count byte and the entries (R180). -/
def beList (entries : List (List Byte)) : List Byte := be 1 entries.length ++ entries.flatten

/-- The reply statuses (R173). -/
inductive Status
  | done | accepted | badLength | badField | unknownKind | authority | busy | state | notFound
  deriving DecidableEq, Repr

/-- The code of a reply status (R173). -/
def statusCode : Status → Nat
  | .done => 0x00
  | .accepted => 0x01
  | .badLength => 0x10
  | .badField => 0x11
  | .unknownKind => 0x12
  | .authority => 0x13
  | .busy => 0x14
  | .state => 0x15
  | .notFound => 0x16

end Machine

/-! ## Codes of named values (R180: as the owner's rule gives, or in the order first listed) -/

/-- Authority codes (spec 00 section 5.1). -/
def Authority.code : Authority → Nat := Authority.rank

/-- Failure reason codes, in the order of the context table of spec 01. -/
def FailReason.code : FailReason → Nat
  | .lineBreak => 0
  | .silent => 1
  | .miswired => 2
  | .sensorFault => 3

/-- Health codes, in the order of R21. -/
def Health.code : Health → Nat
  | .off => 0
  | .acquiring => 1
  | .live => 2
  | .stale => 3
  | .failed _ => 4

/-- The failure reason of a health, absent unless FAILED (R21). -/
def Health.reason : Health → Option FailReason
  | .failed r => some r
  | _ => none

/-- The failure reason byte that follows a health (R180); 0 when absent. -/
def Health.reasonCode (h : Health) : Nat := (h.reason.map FailReason.code).getD 0

/-- Status mode codes (R20). -/
def StatusMode.code : StatusMode → Nat
  | .latest => 0
  | .accumulated => 1

/-- Sample flags as a set, in the order of the table of R7. -/
def SampleFlags.code (f : SampleFlags) : Nat := Machine.packBits [f.degraded, f.fault, f.gap, f.clamped]

/-- Cut set as a set of members (spec 02 section 2.5). -/
def CutSet.code (c : CutSet) : Nat := Machine.packBits [c.left, c.right, c.boomUp]

/-- Pose quality codes, in the order of R46. -/
def PoseQuality.code : PoseQuality → Nat
  | .good => 0
  | .degraded => 1
  | .invalid => 2

/-- Zone kind codes (R180). -/
def ZoneKind.code : ZoneKind → Nat
  | .keepOut => 1
  | .keepIn => 2
  | .ceiling => 3
  | .truckBay => 4

/-- Anchor codes (R180). -/
def Anchor.code : Anchor → Nat
  | .machine => 0
  | .site => 1

/-- Suspend level codes (R180). -/
def SuspendLevel.code : SuspendLevel → Nat := SuspendLevel.rank

/-- The codes of a prior state: no rule gives the field codes of its own, and the model sends those of the zone states, 1, 2 and
3 (R180, assumption log 12). -/
def PriorState.code : PriorState → Nat
  | .dormant => 1
  | .armed => 2
  | .suspended => 3

/-- Zone state codes (R180); EMPTY is 0. -/
def ZoneState.code : ZoneState → Nat
  | .dormant => 1
  | .armed => 2
  | .suspended => 3
  | .unanchored _ => 4

/-- The zone state byte of an entry, EMPTY for none (R180). -/
def zoneStateCode (z : Option ZoneState) : Nat := (z.map ZoneState.code).getD 0

/-- Slew state codes, in the order of R87. -/
def SlewState.code : SlewState → Nat
  | .held => 0
  | .limiting => 1
  | .caution => 2
  | .free => 3

/-- Phase codes, in the order of the table of spec 06. -/
def Phase.code : Phase → Nat
  | .unknown => 0
  | .digging => 1
  | .loaded => 2
  | .swingLoaded => 3
  | .dumping => 4
  | .returning => 5

/-- Pass quality codes (R180). -/
def PassQuality.code : PassQuality → Nat
  | .noWeight => 0
  | .light => 1
  | .unsteady => 2
  | .short => 3
  | .good => 4

/-- Load state codes, in the order of spec 07 section 7.2. -/
def LoadState.code : LoadState → Nat
  | .isOpen => 0
  | .closedHost => 1
  | .closedFull => 2
  | .closedNewBay => 3
  | .closedTravel => 4

/-- Engine mode codes (R180). -/
def EngineMode.code : EngineMode → Nat
  | .stopped => 0
  | .work => 1
  | .eco => 2
  | .autoIdle => 3
  | .shutdownPending => 4
  | .shutdownAdvised => 5

/-- The reasons byte of ENGINE ADVICE (R180). -/
def Reasons.code (r : Reasons) : Nat :=
  Machine.packBits [r.derate, r.ecoPhase, r.idleTimer, r.shutdown, r.deferred, r.cancel, r.retainedFailed]

/-- Basis codes (spec 09 section 9.1). -/
def Basis.code : Basis → Nat
  | .engineHours => 0
  | .weightedHours => 1
  | .fuelLitres => 2
  | .slewTurns => 3
  | .passes => 4
  | .tonnes => 5

/-- Severity codes (R155). -/
def Severity.code : Severity → Nat
  | .advisory => 0
  | .derate => 1

/-- Item state codes, in the order of the table of spec 09. -/
def ItemState.code : ItemState → Nat
  | .ok => 0
  | .dueSoon => 1
  | .due => 2
  | .overdue => 3
  | .suspended => 4

/-- The state byte of a service entry; EMPTY comes after the five states (assumption log 12). -/
def itemStateCode (s : Option ItemState) : Nat := (s.map ItemState.code).getD 5

/-- Store state codes, in the order of spec 10. -/
def RsState.code : RsState → Nat
  | .clean => 0
  | .dirty => 1
  | .committing _ => 2
  | .failed => 3

/-- Requester codes (spec 10). -/
def Requester.code : Requester → Nat
  | .host => 0
  | .economy => 1

/-- Reset cause codes (R177). -/
def ResetCause.code : ResetCause → Nat
  | .powerOn => 0
  | .restart => 1

/-- Retained result codes, in the order of R177. -/
def RetainedResult.code : RetainedResult → Nat
  | .loaded => 0
  | .retainedLost => 1
  | .clean => 2
  | .dirty => 3
  | .failed => 4

/-- Over-dig cause codes, in the order of R51. -/
def OverdigEndCause.code : OverdigEndCause → Nat
  | .risen => 0
  | .invalid => 1
  | .gradeOff => 2

/-- Re-arm cause codes (R72). -/
def RearmCause.code : RearmCause → Nat
  | .authority => 0
  | .reanchor => 1

/-- Intrusion end cause codes (R90). -/
def IntrusionEndCause.code : IntrusionEndCause → Nat
  | .disarmed => 0
  | .unknown => 1
  | .cleared => 2

/-- Load event codes (spec 07 section 7.6). -/
def LoadEventKind.code : LoadEventKind → Nat
  | .opened => 0
  | .atTarget => 1
  | .overloaded => 2
  | .lastPass _ _ => 3
  | .reclassed => 4
  | .closed => 5

/-! ## Records inside messages -/

/-- The factor of a basis: fine units to an interval unit (spec 09 section 9.1). -/
def Basis.factor : Basis → Nat
  | .engineHours => 3600
  | .weightedHours => 3600
  | .fuelLitres => 1000
  | .slewTurns => 65536
  | .passes => 1
  | .tonnes => 1000

/-- The warning point W (R149). -/
def ServiceDef.warnPoint (d : ServiceDef) : Nat := d.warn * d.interval * d.basis.factor / 100

/-- The due point D (R149). -/
def ServiceDef.duePoint (d : ServiceDef) : Nat := d.interval * d.basis.factor

/-- The overdue point O (R149). -/
def ServiceDef.overduePoint (d : ServiceDef) : Nat := (d.interval + d.grace) * d.basis.factor

/-- The fuel per tonne of a load: fuel × 1000 / total, truncated, absent while the total is 0 (R126). -/
def Load.currentFuelPerTonne (l : Load) : Option Nat :=
  if l.total = 0 then none else some (l.fuel.toNat * 1000 / l.total)

/-- The fuel per tonne as read or reported: the fixed figure of a closed load, the present one of an OPEN load (R126). -/
def Load.reportedFuelPerTonne (l : Load) : Option Nat :=
  if l.state = .isOpen then l.currentFuelPerTonne else l.fuelPerTonne

/-- The flags of a load as a set (spec 07 section 7.2). -/
def Load.flagsCode (l : Load) : Nat := Machine.packBits [l.incompleteWeight, l.atTarget, l.overloaded]

namespace Machine

/-- The settings of a channel, in the order of R20. -/
def channelSettingsBytes (c : ChannelSettings) : List Byte :=
  beFlag c.enable ++ [c.unit] ++ [c.mask] ++ be 1 c.window ++ be 1 c.spacing ++ be 1 c.mode.code

/-- The eleven statistics, in the order of R19. -/
def channelStatsBytes (s : ChannelStats) : List Byte :=
  be 2 s.framesSeen ++ be 2 s.accepted ++ be 2 s.framing ++ be 2 s.check ++ be 2 s.typeReject ++ be 2 s.foreign ++
    be 2 s.chatter ++ be 2 s.overrun ++ be 2 s.missed ++ be 2 s.superseded ++ be 2 s.breaks

/-- The geometry record, in the order of spec 03 section 3.1. -/
def geometryBytes (g : Geometry) : List Byte :=
  beInt 2 g.fx ++ beInt 2 g.fz ++ be 2 g.lb ++ be 2 g.ls ++ be 2 g.lk ++ be 2 g.ah ++ be 2 g.ar ++
    be 2 g.bandOrigin ++ be 2 g.bandWidth

/-- A zone record, in the order of R56. -/
def zoneRecordBytes (z : ZoneRecord) : List Byte :=
  be 1 z.kind.code ++ be 1 z.anchor.code ++ be 2 z.start.toNat ++ be 2 z.extent ++ beInt 2 z.rmin ++ beInt 2 z.rmax ++
    beInt 2 z.hmin ++ beInt 2 z.hmax ++ be 2 z.angularMargin ++ be 2 z.heightMargin ++ be 1 z.suspendLevel.code ++
    beFlag z.armAtStart ++ be 1 z.label.length ++ z.label

/-- The bytes of an absent zone record: its fixed fields and a label of length 0, all 0 (R180). -/
def absentZoneRecordBytes : List Byte := be 21 0

/-- The slew settings, in the order of R76. -/
def slewSettingsBytes (s : SlewSettings) : List Byte := be 2 s.deceleration ++ be 2 s.hysteresis ++ be 2 s.swingThreshold

/-- The cycle settings, in the order of R95. -/
def cycleSettingsBytes (c : CycleSettings) : List Byte :=
  beInt 2 c.curlClosed ++ beInt 2 c.curlOpen ++ beInt 2 c.digHeight ++ be 4 c.minLoadForce ++ be 1 c.windowLength ++
    be 4 c.steadiness ++ be 2 c.boomRise ++ beFlag c.stopOnSoft

/-- The calibration tables, Fempty and then G (R95). -/
def calibrationBytes (fempty : Vector Int 8) (gain : Vector Nat 8) : List Byte :=
  (fempty.toList.map (beInt 4)).flatten ++ (gain.toList.map (be 2)).flatten

/-- The truck class table (R119). -/
def classesBytes (c : Vector TruckClass 16) : List Byte :=
  (c.toList.map fun t => be 4 t.target ++ be 2 t.tolerance).flatten

/-- The economy settings, in the order of spec 08 section 8.4. -/
def economySettingsBytes (e : EconomySettings) : List Byte :=
  be 2 e.workRpm ++ be 2 e.ecoRpm ++ be 2 e.idleRpm ++ beFlag e.ecoEnable ++ be 1 e.idleDelay ++ be 1 e.seatDelay ++
    be 2 e.shutdownDelay ++ be 1 e.coolantLimit

/-- A pass record inside LOAD READ, with its presence byte (spec 07 section 7.2, R180). -/
def passRecordBytes (p : PassRecord) : List Byte :=
  be 1 (packBits [p.payload.isSome]) ++ be 1 p.position ++ be 2 (p.payload.getD 0) ++ be 1 p.quality.code ++
    be 1 p.band.val ++ be 2 p.dumpAngle.toNat ++ beStamp p.stamp ++ be 1 p.bay.val

/-- The definition of a service item, in the order of R148. -/
def serviceDefBytes (d : ServiceDef) : List Byte :=
  be 2 d.code ++ be 1 d.basis.code ++ be 2 d.interval ++ be 1 d.warn ++ be 2 d.grace ++ be 1 d.severity.code ++ be 1 d.cap

/-- One entry of SERVICE READ, with its presence byte (R156, R180). The definition counts as one field that may be absent, so an
entry has seven presence bits in one byte: the model's choice (assumption log 12). -/
def serviceEntryBytes (i : Fin 24) (e : Option ServiceEntry) : List Byte :=
  match e with
  | none => be 1 0 ++ be 1 i.val ++ be 1 (itemStateCode none) ++ be 28 0
  | some e =>
    be 1 (packBits (List.replicate 7 true)) ++ be 1 i.val ++ be 1 (itemStateCode (some e.state)) ++
      serviceDefBytes e.item.definition ++ be 4 e.item.consumed ++ be 4 e.item.definition.warnPoint ++
      be 4 e.item.definition.duePoint ++ be 4 e.item.definition.overduePoint ++ beFlag e.item.attention ++
      beFlag e.item.suspended

/-- The fields of a load record, in the order of spec 07 section 7.2. -/
def loadBytes (l : Load) : List Byte :=
  be 2 l.number ++ be 1 l.cls.val ++ be 4 l.target ++ be 2 l.tolerance ++ be 1 l.bay.val ++ be 1 l.state.code ++
    beList (l.passes.map passRecordBytes) ++ be 4 l.total ++ be 1 l.flagsCode ++ be 6 l.fuel.toNat ++
    be 6 (l.reportedFuelPerTonne.getD 0) ++ beStamp l.opened ++ beStamp (l.closed.getD 0)

/-- The causes of one line in SLEW STATE: a set of zone indexes in two bytes and a byte for the HELD mark, for each of the three
lines alike. R88 names the causes and R180 no layout for them: the model's choice (assumption log 12). -/
def lineCausesBytes (c : LineCauses) : List Byte :=
  be 2 (packBits ((List.finRange 16).map fun i => decide (i ∈ c.zones))) ++ beFlag c.held

/-- The failure of a calibration run: reason, and cause when HARD (R117). -/
def runFailureCodes : RunFailure → Nat × Option Nat
  | .softLimit => (0, none)
  | .softStop => (1, none)
  | .hardPressure => (2, some 0)
  | .hardPose => (2, some 1)
  | .hardSettings => (2, some 2)

/-- The fields of a ZONE EVENT after the part time, with their presence bits (R72, R90, R180): re-arm cause, prior state,
zone kind, slew angle, R, H, end cause, pose count. The fields of INTRUSION and those of INTRUSION_END, its cause before the pose
count, each keep the order in which R90 lists them. One body for all four events and its two causes two fields are the model's
choice (assumption log 12). -/
def zoneEventFields : ZoneEvent → Nat × Nat × List Byte
  | .reArmed c =>
    (0, packBits [true, false, false, false, false, false, false, false], be 1 c.code ++ be 13 0)
  | .unanchored p =>
    (1, packBits [false, true, false, false, false, false, false, false], be 1 0 ++ be 1 p.code ++ be 12 0)
  | .intrusion k a r h n =>
    (2, packBits [false, false, true, true, true, true, false, true],
      be 2 0 ++ be 1 k.code ++ be 2 a.toNat ++ beInt 2 r ++ beInt 2 h ++ be 1 0 ++ be 4 n.toNat)
  | .intrusionEnd c n =>
    (3, packBits [false, false, false, false, false, false, true, true], be 9 0 ++ be 1 c.code ++ be 4 n.toNat)

/-- The notice kinds (spec 11 section 11.5). -/
def noticeKind : Notice → Nat
  | .started .. => 0x40
  | .channelHealth .. => 0x41
  | .authority .. => 0x42
  | .zoneEvent .. => 0x43
  | .slewState .. => 0x44
  | .tipReport .. => 0x45
  | .gradeEvent .. => 0x46
  | .passRecorded .. => 0x47
  | .loadEvent .. => 0x48
  | .calibrationResult .. => 0x49
  | .engineAdvice .. => 0x4A
  | .serviceAttention .. => 0x4B
  | .commitResult .. => 0x4C

/-- The body of a notice (R180, with the fields its owner's rule names). The closing state of LOAD EVENT carries the code of the
load's state, 1 to 4, and the state of COMMIT RESULT that of the store's state, 0, 1 or 3, as no rule gives either field codes of
its own; and the new entry of CALIBRATION RESULT takes four bytes in an EMPTY run and two in a GAIN run, as R180 does not say
whether that one field has one width (R117): the model's choices (assumption log 12). -/
def noticeBody : Notice → List Byte
  | .started cause result awaited =>
    be 1 (packBits [awaited.isSome]) ++ be 1 cause.code ++ be 1 result.code ++
      be 1 ((awaited.map fun a => (!a.done).toNat).getD 0) ++ be 1 ((awaited.map (·.attempts)).getD 0) ++ be 4 0
  | .channelHealth ch prev new t =>
    be 1 (packBits [new.reason.isSome]) ++ be 1 ch.val ++ be 1 prev.code ++ be 1 new.code ++ be 1 new.reasonCode ++ beStamp t
  | .authority prev new t => be 1 prev.code ++ be 1 new.code ++ beStamp t
  | .zoneEvent e i st t =>
    let (code, presence, fields) := zoneEventFields e
    be 1 presence ++ be 1 code ++ be 1 i.val ++ be 1 (zoneStateCode st) ++ beStamp t ++ fields
  | .slewState r =>
    be 1 (packBits [r.cutSet.left, r.cutSet.right, r.cutSet.boomUp]) ++ be 1 r.previous.code ++ be 1 r.new.code ++
      be 1 r.cutSet.code ++ lineCausesBytes r.causes.left ++ lineCausesBytes r.causes.right ++
      lineCausesBytes r.causes.boomUp ++ be 2 r.lead ++ be 2 r.angle.toNat ++ beInt 2 r.rate ++ beFlag r.valid ++
      be 4 r.poseCount.toNat ++ beStamp r.stamp
  | .tipReport r h a e q n =>
    be 1 (packBits [e.isSome]) ++ beInt 2 r ++ beInt 2 h ++ be 2 a.toNat ++ beInt 2 (e.getD 0) ++ be 1 q.code ++ be 4 n.toNat
  | .gradeEvent ended r h e q n t =>
    be 1 (packBits [ended.isSome, e.isSome]) ++ be 1 ended.isSome.toNat ++ be 1 ((ended.map OverdigEndCause.code).getD 0) ++
      beInt 2 r ++ beInt 2 h ++ beInt 2 (e.getD 0) ++ be 1 q.code ++ be 4 n.toNat ++ beStamp t
  | .passRecorded total filed p =>
    be 1 (packBits [p.payload.isSome, filed.isSome]) ++ be 4 total.toNat ++ be 2 ((filed.map (·.1)).getD 0) ++
      be 1 ((filed.map (·.2.1)).getD 0) ++ be 2 (p.payload.getD 0) ++ be 1 p.quality.code ++ be 1 p.band.val ++
      be 2 p.dumpAngle.toNat ++ beStamp p.stamp ++ be 1 ((p.bay.map Fin.val).getD 0) ++ be 4 ((filed.map (·.2.2)).getD 0)
  | .loadEvent e l t =>
    let last : Option (Nat × Nat) := match e with
      | .lastPass r m => some (r, m)
      | _ => none
    let closing : Option LoadState := match e with
      | .closed => some l.state
      | _ => none
    be 1 (packBits [closing.isSome, l.reportedFuelPerTonne.isSome, last.isSome, last.isSome]) ++ be 1 e.code ++
      be 2 l.number ++ be 1 l.cls.val ++ be 4 l.target ++ be 2 l.tolerance ++ be 1 ((closing.map LoadState.code).getD 0) ++
      be 1 l.passes.length ++ be 4 l.total ++ be 1 l.flagsCode ++ be 6 l.fuel.toNat ++ be 6 (l.reportedFuelPerTonne.getD 0) ++
      be 2 ((last.map (·.1)).getD 0) ++ be 2 ((last.map (·.2)).getD 0) ++ beStamp t
  | .calibrationResult gainRun outcome soft t =>
    let (code, failure, bands, values) : Nat × Option (Nat × Option Nat) × Nat × List Int := match outcome with
      | .done b vs => (0, none, b.toNat, vs)
      | .cancelled => (1, none, 0, [])
      | .failed r => (2, some (runFailureCodes r), 0, [])
    let cause : Option Nat := failure.bind (·.2)
    be 1 (packBits [failure.isSome, cause.isSome]) ++ be 1 gainRun.toNat ++ be 1 code ++ be 1 ((failure.map (·.1)).getD 0) ++
      be 1 (cause.getD 0) ++ be 1 soft ++ be 1 bands ++ beList (values.map (beInt (if gainRun then 2 else 4))) ++ beStamp t
  | .engineAdvice a t => be 1 a.mode.code ++ be 2 a.rpm ++ be 1 a.cap ++ be 1 a.reasons.code ++ beStamp t
  | .serviceAttention i prev new item t =>
    be 1 i.val ++ be 2 item.definition.code ++ be 1 item.definition.basis.code ++ be 1 item.definition.severity.code ++
      be 1 prev.code ++ be 1 new.code ++ be 4 item.consumed ++ be 4 item.definition.warnPoint ++
      be 4 item.definition.duePoint ++ be 4 item.definition.overduePoint ++ beStamp t
  | .commitResult req done attempts st t =>
    be 1 req.code ++ be 1 (!done).toNat ++ be 1 attempts ++ be 1 st.code ++ beStamp t

/-- The octets of a frame: start byte, length, kind, tag, body, CRC-16 (R168). -/
def frameBytes (kind tag : Byte) (body : List Byte) : List Byte :=
  let inner := be 1 (body.length + 2) ++ [kind, tag] ++ body
  0xC5 :: inner ++ be 2 (crc16 inner).toNat

/-- The octets the transmitter puts on the line for a frame: a notice carries its kind and tag 0 (R173, R174). -/
def txFrameBytes : TxFrame → List Byte
  | .reply r => frameBytes r.kind r.tag r.body
  | .notice n => frameBytes (BitVec.ofNat 8 (noticeKind n)) 0 (noticeBody n)

end Machine

end Sys2Proof
end

