-- ==== Sys2Proof/Machine/Link.lean ====
section
/-! DEFINITION. The Link Controller (spec 11): the notice queue and the transmitter, the interpreter's checks and replies,
the receive assembler, and the commands of the link itself. -/

namespace Sys2Proof

/-- Whether a waiting notice of this kind is replaced in place (R174). -/
def Notice.replacesItsKind : Notice → Bool
  | .tipReport .. | .engineAdvice .. => true
  | _ => false

/-- The handing of a notice to the queue (R174). A notice that takes the place of a waiting one of its kind is queued now, so it
is no early one (R167, assumption log 10). -/
def Lc.enqueue (n : Notice) (lc : Lc) : Lc :=
  if n.replacesItsKind && lc.notices.any (fun m => Machine.noticeKind m == Machine.noticeKind n) then
    { lc with
      notices := lc.notices.map fun m => if Machine.noticeKind m = Machine.noticeKind n then n else m
      early := lc.early.set (lc.notices.findIdx fun m => Machine.noticeKind m == Machine.noticeKind n) false }
  else if lc.notices.length < 32 then { lc with notices := lc.notices ++ [n] }
  else { lc with noticeLoss := Machine.satAdd Machine.max16 lc.noticeLoss 1 }

/-- The free transmitter takes a waiting reply first, else the notice at the place `next`, if one may be sent (R175, R167). -/
def Lc.pump (next : Option Nat) (lc : Lc) : Lc :=
  match lc.tx with
  | .sending _ => lc
  | .free =>
    match lc.replySlot with
    | some r => { lc with tx := .sending (.reply r), replySlot := none }
    | none =>
      match next with
      | none => lc
      | some i =>
        match lc.notices[i]? with
        | none => lc
        | some n =>
          { lc with tx := .sending (.notice n), notices := lc.notices.eraseIdx i, early := lc.early.eraseIdx i }

/-- The end of the frame being sent (R175). -/
def Lc.endTransmission (next : Option Nat) (lc : Lc) : Lc := Lc.pump next { lc with tx := .free }

namespace Machine

/-- A RESTART waits for no commit any more, so the interpreter takes no command and the reset follows (R167). -/
def Rs.restartDue (rs : Rs) : Bool := rs.restartPending && !rs.state.isCommitting

/-- The place of the waiting notice that may be sent next: the oldest (R175); while a RESTART is pending the oldest early one,
and none once its reset is due (R167, assumption log 10). -/
def nextNotice (rs : Rs) (lc : Lc) : Option Nat :=
  if rs.restartPending then if rs.state.isCommitting then lc.early.findIdx? id else none else some 0

/-- The transmitter looks for its next frame (R175). -/
def pump (s : State) : State := { s with lc := s.lc.pump (nextNotice s.rs s.lc) }

/-- A notice is handed to the queue, and a free transmitter takes the next frame at once (R174, R175). So where one event hands
over two ENGINE ADVICE notices, or two TIP REPORTs, a free transmitter takes the first before the second comes; R174 lets either
be first, and the order is the model's choice (assumption log 10). -/
def queueNotice (n : Notice) (s : State) : State := pump { s with lc := s.lc.enqueue n }

/-- Notices handed over in order (R174). -/
def queueNotices (ns : List Notice) (s : State) : State := ns.foldl (fun s n => queueNotice n s) s

/-! ## The interpreter (R172, R173) -/

/-- What an owner answers: a status, and the fields that follow it. -/
structure Answer where
  status : Status
  fields : List Byte
  deriving DecidableEq, Repr

/-- The answer DONE with fields. -/
def answerDone (fields : List Byte) : Answer := { status := .done, fields := fields }

/-- The answer of an initiate command that has begun. -/
def answerAccepted : Answer := { status := .accepted, fields := [] }

/-- A refusal with its status. -/
def answerRefused (st : Status) : Answer := { status := st, fields := [] }

/-- The body of a reply: a status from 0x10 up stands alone (R173). -/
def Answer.body (a : Answer) : List Byte :=
  if statusCode a.status < 0x10 then BitVec.ofNat 8 (statusCode a.status) :: a.fields
  else [BitVec.ofNat 8 (statusCode a.status)]

/-- What an owner does with a command: its effect, and the answer. A refusal gives back the state it was given. -/
abbrev Owner := List Byte → State → State × Answer

/-- The interpreter may take this frame now: it is at the head of the inbox, the interpreter is idle, the reply slot is
empty, and no reset is due (R172, R167). -/
def takeable (kind tag : Byte) (body : List Byte) (s : State) : Bool :=
  s.powered && decide (s.lc.interpreter = .idle) && s.lc.replySlot.isNone && !Rs.restartDue s.rs &&
    decide (s.lc.inbox.head? = some { kind := kind, tag := tag, body := body })

/-- The frame leaves the inbox and the interpreter becomes INTERPRETING (R171, R172). -/
def takeFrame (s : State) : State :=
  { s with lc := { s.lc with inbox := s.lc.inbox.tail, interpreter := .interpreting } }

/-- The reply to a frame (R173). -/
def replyTo (kind tag : Byte) (a : Answer) : Reply := { kind := kind ||| 0x80, tag := tag, body := a.body }

/-- The reply is placed in the slot and the interpreter becomes IDLE (R172). -/
def placeReply (r : Reply) (s : State) : State :=
  pump { s with lc := { s.lc with replySlot := some r, interpreter := .idle } }

/-- The code of GET STATUS (spec 11 section 11.5). -/
def getStatusKind : Byte := 0x01

/-- The checks common to every known kind, in order, and then the owner (R172). -/
def checkedOwner (kind : Byte) (level : Authority) (lengthOk : List Byte → Bool) (owner : Owner) : Owner := fun body s =>
  if !lengthOk body then (s, answerRefused .badLength)
  else if s.rs.restartPending && kind != getStatusKind then (s, answerRefused .busy)
  else if s.mlu.authority.rank < level.rank then (s, answerRefused .authority)
  else owner body s

/-- The interpretation of one frame: the taking, the work, the reply (R172, R173). -/
def runFrame (kind tag : Byte) (body : List Byte) (work : Owner) (s : State) : State :=
  let r := work body (takeFrame s)
  placeReply (replyTo kind tag r.2) r.1

/-- The taking of a command of a known kind from the head of the inbox (R172). -/
def interpret (kind : Byte) (level : Authority) (lengthOk : List Byte → Bool) (owner : Owner) (tag : Byte)
    (body : List Byte) (s : State) : Result :=
  whenDue (takeable kind tag body s) s (runFrame kind tag body (checkedOwner kind level lengthOk owner))

/-- A body of exactly `n` bytes. -/
def lengthIs (n : Nat) (b : List Byte) : Bool := b.length == n

/-- An owner that checks the fields alone first and refuses with BAD_FIELD (R173). -/
def withFields {α : Type} (read : List Byte → Option α) (act : α → State → State × Answer) : Owner := fun body s =>
  match read body with
  | none => (s, answerRefused .badField)
  | some a => act a s

/-- The kinds of section 11.5. -/
def knownKinds : List Byte :=
  [0x01, 0x02, 0x03, 0x08, 0x09, 0x0A, 0x10, 0x11, 0x12, 0x13, 0x18, 0x19, 0x1A, 0x1B, 0x1C, 0x1D, 0x1E, 0x20, 0x21, 0x22,
   0x23, 0x24, 0x25, 0x26, 0x27, 0x28, 0x29, 0x2A, 0x30, 0x31, 0x32, 0x33, 0x34]

/-- UNKNOWN_KIND (R172): the frame at the head of the inbox names no command. -/
def execUnknownKind (kind tag : Byte) (body : List Byte) (s : State) : Result :=
  whenDue (takeable kind tag body s && !knownKinds.contains kind) s
    (runFrame kind tag body fun _ s => (s, answerRefused .unknownKind))

/-! ## GET STATUS (R176) -/

/-- The state GET STATUS reports: COMMITTING while a RESTART is pending (R167). -/
def reportedRsCode (rs : Rs) : Nat :=
  if rs.restartPending || rs.state.isCommitting then 2 else rs.state.code

/-- The six link statistics (R179). -/
def linkStatsBytes (l : LinkStats) : List Byte :=
  be 2 l.received ++ be 2 l.check ++ be 2 l.length ++ be 2 l.timeout ++ be 2 l.framing ++ be 2 l.inboxFull

/-- The fields of GET STATUS, in the order of R176, after their presence byte (R180). That the six channel healths are six fields
of the body, their failure reasons having bits 0 to 5 of its one presence byte and the open load number bit 6, and not a list whose
entries begin with presence bytes of their own, is the model's choice (assumption log 12). -/
def statusFields (s : State) : List Byte :=
  be 1 (packBits (s.scu.toList.map (fun c => c.health.reason.isSome) ++ [s.lr.openLoad.isSome])) ++
    (s.scu.toList.map fun c => be 1 c.health.code ++ be 1 c.health.reasonCode).flatten ++
    be 1 s.ps.pose.quality.code ++ be 1 s.sl.state.code ++ be 1 s.sl.cutSet.code ++ be 1 s.ct.phase.code ++
    be 2 ((s.lr.openLoad.map (·.number)).getD 0) ++ be 1 s.em.mode.code ++ be 1 s.em.cap ++ be 1 (reportedRsCode s.rs) ++
    be 1 s.mlu.authority.code ++ be 1 s.zt.unanchored ++ beFlag s.ct.run.isSome ++ be 2 s.lc.noticeLoss ++
    linkStatsBytes s.lc.stats

/-- GET STATUS at its owner: the reply, then NOTICE LOSS and the link statistics are cleared (R176). -/
def getStatusOwner : Owner := fun _ s =>
  ({ s with lc := { s.lc with noticeLoss := 0, stats := {} } }, answerDone (statusFields s))

/-- GET_STATUS (R176). -/
def execGetStatus (tag : Byte) (body : List Byte) (s : State) : Result :=
  interpret getStatusKind .operator (lengthIs 0) getStatusOwner tag body s

/-! ## The receive side (R169 to R171) -/

/-- A change of the link statistics. -/
def onLinkStats (f : LinkStats → LinkStats) (s : State) : State := { s with lc := { s.lc with stats := f s.lc.stats } }

/-- The longest gap between two characters of a frame, in ms (R169). -/
def gapLimit : Nat := 20

/-- The character now arriving comes too late for the frame being collected (R169). -/
def Lc.late (lc : Lc) : Bool := decide (gapLimit < elapsed lc.time lc.lastChar)

/-- The length character is outside 2..242 (R169). -/
def badLengthChar (char : Byte) : Bool := decide (char.toNat < 2 ∨ 242 < char.toNat)

/-- The length byte is the first collected after the start byte (R169). -/
def awaitsLength (bytes : List Byte) : Bool := bytes.length == 1

/-- One more character makes the frame whole: start byte, length, the length's count of bytes, two CRC bytes (R168). -/
def awaitsLast (bytes : List Byte) : Bool := decide (2 ≤ bytes.length) && bytes.length + 1 == u8 bytes 1 + 4

/-- A character in HUNTING (R169). -/
def huntChar (char : Byte) (lc : Lc) : Lc :=
  if char = 0xC5 then { lc with assembler := .collecting [char], lastChar := lc.time } else { lc with assembler := .hunting }

/-- HOST_CHARACTER (R169): a character that is none of the rows below. -/
def execHostCharacter (char : Byte) (s : State) : Result :=
  match s.lc.assembler with
  | .hunting => whenDue s.powered s fun s => { s with lc := huntChar char s.lc }
  | .collecting bytes =>
    whenDue (s.powered && !Lc.late s.lc && !(awaitsLength bytes && badLengthChar char) && !awaitsLast bytes) s fun s =>
      { s with lc := { s.lc with assembler := .collecting (bytes ++ [char]), lastChar := s.lc.time } }

/-- HOST_FRAMING_ERROR (R169): a low stop bit, in either state, whatever the gap (assumption log 16). -/
def execHostFramingError (s : State) : Result :=
  whenDue s.powered s fun s =>
    onLinkStats (fun l => { l with framing := satAdd max16 l.framing 1 })
      { s with lc := { s.lc with assembler := .hunting } }

/-- HOST_LENGTH_ERROR (R169). -/
def execHostLengthError (char : Byte) (s : State) : Result :=
  match s.lc.assembler with
  | .hunting => .next s
  | .collecting bytes =>
    whenDue (s.powered && !Lc.late s.lc && awaitsLength bytes && badLengthChar char) s fun s =>
      onLinkStats (fun l => { l with length := satAdd max16 l.length 1 })
        { s with lc := { s.lc with assembler := .hunting } }

/-- HOST_GAP_TIMEOUT (R169): the frame is abandoned and the late character is taken as a HUNTING character. -/
def execHostGapTimeout (char : Byte) (s : State) : Result :=
  match s.lc.assembler with
  | .hunting => .next s
  | .collecting _ =>
    whenDue (s.powered && Lc.late s.lc) s fun s =>
      onLinkStats (fun l => { l with timeout := satAdd max16 l.timeout 1 }) { s with lc := huntChar char s.lc }

/-- The frame that a complete run of bytes carries (R168). -/
def frameOf (bytes : List Byte) : CommandFrame :=
  { kind := bytes.getD 2 0, tag := bytes.getD 3 0, body := (bytes.drop 4).take (u8 bytes 1 - 2) }

/-- The CRC received agrees with the CRC over the length, kind, tag and body (R170). -/
def frameCrcAgrees (bytes : List Byte) : Bool :=
  (crc16 ((bytes.drop 1).take (u8 bytes 1 + 1))).toNat == u16 bytes (u8 bytes 1 + 2)

/-- A good frame is offered to the inbox (R171). -/
def offerFrame (f : CommandFrame) (s : State) : State :=
  if s.lc.inbox.length < 4 then { s with lc := { s.lc with inbox := s.lc.inbox ++ [f] } }
  else onLinkStats (fun l => { l with inboxFull := satAdd max16 l.inboxFull 1 }) s

/-- A complete frame: the CRC, the count, the inbox (R170, R171). -/
def takeHostFrame (bytes : List Byte) (s : State) : State :=
  let s := { s with lc := { s.lc with assembler := .hunting, lastChar := s.lc.time } }
  if frameCrcAgrees bytes then
    offerFrame (frameOf bytes) (onLinkStats (fun l => { l with received := satAdd max16 l.received 1 }) s)
  else onLinkStats (fun l => { l with check := satAdd max16 l.check 1 }) s

/-- HOST_FRAME_ARRIVAL (R170): the last CRC character of a frame. -/
def execHostFrameArrival (char : Byte) (s : State) : Result :=
  match s.lc.assembler with
  | .hunting => .next s
  | .collecting bytes =>
    whenDue (s.powered && !Lc.late s.lc && awaitsLast bytes) s (takeHostFrame (bytes ++ [char]))

/-- TRANSMIT_END (R175): the frame being sent has been sent to its end. -/
def execTransmitEnd (s : State) : Result :=
  whenDue (s.powered && decide (s.lc.tx ≠ .free)) s fun s =>
    { s with lc := s.lc.endTransmission (nextNotice s.rs s.lc) }

end Machine

end Sys2Proof
end

