-- ==== Sys2Proof/Machine/Store.lean ====
section
/-! DEFINITION. The Retained Store (spec 10): marks, snapshots, the beginning of a commit, and the commands COMMIT and
RESTART. The end of an attempt, the resets and the supply are in Reset.lean. -/

namespace Sys2Proof.Machine

/-- A mark taken by the store (R162). -/
def Rs.mark (rs : Rs) : Rs :=
  match rs.state with
  | .clean => { rs with state := .dirty }
  | .dirty | .failed => rs
  | .committing _ => { rs with changed := true }

/-- A block marks the store: its retained content has changed (R162). -/
def markRetained (s : State) : State := { s with rs := Rs.mark s.rs }

/-- The zone records of the table (R161). -/
def zoneRecordsOf (zt : Zt) : Vector (Option ZoneRecord) 16 := zt.zones.map fun e => e.held.map Zone.record

/-- The service items of the table (R161). -/
def itemsOf (st : St) : Vector (Option ServiceItem) 24 := st.entries.map fun e => e.map ServiceEntry.item

/-- All the content of R161 as it stands in the blocks. -/
def retainedOf (s : State) : Retained :=
  { channels := s.scu.map Channel.settings
    geometry := s.ps.geometry
    zones := zoneRecordsOf s.zt
    slew := s.sl.settings
    slewTurns := s.sl.turns
    cycle := s.ct.settings
    fempty := s.ct.fempty
    gain := s.ct.gain
    classes := s.lr.classes
    passTotal := s.lr.passTotal
    payloadTotal := s.lr.payloadTotal
    economy := s.em.settings
    fuelTotal := s.em.fuelTotal
    engineSeconds := s.em.engineSeconds
    weightedSeconds := s.em.weightedSeconds
    histogram := s.em.histogram
    items := itemsOf s.st }

/-- The image an attempt writes: the snapshot, with this part's layout version and the check worked out over both (R164). -/
def snapshotImage (r : Retained) : Image := { layout := .ofThisPart, content := r, checkAgrees := true }

/-- A commit begins: COMMITTING, the changed mark cleared, the snapshot taken, attempt 1 (R164). -/
def beginCommit (requester : Requester) (s : State) : State :=
  { s with rs := { s.rs with
      state := .committing { snapshot := retainedOf s, requester := requester, attempt := 1 }
      changed := false } }

/-- COMMIT at its owner (R163). -/
def commitOwner : Owner := fun _ s =>
  if s.rs.state.isCommitting then (s, answerRefused .busy) else (beginCommit .host s, answerAccepted)

/-- COMMIT (R163). -/
def execCommit (tag : Byte) (body : List Byte) (s : State) : Result :=
  interpret 0x03 .operator (lengthIs 0) commitOwner tag body s

/-- RESTART at its owner; of the notices only those that now wait may still be sent (R167, assumption log 10). -/
def restartOwner : Owner := fun _ s =>
  ({ s with
      rs := { s.rs with restartPending := true, awaited := none }
      lc := { s.lc with early := List.replicate s.lc.notices.length true } },
    if s.rs.state.isCommitting then answerAccepted else answerDone [])

/-- RESTART (R167). -/
def execRestart (tag : Byte) (body : List Byte) (s : State) : Result :=
  interpret 0x02 .operator (lengthIs 0) restartOwner tag body s

end Sys2Proof.Machine
end

