-- ==== Sys2Proof/Machine/Lines.lean ====
section
/-! DEFINITION. The Machine Line Unit (spec 02): the cut lines, the alarm slots and the cadence, the debouncers, and the
readings that accept no level change. A reading that accepts one is in Inputs.lean, after the blocks it delivers to. -/

namespace Sys2Proof.Machine

/-- A change of the MLU. -/
def onMlu (f : Mlu → Mlu) (s : State) : State := { s with mlu := f s.mlu }

/-! ## Cut lines (R30) -/

/-- A cut set delivered by the Slew Limiter: the copy is replaced, and each line follows it (R30). -/
def Mlu.takeCutSet (set : CutSet) (m : Mlu) : Mlu := { m with cutCopy := set, cutLines := set }

/-! ## The alarm (R32, R33) -/

/-- The driven pattern is worked out afresh; a change starts the new pattern at the start of its on period, and an
unchanged pattern carries on in its cadence (R32, R33). -/
def Mlu.redrive (now : Stamp) (m : Mlu) : Mlu :=
  let d := m.slots.highest
  if d = m.driven then m else { m with driven := d, sounder := d != .off, periodStart := now }

/-- A request or a withdrawal in the Slew Limiter's slot (R32). -/
def requestSlAlarm (p : AlarmPattern) (s : State) : State :=
  onMlu (fun m => Mlu.redrive s.now { m with slots := { m.slots with sl := p } }) s

/-- A request or a withdrawal in the Pose Solver's slot (R32). -/
def requestPsAlarm (p : AlarmPattern) (s : State) : State :=
  onMlu (fun m => Mlu.redrive s.now { m with slots := { m.slots with ps := p } }) s

/-- A request or a withdrawal in the Zone Table's slot (R32). -/
def requestZtAlarm (p : AlarmPattern) (s : State) : State :=
  onMlu (fun m => Mlu.redrive s.now { m with slots := { m.slots with zt := p } }) s

/-- The length of the present on or off period of a cadence in ms; OFF and STEADY have none (spec 02 section 2.6). -/
def periodLength (p : AlarmPattern) (sounding : Bool) : Option Nat :=
  match p with
  | .pulse => some 250
  | .chirp => some (if sounding then 60 else 1940)
  | .off | .steady => none

/-- ALARM_CADENCE (R33): the present period has ended and the sounder switches. -/
def execAlarmCadence (s : State) : Result :=
  match periodLength s.mlu.driven s.mlu.sounder with
  | none => .next s
  | some len =>
    whenDue (s.powered && decide (len ≤ elapsed s.now s.mlu.periodStart)) s
      (onMlu fun m => { m with sounder := !m.sounder, periodStart := m.periodStart + BitVec.ofNat 32 len })

/-! ## Debounce (R24) -/

/-- A new sample that would be accepted as a level change: it equals the last sample and differs from the level (R24). -/
def Debouncer.accepts (d : Debouncer) (sample : Bool) : Bool := d.last == some sample && sample != d.level

/-- One debouncer takes a sample (R24). -/
def Debouncer.take (d : Debouncer) (sample : Bool) : Debouncer :=
  { level := if Debouncer.accepts d sample then sample else d.level, last := some sample }

/-- A function of two records of the seven inputs, input by input. -/
def PerInput.map₂ {α β γ : Type} (f : α → β → γ) (a : PerInput α) (b : PerInput β) : PerInput γ :=
  { pilotEnable := f a.pilotEnable b.pilotEnable, seat := f a.seat b.seat, joyLeft := f a.joyLeft b.joyLeft
    joyRight := f a.joyRight b.joyRight, travel := f a.travel b.travel
    supervisorKey := f a.supervisorKey b.supervisorKey, servicePlug := f a.servicePlug b.servicePlug }

/-- Which inputs have a level change at a reading (R24). -/
def changesAt (m : Mlu) (samples : InputSamples) : PerInput Bool := PerInput.map₂ Debouncer.accepts m.inputs samples

/-- Whether any of the seven holds. -/
def PerInput.any (p : PerInput Bool) : Bool :=
  p.pilotEnable || p.seat || p.joyLeft || p.joyRight || p.travel || p.supervisorKey || p.servicePlug

/-- Part time has reached the moment of the next reading (R24, R178). -/
def readingDue (s : State) : Bool := s.powered && decide (elapsed s.now s.mlu.nextReading < 2147483648)

/-- The reading itself: the seven debouncers take their samples, and the next reading follows 2 ms later (R24). -/
def takeReading (samples : InputSamples) (s : State) : State :=
  onMlu (fun m => { m with
    inputs := PerInput.map₂ Debouncer.take m.inputs samples
    nextReading := m.nextReading + 2 }) s

/-- The authority level from the accepted levels of the two keyed inputs (R28). -/
def authorityOf (inputs : PerInput Debouncer) : Authority :=
  if inputs.servicePlug.level then .service else if inputs.supervisorKey.level then .supervisor else .operator

/-- INPUT_READING (R24): a reading that accepts no level change. -/
def execInputReading (samples : InputSamples) (s : State) : Result :=
  whenDue (readingDue s && !PerInput.any (changesAt s.mlu samples)) s (takeReading samples)

end Sys2Proof.Machine
end

