-- ==== Sys2Proof/Machine/Economy.lean ====
section
/-! DEFINITION. The Economy Manager (spec 08): the modes and timers, shutdown, the advice, the power cap, and the commands
ECONOMY SET and COUNTERS READ. The integration of a report is in Engine.lean, after the blocks it delivers to. -/

namespace Sys2Proof.Machine

/-- A change of the EM. -/
def onEm (f : Em → Em) (s : State) : State := { s with em := f s.em }

/-! ## The advice (R145) -/

/-- The requested rpm of the mode that stands (R145). -/
def Em.requestedRpm (em : Em) : Nat :=
  match em.mode with
  | .work => em.settings.workRpm
  | .eco => em.settings.ecoRpm
  | .autoIdle => em.settings.idleRpm
  | .stopped | .shutdownPending | .shutdownAdvised => 0

/-- The reasons as they stand (R145). -/
def Em.reasons (em : Em) : Reasons :=
  { derate := decide (em.cap < 100)
    ecoPhase := em.mode == .eco
    idleTimer := em.mode == .autoIdle
    shutdown := em.mode == .shutdownPending || em.mode == .shutdownAdvised
    deferred := em.mode == .autoIdle && em.deferred
    cancel := em.cancel
    retainedFailed := em.mode == .shutdownAdvised && em.failed }

/-- The four fields of the advice as they stand (R145). -/
def Em.advice (em : Em) : Advice :=
  { mode := em.mode, rpm := Em.requestedRpm em, cap := em.cap, reasons := Em.reasons em }

/-- The settling of the advice at the end of an event the EM takes (R145). -/
def settleAdvice (s : State) : State :=
  let a := Em.advice s.em
  if a = s.em.lastAdvice then s
  else queueNotice (.engineAdvice a s.now) (onEm (fun em => { em with lastAdvice := a }) s)

/-! ## The modes (R138 to R144) -/

/-- Whether the idle timer runs in a mode (R139). -/
def EngineMode.isWorking : EngineMode → Bool
  | .work | .eco => true
  | _ => false

/-- A change of mode with what every such change carries: the cancel mark is cleared, or set on the move from
SHUTDOWN_ADVISED to WORK (R144); the failed mark leaves with SHUTDOWN_ADVISED (R144); the idle timer starts at an entry to
WORK from a mode other than ECO and stops outside WORK and ECO (R139); the shutdown timer runs from an entry to AUTO_IDLE
and is stopped, its deferred mark cleared, elsewhere (R142); no commit is waited for (R143). -/
def Em.setMode (now : Stamp) (m : EngineMode) (em : Em) : Em :=
  if m = em.mode then em
  else
    { em with
      mode := m
      cancel := em.mode == .shutdownAdvised && m == .work
      failed := em.mode != .shutdownAdvised && em.failed
      idleTimer := if EngineMode.isWorking m then
          if EngineMode.isWorking em.mode then em.idleTimer else some now
        else none
      shutdownTimer := if m = .autoIdle then .running now else .stopped
      deferred := false
      wait := .none }

/-- A report with RUNNING clear (R138). -/
def Em.stop (em : Em) : Em :=
  { em with mode := .stopped, idleTimer := none, shutdownTimer := .stopped, deferred := false, cancel := false
            failed := false, wait := .none }

/-- The EM asks for a commit: it begins at once with requester ECONOMY, but not while a RESTART is pending (R143, R163). -/
def requestCommit (s : State) : State :=
  if s.rs.restartPending || s.rs.state.isCommitting then s else beginCommit .economy s

/-- The entry to SHUTDOWN_PENDING (R143). -/
def enterPending (s : State) : State :=
  let s := onEm (Em.setMode s.now .shutdownPending) s
  match s.rs.state with
  | .clean => onEm (Em.setMode s.now .shutdownAdvised) s
  | .dirty | .failed => onEm (fun em => { em with wait := .own }) (requestCommit s)
  | .committing _ => onEm (fun em => { em with wait := .prior }) s

/-- The shutdown permission (R142). -/
def shutdownPermitted (s : State) : Bool :=
  match s.em.copy with
  | none => false
  | some c =>
    match c.report.coolant with
    | none => false
    | some t => decide (t ≤ s.em.settings.coolantLimit) && !c.report.regenActive && !s.mlu.inputs.pilotEnable.level

/-- The test of the permission (R142). -/
def testShutdown (s : State) : State :=
  if shutdownPermitted s then enterPending s else onEm (fun em => { em with deferred := true }) s

/-- The idle delay that stands, in ms; none when the timer has no expiry (R139). -/
def idleDelayMs (s : State) : Option Nat :=
  if s.mlu.inputs.seat.level then
    if s.em.settings.idleDelay = 0 then none else some (s.em.settings.idleDelay * 1000)
  else some (s.em.settings.seatDelay * 1000)

/-- The idle timer has run its delay: part time is at or past the expiry (R139). -/
def idleExpired (s : State) : Bool :=
  EngineMode.isWorking s.em.mode &&
    match s.em.idleTimer, idleDelayMs s with
    | some start, some d => decide (d ≤ elapsed s.now start)
    | _, _ => false

/-- The effect of the idle timer's expiry (R139). -/
def expireIdle (s : State) : State := onEm (Em.setMode s.now .autoIdle) s

/-- The expiry of the idle timer worked out afresh with the delay that now stands (R139). -/
def reworkIdle (s : State) : State := if idleExpired s then expireIdle s else s

/-- IDLE_TIMER_EXPIRY (R139). -/
def execIdleTimerExpiry (s : State) : Result :=
  whenDue (s.powered && idleExpired s) s fun s => settleAdvice (expireIdle s)

/-- The shutdown timer, running from `start`, has run its delay (R142). -/
def shutdownExpired (s : State) (start : Stamp) : Bool :=
  s.em.settings.shutdownDelay != 0 && decide (s.em.settings.shutdownDelay * 1000 ≤ elapsed s.now start)

/-- The effect of the shutdown timer's expiry: the permission is tested (R142). -/
def expireShutdown (start : Stamp) (s : State) : State :=
  testShutdown (onEm (fun em => { em with shutdownTimer := .expired start }) s)

/-- SHUTDOWN_TIMER_EXPIRY (R142). -/
def execShutdownTimerExpiry (s : State) : Result :=
  match s.em.shutdownTimer with
  | .stopped | .expired _ => .next s
  | .running start =>
    whenDue (s.powered && decide (s.em.mode = .autoIdle) && shutdownExpired s start) s fun s =>
      settleAdvice (expireShutdown start s)

/-- The start of the shutdown timer, running or expired. -/
def ShutdownTimer.start? : ShutdownTimer → Option Stamp
  | .stopped => none
  | .running t | .expired t => some t

/-- The shutdown timer at an ECONOMY SET WRITE: in AUTO_IDLE its expiry is worked out afresh from the same start (R142,
assumption log 15). -/
def reworkShutdown (s : State) : State :=
  match s.em.mode, ShutdownTimer.start? s.em.shutdownTimer with
  | .autoIdle, some start =>
    if shutdownExpired s start then expireShutdown start s
    else onEm (fun em => { em with
        shutdownTimer := .running start
        deferred := em.settings.shutdownDelay != 0 && em.deferred }) s
  | _, _ => s

/-- An activity event (R140). -/
def takeActivity (s : State) : State :=
  settleAdvice (onEm (fun em =>
    match em.mode with
    | .stopped => em
    | .work | .eco => { em with idleTimer := some s.now }
    | .autoIdle | .shutdownPending | .shutdownAdvised => Em.setMode s.now .work em) s)

/-- A change of SEAT (R139). -/
def takeSeatChange (s : State) : State := settleAdvice (reworkIdle s)

/-- Whether a phase calls for ECO (R141). -/
def Phase.isUnloaded : Phase → Bool
  | .dumping | .returning => true
  | _ => false

/-- A change of phase (R141). -/
def takePhaseChange (new : Phase) (s : State) : State :=
  settleAdvice (onEm (fun em =>
    match em.mode with
    | .work => if Phase.isUnloaded new && em.settings.ecoEnable then Em.setMode s.now .eco em else em
    | .eco => if Phase.isUnloaded new then em else Em.setMode s.now .work em
    | _ => em) s)

/-- The power cap reported by the Service Table (R146). -/
def takeCap (cap : Nat) (s : State) : State := settleAdvice (onEm (fun em => { em with cap := cap }) s)

/-- The end of a commit delivered to the EM (R143): with the wait PRIOR the EM asks for its own commit, or, when a commit
is in flight again, waits for that one; with the wait OWN it advises the shutdown. -/
def takeCommitEnd (failed : Bool) (s : State) : State :=
  match s.em.wait with
  | .none => s
  | .prior => settleAdvice (onEm (fun em => { em with wait := .own }) (requestCommit s))
  | .own =>
    settleAdvice (onEm (fun em => { Em.setMode s.now .shutdownAdvised em with wait := .none, failed := failed }) s)

/-! ## ECONOMY SET (R137) -/

/-- A WRITE of the economy settings (R137). -/
def writeEconomy (e : EconomySettings) (s : State) : State :=
  let differs := e != s.em.settings
  let s := onEm (fun em => { em with settings := e }) s
  let s := if differs then markRetained s else s
  let s := reworkShutdown (reworkIdle s)
  settleAdvice (onEm (fun em =>
    if !em.settings.ecoEnable && em.mode == .eco then Em.setMode s.now .work em else em) s)

/-- ECONOMY SET at its owner: either operation returns the settings as stored (R137). -/
def economyOwner : Owner :=
  withFields economySet? fun op s =>
    let s := match op with
      | .read => s
      | .write e => writeEconomy e s
    (s, answerDone (economySettingsBytes s.em.settings))

/-- ECONOMY_SET (R137). -/
def execEconomySet (tag : Byte) (body : List Byte) (s : State) : Result :=
  interpret 0x29 .supervisor (lengthByOp 1 13) economyOwner tag body s

/-! ## COUNTERS READ (R136) -/

/-- The flags of a report as a set (R132). -/
def EngineReport.flagsCode (r : EngineReport) : Nat := packBits [r.running, r.regenActive, r.engineFault]

/-- The engine state copy in COUNTERS READ, all 0 when absent (R136, R180). -/
def engineCopyBytes : Option EngineCopy → List Byte
  | none => be 12 0
  | some c =>
    be 2 c.report.rpm ++ be 1 c.report.load ++ be 2 c.report.fuelRate ++ beInt 2 (c.report.coolant.getD 0) ++
      be 1 (EngineReport.flagsCode c.report) ++ beStamp c.stamp

/-- The fields of COUNTERS READ, in the order of R136, after their presence byte (R180). -/
def countersFields (s : State) : List Byte :=
  be 1 (packBits [s.em.copy.isSome, (s.em.copy.bind fun c => c.report.coolant).isSome]) ++ be 6 s.em.fuelTotal.toNat ++
    be 4 s.em.engineSeconds ++ be 4 s.em.weightedSeconds ++ be 4 s.sl.turns.toNat ++ be 4 s.lr.passTotal.toNat ++
    be 6 s.lr.payloadTotal.toNat ++ be 2 s.em.gaps ++ (s.em.histogram.toList.map (be 4)).flatten ++
    engineCopyBytes s.em.copy

/-- The clear flag of COUNTERS READ: the buckets and GAPS become 0, with a mark when a bucket held a count (R136). -/
def clearCounters (s : State) : State :=
  let counted := s.em.histogram.toList.any (· != 0)
  let s := onEm (fun em => { em with histogram := Vector.replicate 8 0, gaps := 0 }) s
  if counted then markRetained s else s

/-- COUNTERS READ at its owner (R136). -/
def countersOwner : Owner :=
  withFields (fun b => flag? (u8 b 0)) fun clear s =>
    (if clear then clearCounters s else s, answerDone (countersFields s))

/-- COUNTERS_READ (R136). -/
def execCountersRead (tag : Byte) (body : List Byte) (s : State) : Result :=
  interpret 0x2A .operator (lengthIs 1) countersOwner tag body s

end Sys2Proof.Machine
end

