-- ==== Sys2Proof/Machine/Service.lean ====
section
/-! DEFINITION. The Service Table (spec 09): thresholds and states, increments, the cap, and the service commands. -/

namespace Sys2Proof.Machine

/-- A change of one entry of the table. -/
def setEntry (i : Fin 24) (e : Option ServiceEntry) (s : State) : State :=
  { s with st := { s.st with entries := s.st.entries.set i e } }

/-- The state a consumed count gives against the thresholds (R150). -/
def stateByCount (d : ServiceDef) (consumed : Nat) : ItemState :=
  if consumed < d.warnPoint then .ok
  else if consumed < d.duePoint then .dueSoon
  else if consumed < d.overduePoint then .due
  else .overdue

/-- The state of an item (R150). -/
def ServiceItem.evaluate (i : ServiceItem) : ItemState :=
  if i.suspended then .suspended else stateByCount i.definition i.consumed

/-- An item with its state evaluated afresh (R150). -/
def entryOf (i : ServiceItem) : ServiceEntry := { item := i, state := ServiceItem.evaluate i }

/-- The rank of a state; SUSPENDED takes no part (R150). -/
def ItemState.rank? : ItemState → Option Nat
  | .ok => some 0
  | .dueSoon => some 1
  | .due => some 2
  | .overdue => some 3
  | .suspended => none

/-- An item advances when its new state ranks above its old one (R150). -/
def advances (old new : ItemState) : Bool :=
  match ItemState.rank? old, ItemState.rank? new with
  | some a, some b => decide (a < b)
  | _, _ => false

/-! ## The cap (R154) -/

/-- The lowest derate cap among the OVERDUE DERATE items, 100 when there is none (R154). -/
def lowestCap (entries : Vector (Option ServiceEntry) 24) : Nat :=
  entries.toList.foldl (fun cap e =>
    match e with
    | some e =>
      if e.state = .overdue ∧ e.item.definition.severity = .derate then min cap e.item.definition.cap else cap
    | none => cap) 100

/-- The settling of the cap: a change is reported to the Economy Manager (R154, R146). -/
def settleCap (s : State) : State :=
  let cap := lowestCap s.st.entries
  if cap = s.st.reportedCap then s else takeCap cap { s with st := { s.st with reportedCap := cap } }

/-! ## Increments (R151 to R153) -/

/-- The entry after an increment of `amount`, when the increment reaches it (R152). -/
def ServiceEntry.increment (amount : Nat) (e : ServiceEntry) : ServiceEntry :=
  let item := { e.item with consumed := satAdd max32 e.item.consumed amount }
  let new := ServiceItem.evaluate item
  { item := { item with attention := item.attention || advances e.state new }, state := new }

/-- An increment of a basis reaches an entry that holds an item of that basis, its suspended mark clear (R152). -/
def reaches (basis : Basis) : Option ServiceEntry → Bool
  | some e => e.item.definition.basis == basis && !e.item.suspended
  | none => false

/-- An increment at one entry, with the SERVICE ATTENTION notice when the item advances (R152, R153). -/
def incrementEntry (basis : Basis) (amount : Nat) (i : Fin 24) (s : State) : State :=
  match s.st.entries[i] with
  | none => s
  | some e =>
    if reaches basis (some e) then
      let e' := ServiceEntry.increment amount e
      let s' := setEntry i (some e') s
      if advances e.state e'.state then queueNotice (.serviceAttention i e.state e'.state e'.item s.now) s' else s'
    else s

/-- An increment taken whole: every item in ascending index order, the mark, and the cap (R152, R154). -/
def takeIncrement (basis : Basis) (amount : Nat) (s : State) : State :=
  if amount = 0 then s
  else
    let touched := s.st.entries.toList.any (reaches basis)
    let s := (List.finRange 24).foldl (fun s i => incrementEntry basis amount i s) s
    settleCap (if touched then markRetained s else s)

/-! ## Commands (R155 to R159) -/

/-- The thresholds W, D and O (R149). -/
def thresholdBytes (d : ServiceDef) : List Byte := be 4 d.warnPoint ++ be 4 d.duePoint ++ be 4 d.overduePoint

/-- A new item from its definition (R155). -/
def newItem (d : ServiceDef) : ServiceItem := { definition := d, consumed := 0, attention := false, suspended := false }

/-- An entry takes new content, with the mark when it differs from what the entry held (R155). -/
def replaceItem (i : Fin 24) (item : Option ServiceItem) (s : State) : State :=
  let differs := (s.st.entries[i].map ServiceEntry.item) != item
  let s := setEntry i (item.map entryOf) s
  if differs then markRetained s else s

/-- SERVICE ITEM SET at its owner (R155). -/
def serviceItemOwner : Owner :=
  withFields serviceItemSet? fun (i, d) s =>
    let s := settleCap (replaceItem i (d.map newItem) s)
    let state := be 1 (itemStateCode (s.st.entries[i].map ServiceEntry.state))
    (s, answerDone (match d with
      | some d => be 1 (packBits [true, true, true]) ++ be 1 i.val ++ state ++ thresholdBytes d
      | none => be 1 0 ++ be 1 i.val ++ state ++ be 12 0))

/-- SERVICE_ITEM_SET (R155). -/
def execServiceItemSet (tag : Byte) (body : List Byte) (s : State) : Result :=
  interpret 0x30 .service (lengthByOp 12 2) serviceItemOwner tag body s

/-- The number of items with attention set (R156). -/
def attentionCount (st : St) : Nat :=
  st.entries.toList.countP fun e => (e.map fun e => e.item.attention) == some true

/-- The number of items OVERDUE (R156). -/
def overdueCount (st : St) : Nat := st.entries.toList.countP fun e => (e.map ServiceEntry.state) == some .overdue

/-- SERVICE READ at its owner (R156). -/
def serviceReadOwner : Owner :=
  withFields serviceRead? fun (first, count) s =>
    (s, answerDone (be 1 s.st.reportedCap ++ be 1 (attentionCount s.st) ++ be 1 (overdueCount s.st) ++
      beList ((((List.finRange 24).drop first).take count).map fun i => serviceEntryBytes i s.st.entries[i])))

/-- SERVICE_READ (R156). -/
def execServiceRead (tag : Byte) (body : List Byte) (s : State) : Result :=
  interpret 0x31 .operator (lengthIs 2) serviceReadOwner tag body s

/-- The entry after its attention is cleared (R157). -/
def ServiceEntry.clearAttention (e : ServiceEntry) : ServiceEntry := { e with item := { e.item with attention := false } }

/-- The entries with a flag that an ACK of `is` clears (R157). -/
def ackReaches (is : List Nat) (i : Fin 24) (e : Option ServiceEntry) : Bool :=
  is.contains i.val && (e.map fun e => e.item.attention) == some true

/-- SERVICE ACK at its owner (R157). -/
def serviceAckOwner : Owner :=
  withFields serviceAck? fun is s =>
    let cleared := (List.finRange 24).countP fun i => ackReaches is i s.st.entries[i]
    let entries := s.st.entries.mapFinIdx fun i e h =>
      if ackReaches is ⟨i, h⟩ e then e.map ServiceEntry.clearAttention else e
    let s' := { s with st := { s.st with entries := entries } }
    (if cleared = 0 then s' else markRetained s', answerDone (be 1 cleared))

/-- SERVICE_ACK (R157). -/
def execServiceAck (tag : Byte) (body : List Byte) (s : State) : Result :=
  interpret 0x32 .operator serviceAckLength serviceAckOwner tag body s

/-- SERVICE DONE at its owner (R158). -/
def serviceDoneOwner : Owner :=
  withFields (fun b => index? 24 (u8 b 0)) fun i s =>
    match s.st.entries[i] with
    | none => (s, answerRefused .state)
    | some e =>
      let s := settleCap (replaceItem i (some { e.item with consumed := 0, attention := false }) s)
      (s, answerDone (be 1 i.val ++ be 1 (itemStateCode (s.st.entries[i].map ServiceEntry.state)) ++ be 4 e.item.consumed))

/-- SERVICE_DONE (R158). -/
def execServiceDone (tag : Byte) (body : List Byte) (s : State) : Result :=
  interpret 0x33 .service (lengthIs 1) serviceDoneOwner tag body s

/-- SERVICE SUSPEND at its owner (R159). -/
def serviceSuspendOwner : Owner :=
  withFields serviceSuspend? fun (i, on) s =>
    match s.st.entries[i] with
    | none => (s, answerRefused .state)
    | some e =>
      let s := if e.item.suspended = on then s else settleCap (replaceItem i (some { e.item with suspended := on }) s)
      (s, answerDone (be 1 i.val ++ be 1 (itemStateCode (s.st.entries[i].map ServiceEntry.state))))

/-- SERVICE_SUSPEND (R159). -/
def execServiceSuspend (tag : Byte) (body : List Byte) (s : State) : Result :=
  interpret 0x34 .service (lengthIs 2) serviceSuspendOwner tag body s

end Sys2Proof.Machine
end

