-- ==== Sys2Proof/Machine/Loads.lean ====
section
/-! DEFINITION. The Load Recorder (spec 07): classes, the open load, filing a pass, closing, fuel, and the load commands. -/

namespace Sys2Proof.Machine

/-- A change of the LR. -/
def onLr (f : Lr → Lr) (s : State) : State := { s with lr := f s.lr }

/-- The open load becomes `l`. -/
def setLoad (l : Load) (s : State) : State := onLr (fun lr => { lr with openLoad := some l }) s

/-! ## Tests of a load (R123) -/

/-- The AT_TARGET test on the present total (R123). -/
def Load.reachesTarget (l : Load) : Bool := decide (l.target - l.tolerance ≤ l.total)

/-- The OVERLOADED test on the present total (R123). -/
def Load.exceedsTarget (l : Load) : Bool := decide (l.target + l.tolerance < l.total)

/-- The payloads present in the pass list. -/
def Load.payloads (l : Load) : List Nat := l.passes.filterMap PassRecord.payload

/-- The LAST_PASS advice of a load: the remaining amount and the mean, when the test holds (R123). -/
def Load.lastPass (l : Load) : Option (Nat × Nat) :=
  let remaining := l.target - l.total
  let mean := (Load.payloads l).sum / (Load.payloads l).length
  if l.total < l.target - l.tolerance ∧ l.passes.length < 12 ∧ Load.payloads l ≠ [] ∧ remaining ≤ mean then
    some (remaining, mean)
  else none

/-- A LOAD EVENT notice of the load as it stands (spec 07 section 7.6). -/
def loadNotice (e : LoadEventKind) (l : Load) (s : State) : State := queueNotice (.loadEvent e l s.now) s

/-! ## Opening and closing (R121, R127) -/

/-- The load number after `n` (R121). -/
def nextLoadNumber (n : Nat) : Nat := if n = 65535 then 1 else n + 1

/-- The record of a load opened now in `bay` (R121). -/
def newLoad (lr : Lr) (bay : Fin 16) (now : Stamp) : Load :=
  { number := lr.nextNumber, cls := lr.nextClass, target := lr.classes[lr.nextClass].target
    tolerance := lr.classes[lr.nextClass].tolerance, bay := bay, state := .isOpen, passes := [], total := 0
    incompleteWeight := false, atTarget := false, overloaded := false, fuel := 0, fuelPerTonne := none, opened := now
    closed := none }

/-- A load is opened (R121). -/
def openLoadIn (bay : Fin 16) (s : State) : State :=
  let l := newLoad s.lr bay s.now
  onLr (fun lr => { lr with nextNumber := nextLoadNumber lr.nextNumber })
    (loadNotice .opened l (setLoad l s))

/-- A record as a closing leaves it (R126, R127). -/
def Load.close (l : Load) (how : LoadState) (now : Stamp) : Load :=
  { l with state := how, closed := some now, fuelPerTonne := l.currentFuelPerTonne }

/-- The closing of the open load, if any: its record enters the history as the newest of at most sixteen (R127). -/
def closeLoad (how : LoadState) (s : State) : State :=
  match s.lr.openLoad with
  | none => s
  | some l =>
    let l := Load.close l how s.now
    onLr (fun lr => { lr with openLoad := none, history := (l :: lr.history).take 16 }) (loadNotice .closed l s)

/-! ## Passes (R122 to R125) -/

/-- The load that a pass of `bay` is filed in is made ready: a load of another bay is closed, and one is opened when none
is OPEN (R122). -/
def readyLoad (bay : Fin 16) (s : State) : State :=
  match s.lr.openLoad with
  | none => openLoadIn bay s
  | some l => if l.bay = bay then s else openLoadIn bay (closeLoad .closedNewBay s)

/-- A load with a pass appended (R122). -/
def Load.append (l : Load) (p : Pass) (bay : Fin 16) : Load :=
  { l with
    passes := l.passes ++ [{ position := l.passes.length + 1, payload := p.payload, quality := p.quality, band := p.band
                             dumpAngle := p.dumpAngle, stamp := p.stamp, bay := bay }]
    total := l.total + p.payload.getD 0
    incompleteWeight := l.incompleteWeight || p.quality == .noWeight }

/-- The first test of R123, which sets AT_TARGET once. -/
def testTarget (s : State) : State :=
  match s.lr.openLoad with
  | none => s
  | some l =>
    if Load.reachesTarget l && !l.atTarget then
      let l := { l with atTarget := true }
      loadNotice .atTarget l (setLoad l s)
    else s

/-- The second test of R123, which sets OVERLOADED once. -/
def testOverload (s : State) : State :=
  match s.lr.openLoad with
  | none => s
  | some l =>
    if Load.exceedsTarget l && !l.overloaded then
      let l := { l with overloaded := true }
      loadNotice .overloaded l (setLoad l s)
    else s

/-- The third test of R123, the LAST_PASS advice. -/
def testLastPass (s : State) : State :=
  match s.lr.openLoad with
  | none => s
  | some l =>
    match Load.lastPass l with
    | some (remaining, mean) => loadNotice (.lastPass remaining mean) l s
    | none => s

/-- The fourth test of R123: a load of twelve passes is closed. -/
def testFull (s : State) : State :=
  match s.lr.openLoad with
  | none => s
  | some l => if l.passes.length = 12 then closeLoad .closedFull s else s

/-- The filing of a pass in its bay's load (R122, R123). -/
def filePass (p : Pass) (bay : Fin 16) (s : State) : State :=
  let s := readyLoad bay s
  match s.lr.openLoad with
  | none => s
  | some l =>
    let l := Load.append l p bay
    let s := queueNotice (.passRecorded s.lr.passTotal (some (l.number, l.passes.length, l.total)) p) (setLoad l s)
    testFull (testLastPass (testOverload (testTarget s)))

/-- The LR's handling of a pass for its load, or of a CAST (R122, R124). -/
def handlePass (p : Pass) (s : State) : State :=
  match p.bay with
  | some bay => filePass p bay s
  | none => queueNotice (.passRecorded s.lr.passTotal none p) s

/-- The totals count a pass, with their mark (R125). -/
def countPass (p : Pass) (s : State) : State :=
  markRetained (onLr (fun lr => { lr with
    passTotal := lr.passTotal + 1
    payloadTotal := lr.payloadTotal + BitVec.ofNat 48 (p.payload.getD 0) }) s)

/-- A pass handed over by the Cycle Tracker: the totals, and then the load and the Service Table in no order (R125). -/
def receivePass (p : Pass) (s : State) : State :=
  anyOrder [handlePass p, takeIncrement .passes 1, takeIncrement .tonnes (p.payload.getD 0)] (countPass p s)

/-! ## TRAVEL (R129) -/

/-- A TRAVEL event at the Load Recorder (R129); one already taken, before a pass that came with it, has had its effect
(assumption log 27). -/
def travelLoads (s : State) : State :=
  if s.lr.travelTaken then onLr (fun lr => { lr with travelTaken := false }) s else closeLoad .closedTravel s

/-- The TRAVEL event of the reading at this very moment, taken before the pass that comes with it (R129, assumption log 27). -/
def takeTravelFirst (s : State) : State := onLr (fun lr => { lr with travelTaken := true }) (closeLoad .closedTravel s)

/-- The command that waits next is a reading, due now, that accepts TRAVEL as ACTIVE (R24, R27). -/
def travelComesNext (s : State) : Bool :=
  match s.pending.head? with
  | some (.inputLevelChange x) => readingDue s && Debouncer.accepts s.mlu.inputs.travel x.travel && x.travel
  | _ => false

/-- The arrival of a pass at the Load Recorder: when a TRAVEL event comes at the same moment, either may be taken first (R129,
assumption log 27). -/
def arrivePass (p : Pass) (s : State) : State :=
  if travelComesNext s then
    let first := Config.freeChoice s.choices % 2 == 1
    let s := { s with choices := s.choices + 1 }
    receivePass p (if first then takeTravelFirst s else s)
  else receivePass p s

/-- A fuel increment charged to the open load (R126). -/
def chargeFuel (ml : Nat) (s : State) : State :=
  match s.lr.openLoad with
  | none => s
  | some l => setLoad { l with fuel := l.fuel + BitVec.ofNat 48 ml } s

/-! ## Commands (R119, R120, R128, R130) -/

/-- A WRITE of a class entry (R119). -/
def writeClass (i : Fin 16) (c : TruckClass) (s : State) : State :=
  let differs := c != s.lr.classes[i]
  let s := onLr (fun lr => { lr with classes := lr.classes.set i c }) s
  if differs then markRetained s else s

/-- TRUCK CLASS SET at its owner (R119). -/
def truckClassOwner : Owner :=
  withFields truckClassSet? fun op s =>
    match op with
    | .read => (s, answerDone (classesBytes s.lr.classes))
    | .write (i, c) =>
      if c.target = 0 ∧ i = s.lr.nextClass then (s, answerRefused .state)
      else
        let s := writeClass i c s
        (s, answerDone (classesBytes s.lr.classes))

/-- TRUCK_CLASS_SET (R119). -/
def execTruckClassSet (tag : Byte) (body : List Byte) (s : State) : Result :=
  interpret 0x24 .supervisor (lengthByOp 1 8) truckClassOwner tag body s

/-- The open load takes a new class: the figures, the RECLASSED event, and the two flags settled afresh (R120). DESIGN CHOICE
(assumption log 35): RECLASSED carries AT_TARGET and OVERLOADED as they stood before the settling, and an AT_TARGET that follows
carries OVERLOADED already cleared where the new figures clear it. -/
def reclass (i : Fin 16) (s : State) : State :=
  match s.lr.openLoad with
  | none => s
  | some l =>
    let l := { l with cls := i, target := s.lr.classes[i].target, tolerance := s.lr.classes[i].tolerance }
    let s := loadNotice .reclassed l (setLoad l s)
    let cleared := { l with atTarget := l.atTarget && Load.reachesTarget l, overloaded := l.overloaded && Load.exceedsTarget l }
    testOverload (testTarget (setLoad cleared s))

/-- LOAD NEXT at its owner (R120). -/
def loadNextOwner : Owner :=
  withFields loadNext? fun (i, flag) s =>
    if s.lr.classes[i].target = 0 then (s, answerRefused .badField)
    else
      let reclassed := flag && s.lr.openLoad.isSome
      let s := onLr (fun lr => { lr with nextClass := i }) s
      let s := if flag then reclass i s else s
      (s, answerDone (be 1 i.val ++ beFlag reclassed))

/-- LOAD_NEXT (R120). -/
def execLoadNext (tag : Byte) (body : List Byte) (s : State) : Result :=
  interpret 0x25 .operator (lengthIs 2) loadNextOwner tag body s

/-- LOAD CLOSE at its owner (R128). -/
def loadCloseOwner : Owner := fun _ s =>
  match s.lr.openLoad with
  | none => (s, answerRefused .state)
  | some l => (closeLoad .closedHost s, answerDone (be 2 l.number))

/-- LOAD_CLOSE (R128). -/
def execLoadClose (tag : Byte) (body : List Byte) (s : State) : Result :=
  interpret 0x26 .operator (lengthIs 0) loadCloseOwner tag body s

/-- The record a selector names (R130). -/
def selectLoad (lr : Lr) : LoadSelector → Option Load
  | .isOpen => lr.openLoad
  | .age n => lr.history[n.val]?

/-- LOAD READ at its owner: the next class and the record (R130). -/
def loadReadOwner : Owner :=
  withFields loadRead? fun sel s =>
    match selectLoad s.lr sel with
    | none => (s, answerRefused .notFound)
    | some l =>
      (s, answerDone (be 1 (packBits [l.reportedFuelPerTonne.isSome, l.closed.isSome]) ++ be 1 s.lr.nextClass.val ++
        loadBytes l))

/-- LOAD_READ (R130). -/
def execLoadRead (tag : Byte) (body : List Byte) (s : State) : Result :=
  interpret 0x27 .operator (lengthIs 1) loadReadOwner tag body s

end Sys2Proof.Machine
end

