-- ==== Sys2Proof/Machine/Engine.lean ====
section
/-! DEFINITION. ENGINE REPORT (spec 08 sections 8.1 and 8.2): the integration of fuel and engine time, its deliveries, and the
mode steps of a report. -/

namespace Sys2Proof.Machine

/-- The bucket of a load percentage (R134). -/
def bucketOf (load : Nat) : Fin 8 := ⟨min (load / 16) 7, by omega⟩

/-- The weight of a bucket (R134). -/
def bucketWeight (b : Fin 8) : Nat :=
  match b with
  | 0 | 1 => 1
  | 2 | 3 => 2
  | 4 => 3
  | 5 => 4
  | 6 => 6
  | 7 => 8

/-- The interval between two reports, in ms (R133). -/
def reportInterval (s : State) (c : EngineCopy) : Nat := elapsed s.now c.stamp

/-- The fuel accumulator after an interval `dt` at the copy's rate, before the whole millilitres are taken (R133). -/
def fuelAfter (em : Em) (c : EngineCopy) (dt : Nat) : Nat := em.fuelAcc + c.report.fuelRate * dt

/-- The fuel integration: the accumulator, the total and GAPS (R133). -/
def Em.integrateFuel (c : EngineCopy) (interval : Nat) (em : Em) : Em :=
  let acc := fuelAfter em c (min interval 1000)
  { em with
    fuelAcc := acc % 36000
    fuelTotal := em.fuelTotal + BitVec.ofNat 48 (acc / 36000)
    gaps := if 1000 < interval then satAdd max16 em.gaps 1 else em.gaps }

/-- The engine seconds an interval completes (R134). -/
def secondsDone (em : Em) (dt : Nat) : Nat := (em.engineMs + dt) / 1000

/-- The weighted seconds an interval completes (R134). -/
def weightedDone (em : Em) (c : EngineCopy) (dt : Nat) : Nat :=
  (em.weightedAcc + dt * bucketWeight (bucketOf c.report.load)) / 4000

/-- The engine time of an interval over which the engine ran: engine seconds, weighted seconds and the copy's bucket (R134). -/
def Em.integrateTime (c : EngineCopy) (dt : Nat) (em : Em) : Em :=
  let b := bucketOf c.report.load
  let ms := em.bucketMs[b] + dt
  { em with
    engineMs := (em.engineMs + dt) % 1000
    engineSeconds := satAdd max32 em.engineSeconds (secondsDone em dt)
    weightedAcc := (em.weightedAcc + dt * bucketWeight b) % 4000
    weightedSeconds := satAdd max32 em.weightedSeconds (weightedDone em c dt)
    bucketMs := em.bucketMs.set b (ms % 1000)
    histogram := em.histogram.set b (satAdd max32 em.histogram[b] (ms / 1000)) }

/-- Whether a retained count of the EM differs (R133, R134). -/
def Em.countsDiffer (a b : Em) : Bool :=
  a.fuelTotal != b.fuelTotal || a.engineSeconds != b.engineSeconds || a.weightedSeconds != b.weightedSeconds ||
    a.histogram != b.histogram

/-- The integration of a report over the interval since the copy, and its deliveries, which have no order (R133, R134). -/
def integrateReport (s : State) : State :=
  match s.em.copy with
  | none => s
  | some c =>
    let interval := reportInterval s c
    let dt := min interval 1000
    let ml := fuelAfter s.em c dt / 36000
    let running := c.report.running
    let em := Em.integrateFuel c interval s.em
    let em := if running then Em.integrateTime c dt em else em
    let marked := Em.countsDiffer s.em em
    let s' := onEm (fun _ => em) s
    anyOrder [chargeFuel ml, takeIncrement .fuelLitres ml,
        takeIncrement .engineHours (if running then secondsDone s.em dt else 0),
        takeIncrement .weightedHours (if running then weightedDone s.em c dt else 0)]
      (if marked then markRetained s' else s')

/-- The mode steps of a report, once the copy has been replaced (R138, R142). -/
def reportModeSteps (r : EngineReport) (s : State) : State :=
  if !r.running then onEm Em.stop s
  else
    match s.em.mode with
    | .stopped => onEm (Em.setMode s.now .work) s
    | .autoIdle => if s.em.deferred then testShutdown s else s
    | _ => s

/-- A report taken whole: the integration, the copy, the mode steps, the advice (R132). -/
def takeReport (r : EngineReport) (s : State) : State :=
  let s := integrateReport s
  let s := onEm (fun em => { em with copy := some { report := r, stamp := s.now } }) s
  settleAdvice (reportModeSteps r s)

/-- ENGINE REPORT at its owner, with the CLAMPED indication (R132). -/
def engineReportOwner : Owner := fun body s =>
  let sent := engineReportOf body
  let r := clampReport sent
  (takeReport r s, answerDone (beFlag (r != sent)))

/-- ENGINE_REPORT (R132). -/
def execEngineReport (tag : Byte) (body : List Byte) (s : State) : Result :=
  interpret 0x28 .operator (lengthIs 9) engineReportOwner tag body s

end Sys2Proof.Machine
end

