-- ==== Sys2Proof/Machine/Sectors.lean ====
section
/-! DEFINITION. Sectors and bands of a zone record (R58), and the zones in force. -/

namespace Sys2Proof

/-- The end angle of a sector, (s + e − 1) mod 65 536 (spec 04 section 4.2). -/
def ZoneRecord.endAngle (z : ZoneRecord) : Angle := z.start + BitVec.ofNat 16 z.extent - 1

/-- A slew angle lies in the sector: e is 0, or (a − s) mod 65 536 is less than e (R58). -/
def ZoneRecord.inSector (z : ZoneRecord) (a : Angle) : Bool := z.extent == 0 || decide ((a - z.start).toNat < z.extent)

/-- A reach lies in the reach band, both ends included; a reach below 0 lies in none (R58). -/
def ZoneRecord.inReachBand (z : ZoneRecord) (r : Int) : Bool := decide (0 ≤ r ∧ z.rmin ≤ r ∧ r ≤ z.rmax)

/-- A SITE sector zone (spec 04 section 4.3). -/
def ZoneRecord.isSiteSector (z : ZoneRecord) : Bool := z.anchor == .site && z.extent != 0

/-- Whether zones of a kind drive cuts (R80). -/
def ZoneKind.drivesCuts : ZoneKind → Bool
  | .keepOut | .keepIn | .ceiling => true
  | .truckBay => false

/-- The record of an entry whose zone takes part in an evaluation: ARMED, of a kind that drives cuts (R80). -/
def ZoneEntry.takingPart (e : ZoneEntry) : Option ZoneRecord :=
  match e.held with
  | some z => if z.state = .armed ∧ z.record.kind.drivesCuts = true then some z.record else none
  | none => none

/-- The state of an entry; none is EMPTY. -/
def ZoneEntry.state? (e : ZoneEntry) : Option ZoneState := e.held.map Zone.state

/-- The next higher INTRUSIONS count (R70). -/
def ZoneEntry.countIntrusion (e : ZoneEntry) : ZoneEntry := { e with intrusions := Machine.satAdd Machine.max16 e.intrusions 1 }

/-- The next higher CUTS count (R70). -/
def ZoneEntry.countCut (e : ZoneEntry) : ZoneEntry := { e with cuts := Machine.satAdd Machine.max16 e.cuts 1 }

end Sys2Proof
end

