-- ==== Sys2Proof/Machine/Slew.lean ====
section
/-! DEFINITION. The Slew Limiter (spec 05): the lead angle, the zone tests, the evaluation, slew travel, and the command
SLEW SETTINGS. -/

namespace Sys2Proof.Machine

/-- A change of the SL. -/
def onSl (f : Sl → Sl) (s : State) : State := { s with sl := f s.sl }

/-- The motion of the upper structure, from the sign of the slew rate (R79). -/
inductive Motion
  | left | right | still
  deriving DecidableEq, Repr

/-- A slew direction. -/
inductive Side
  | left | right
  deriving DecidableEq, Repr

/-- The motion a slew rate gives (R79). -/
def motionOf (rate : Int) : Motion := if 0 < rate then .left else if rate < 0 then .right else .still

/-- The lead angle, floor(ω² / (2α)), at most half a turn (R79). -/
def leadAngle (deceleration : Nat) (rate : Int) : Nat :=
  min 32768 ((clampInt (-16384) 16384 rate).natAbs ^ 2 / (2 * deceleration))

/-- The slew angle is valid: the health copy is LIVE and the pose carries SLEW_VALID (R78). -/
def slewAngleValid (health : Health) (p : Pose) : Bool := health == .live && p.slewValid

/-! ## Tests of one zone (R80 to R85) -/

/-- Whether a zone that takes part applies (R80). -/
def zoneApplies (z : ZoneRecord) (p : Pose) : Bool :=
  match z.kind with
  | .keepIn => true
  | .keepOut =>
    p.quality == .invalid ||
      (z.inReachBand p.reach && decide (z.hmin - z.heightMargin ≤ p.height ∧ p.height ≤ z.hmax + z.heightMargin))
  | .ceiling => p.quality == .invalid || (z.inReachBand p.reach && decide (z.hmax - z.heightMargin ≤ p.height))
  | .truckBay => false

/-- The motion does not lead away from a boundary on this side. -/
def Side.allows (d : Side) (m : Motion) : Bool :=
  match d, m with
  | .left, .right | .right, .left => false
  | _, _ => true

/-- The slew test of a KEEP_OUT or CEILING zone against the distance `reach` (R81). -/
def keepOutCut (z : ZoneRecord) (a : Angle) (reach : Nat) (m : Motion) (d : Side) : Bool :=
  if z.extent = 0 then true
  else if z.inSector a then
    match d with
    | .left => decide ((a - z.start).toNat ≤ (z.endAngle - a).toNat)
    | .right => decide ((z.endAngle - a).toNat < (a - z.start).toNat)
  else
    Side.allows d m &&
      match d with
      | .left => decide ((z.start - a).toNat ≤ reach)
      | .right => decide ((a - z.endAngle).toNat ≤ reach)

/-- The slew test of a KEEP_IN zone against the distance `reach` (R83). -/
def keepInCut (z : ZoneRecord) (a : Angle) (reach : Nat) (m : Motion) (d : Side) : Bool :=
  if z.extent = 0 then false
  else if z.inSector a then
    Side.allows d m &&
      match d with
      | .left => decide ((z.endAngle - a).toNat ≤ reach)
      | .right => decide ((a - z.start).toNat ≤ reach)
  else
    match d with
    | .left => decide ((a - z.endAngle).toNat ≤ (z.start - a).toNat)
    | .right => decide ((z.start - a).toNat < (a - z.endAngle).toNat)

/-- The slew test of a zone that applies (R81, R83). -/
def slewTest (z : ZoneRecord) (a : Angle) (reach : Nat) (m : Motion) (d : Side) : Bool :=
  match z.kind with
  | .keepOut | .ceiling => keepOutCut z a reach m d
  | .keepIn => keepInCut z a reach m d
  | .truckBay => false

/-- What an evaluation works from: the pose in use, whether the slew angle is valid, the lead angle, the motion, and the
release hysteresis. -/
structure SlewInputs where
  pose       : Pose
  valid      : Bool
  lead       : Nat
  motion     : Motion
  hysteresis : Nat
  deriving DecidableEq, Repr

/-- The inputs of an evaluation (R78, R79). -/
def slewInputs (sl : Sl) (p : Pose) : SlewInputs :=
  { pose := p
    valid := slewAngleValid sl.health p
    lead := leadAngle sl.settings.deceleration p.slewRate
    motion := motionOf p.slewRate
    hysteresis := sl.settings.hysteresis }

/-- A slew cut found due afresh, with Lz (R81, R83). -/
def dueAfresh (i : SlewInputs) (z : ZoneRecord) (d : Side) : Bool :=
  zoneApplies z i.pose && slewTest z i.pose.slewAngle (i.lead + z.angularMargin) i.motion d

/-- A held cut is kept: the widened test finds it due and the motion has not reversed (R84). -/
def keptCut (i : SlewInputs) (z : ZoneRecord) (held : Bool) (d : Side) : Bool :=
  held && zoneApplies z i.pose && Side.allows d i.motion &&
    slewTest z i.pose.slewAngle (i.lead + z.angularMargin + i.hysteresis) i.motion d

/-- A slew cut is due on the zone's account, afresh or kept (R84). -/
def slewCutDue (i : SlewInputs) (z : ZoneRecord) (held : Bool) (d : Side) : Bool :=
  dueAfresh i z d || keptCut i z held d

/-- The caution test in one direction, with 2L plus the margin (R85). -/
def cautionTest (i : SlewInputs) (z : ZoneRecord) (held : Bool) (d : Side) : Bool :=
  zoneApplies z i.pose && slewTest z i.pose.slewAngle (2 * i.lead + z.angularMargin) i.motion d && !slewCutDue i z held d

/-- The boom raise cut of a zone that takes part (R82). -/
def boomCutDue (i : SlewInputs) (z : ZoneRecord) : Bool :=
  z.kind == .ceiling && zoneApplies z i.pose &&
    (z.inSector i.pose.slewAngle || !i.valid || i.pose.quality == .invalid)

/-- A zone that takes part is intruded (R90). -/
def zoneIntruded (i : SlewInputs) (z : ZoneRecord) : Bool :=
  i.valid && i.pose.quality != .invalid &&
    match z.kind with
    | .keepOut | .ceiling => zoneApplies z i.pose && z.inSector i.pose.slewAngle
    | .keepIn => z.extent != 0 && !z.inSector i.pose.slewAngle
    | .truckBay => false

/-- What an evaluation finds for one zone. -/
structure ZoneOutcome where
  left     : Bool := false
  right    : Bool := false
  boomUp   : Bool := false
  caution  : Bool := false
  intruded : Bool := false
  deriving DecidableEq, Repr, Inhabited

/-- The outcome of one entry: nothing unless its zone takes part; while the slew angle is not valid, no slew test is made
(R80 to R86, R90). -/
def zoneOutcome (i : SlewInputs) (e : ZoneEntry) (m : ZoneMarks) : ZoneOutcome :=
  match e.takingPart with
  | none => {}
  | some z =>
    { left := i.valid && slewCutDue i z m.leftHeld .left
      right := i.valid && slewCutDue i z m.rightHeld .right
      boomUp := boomCutDue i z
      caution := i.valid && (cautionTest i z m.leftHeld .left || cautionTest i z m.rightHeld .right)
      intruded := zoneIntruded i z }

/-! ## The evaluation (R77, R86 to R90) -/

/-- The outcomes of the sixteen entries. -/
def zoneOutcomes (i : SlewInputs) (sl : Sl) (zt : Zt) : Vector ZoneOutcome 16 :=
  Vector.ofFn fun k => zoneOutcome i zt.zones[k] sl.marks[k]

/-- At least one KEEP_OUT, KEEP_IN or CEILING zone is ARMED (R86). -/
def anyTakingPart (zt : Zt) : Bool := zt.zones.toList.any fun e => e.takingPart.isSome

/-- The zones, ascending, whose outcome has a property. -/
def zonesWhere (f : ZoneOutcome → Bool) (o : Vector ZoneOutcome 16) : List (Fin 16) :=
  (List.finRange 16).filter fun k => f o[k]

/-- The causes of the three lines (R87). -/
def causesOf (held : Bool) (o : Vector ZoneOutcome 16) : CutCauses :=
  { left := { zones := zonesWhere ZoneOutcome.left o, held := held }
    right := { zones := zonesWhere ZoneOutcome.right o, held := held }
    boomUp := { zones := zonesWhere ZoneOutcome.boomUp o, held := false } }

/-- A line is due when it has a cause. -/
def LineCauses.due (c : LineCauses) : Bool := c.held || !c.zones.isEmpty

/-- The cut set of the causes (R87). -/
def cutSetOf (c : CutCauses) : CutSet :=
  { left := LineCauses.due c.left, right := LineCauses.due c.right, boomUp := LineCauses.due c.boomUp }

/-- The slew state, the first of the table that holds (R87). -/
def slewStateOf (held : Bool) (o : Vector ZoneOutcome 16) : SlewState :=
  if held then .held
  else if o.toList.any fun z => z.left || z.right || z.boomUp then .limiting
  else if o.toList.any ZoneOutcome.caution then .caution
  else .free

/-- The alarm request of a slew state (R87). -/
def SlewState.alarm : SlewState → AlarmPattern
  | .held | .caution => .chirp
  | .limiting => .steady
  | .free => .off

/-- The cause of an intrusion's end (R90). -/
def intrusionEndCause (i : SlewInputs) (e : ZoneEntry) : IntrusionEndCause :=
  if e.state? ≠ some .armed then .disarmed
  else if i.pose.quality = .invalid ∨ i.valid = false then .unknown
  else .cleared

/-- The beginning or end of an intrusion at one entry (R90, R72). -/
def settleIntrusion (i : SlewInputs) (k : Fin 16) (intruded : Bool) (s : State) : State :=
  let e := s.zt.zones[k]
  let active := s.sl.marks[k].intrusion
  if intruded && !active then
    match e.held with
    | none => s
    | some z =>
      queueNotice (.zoneEvent (.intrusion z.record.kind i.pose.slewAngle i.pose.reach i.pose.height i.pose.count) k e.state?
        s.now) (onZone k ZoneEntry.countIntrusion s)
  else if active && !intruded then
    queueNotice (.zoneEvent (.intrusionEnd (intrusionEndCause i e) i.pose.count) k e.state? s.now) s
  else s

/-- The intrusions that begin or end at an evaluation; the spec gives them no order (R90, assumption log 8). -/
def settleIntrusions (i : SlewInputs) (o : Vector ZoneOutcome 16) (s : State) : State :=
  anyOrder (((List.finRange 16).filter fun k => o[k].intruded != s.sl.marks[k].intrusion).map fun k =>
    settleIntrusion i k o[k].intruded) s

/-- The marks an evaluation leaves (R84, R85, R90). -/
def marksOf (o : Vector ZoneOutcome 16) : Vector ZoneMarks 16 :=
  o.map fun z => { leftHeld := z.left, rightHeld := z.right, caution := z.caution, intrusion := z.intruded }

/-- One cut against each zone among the causes of a line newly in the set (R89). -/
def countCuts (old new : Bool) (c : LineCauses) (s : State) : State :=
  if new && !old then c.zones.foldl (fun s k => onZone k ZoneEntry.countCut s) s else s

/-- The fields of SLEW STATE (R88). -/
def slewReport (i : SlewInputs) (old : Sl) (new : SlewState) (set : CutSet) (causes : CutCauses) (now : Stamp) : SlewReport :=
  { previous := old.state, new := new, cutSet := set, causes := causes, lead := i.lead, angle := i.pose.slewAngle
    rate := i.pose.slewRate, valid := i.valid, poseCount := i.pose.count, stamp := now }

/-- The evaluation on a pose in use: the intrusions, the marks, the cut set to the Machine Line Unit, the alarm request, the
CUTS, and the SLEW STATE notice (R86 to R90). -/
def evaluateOn (p : Pose) (s : State) : State :=
  let i := slewInputs s.sl p
  let o := zoneOutcomes i s.sl s.zt
  let held := !i.valid && anyTakingPart s.zt
  let causes := causesOf held o
  let set := cutSetOf causes
  let new := slewStateOf held o
  let old := s.sl
  let s := settleIntrusions i o s
  let s := onSl (fun sl => { sl with marks := marksOf o, state := new, cutSet := set, causes := causes }) s
  let s := requestSlAlarm (SlewState.alarm new) (onMlu (Mlu.takeCutSet set) s)
  let s := countCuts old.cutSet.boomUp set.boomUp causes.boomUp
    (countCuts old.cutSet.right set.right causes.right (countCuts old.cutSet.left set.left causes.left s))
  if new = old.state ∧ set = old.cutSet then s
  else queueNotice (.slewState (slewReport i old new set causes s.now)) s

/-- An evaluation; nothing while no pose is in use (R77). -/
def evaluateSlew (s : State) : State :=
  match s.sl.pose with
  | none => s
  | some p => evaluateOn p s

/-- The SL takes an entry as a new zone, before the evaluation (R91). -/
def forgetZone (k : Fin 16) (s : State) : State :=
  let active := s.sl.marks[k].intrusion
  let s := onSl (fun sl => { sl with marks := sl.marks.set k {} }) s
  if active then
    queueNotice (.zoneEvent (.intrusionEnd .disarmed ((s.sl.pose.map Pose.count).getD 0)) k s.zt.zones[k].state? s.now) s
  else s

/-! ## Deliveries to the SL -/

/-- A completed pose: it becomes the pose in use, and the SL evaluates (R48, R77). -/
def deliverPoseToSl (p : Pose) (s : State) : State := evaluateSlew (onSl (fun sl => { sl with pose := some p }) s)

/-- A change of health of channel 3: the copy, the previous slew angle, and the evaluation (R18, R77, R92). -/
def deliverHealthToSl (h : Health) (s : State) : State :=
  evaluateSlew (onSl (fun sl => { sl with
    health := h
    prevAngle := if h.isDown then none else sl.prevAngle }) s)

/-- A turn counted (R93). -/
def countTurn (s : State) : State :=
  takeIncrement .slewTurns 65536
    (markRetained (onSl (fun sl => { sl with travel := sl.travel - 65536, turns := sl.turns + 1 }) s))

/-- A sample accepted on channel 3 (R92, R93). -/
def readSlewTravel (sample : Sample) (s : State) : State :=
  if sample.flags.fault then s
  else
    let a : Angle := BitVec.ofInt 16 sample.a
    match s.sl.prevAngle with
    | none => onSl (fun sl => { sl with prevAngle := some a }) s
    | some prev =>
      let s := onSl (fun sl => { sl with travel := sl.travel + (a - prev).toInt.natAbs, prevAngle := some a }) s
      if 65536 ≤ s.sl.travel then countTurn s else s

/-! ## SLEW SETTINGS (R76) -/

/-- SLEW SETTINGS at its owner (R76). -/
def slewSettingsOwner : Owner :=
  withFields slewSettings? fun new s =>
    let differs := new != s.sl.settings
    let s := onSl (fun sl => { sl with settings := new }) s
    let s := if differs then markRetained s else s
    (evaluateSlew s, answerDone (slewSettingsBytes new))

/-- SLEW_SETTINGS (R76). -/
def execSlewSettings (tag : Byte) (body : List Byte) (s : State) : Result :=
  interpret 0x1E .service (lengthIs 6) slewSettingsOwner tag body s

end Sys2Proof.Machine
end

