-- ==== Sys2Proof/Machine/Zones.lean ====
section
/-! DEFINITION. The Zone Table (spec 04): the unanchored count, travel, changes of authority, and the zone commands. -/

namespace Sys2Proof.Machine

/-- An entry is UNANCHORED. -/
def ZoneEntry.isUnanchored (e : ZoneEntry) : Bool :=
  match e.state? with
  | some (.unanchored _) => true
  | _ => false

/-- The number of entries in UNANCHORED (R69). -/
def unanchoredCount (zones : Vector ZoneEntry 16) : Nat := zones.toList.countP ZoneEntry.isUnanchored

/-- The ZT alarm request that a count calls for (R69). -/
def ztAlarmFor (count : Nat) : AlarmPattern := if count = 0 then .off else .chirp

/-- The unanchored count is settled, and the alarm request when the count goes to or from 0 (R69). -/
def settleUnanchored (s : State) : State :=
  let count := unanchoredCount s.zt.zones
  let old := s.zt.unanchored
  let s := { s with zt := { s.zt with unanchored := count } }
  if ztAlarmFor count = ztAlarmFor old then s else requestZtAlarm (ztAlarmFor count) s

/-- A change of the state of an entry that holds a zone. -/
def ZoneEntry.withState (st : ZoneState) (e : ZoneEntry) : ZoneEntry :=
  { e with held := e.held.map fun z => { z with state := st } }

/-- ZONE EVENT notices for the entries where `event?` gives one, each with the state after the event; the spec gives the
entries of one event no order (R72, assumption log 8). -/
def zoneNotices (event? : Fin 16 → Option ZoneEvent) (s : State) : State :=
  anyOrder ((List.finRange 16).filterMap fun k =>
    (event? k).map fun e s => queueNotice (.zoneEvent e k s.zt.zones[k].state? s.now) s) s

/-! ## Authority (R64) -/

/-- A SUSPENDED zone whose suspend level is above an authority level (R64). -/
def mustRearm (a : Authority) (e : ZoneEntry) : Bool :=
  match e.held with
  | some z => z.state == .suspended && decide (a.rank < z.record.suspendLevel.rank)
  | none => false

/-- A change of authority at the ZT: the zones re-armed together, each with its RE_ARMED, and one evaluation (R64, R77). -/
def rearmZones (a : Authority) (s : State) : State :=
  let before := s.zt.zones
  let s := { s with zt := { s.zt with
    zones := before.map fun e => if mustRearm a e then ZoneEntry.withState .armed e else e } }
  evaluateSlew (zoneNotices (fun k => if mustRearm a before[k] then some (.reArmed .authority) else none) s)

/-! ## Travel (R65) -/

/-- The prior state a TRAVEL event records for an entry, when it unanchors it (R65). -/
def unanchors (e : ZoneEntry) : Option PriorState :=
  match e.held with
  | none => none
  | some z =>
    if z.record.isSiteSector then
      match z.state with
      | .dormant => some .dormant
      | .armed => some .armed
      | .suspended => some .suspended
      | .unanchored _ => none
    else none

/-- An entry after a TRAVEL event (R65). -/
def ZoneEntry.travelled (e : ZoneEntry) : ZoneEntry :=
  match unanchors e with
  | some p => ZoneEntry.withState (.unanchored p) e
  | none => e

/-- A TRAVEL event at the ZT (R65, R68, R69). -/
def travelZones (s : State) : State :=
  let before := s.zt.zones
  if before.toList.any fun e => (unanchors e).isSome then
    let s := { s with zt := { s.zt with zones := before.map ZoneEntry.travelled } }
    let s := zoneNotices (fun k => (unanchors before[k]).map ZoneEvent.unanchored) s
    evaluateSlew (settleUnanchored s)
  else s

/-! ## ZONE WRITE and ZONE CLEAR (R59 to R61) -/

/-- The record stored at an entry is protected against the authority level (R61). -/
def zoneProtected (a : Authority) (e : ZoneEntry) : Bool :=
  match e.held with
  | none => false
  | some z => a != .service && (z.record.suspendLevel == .service || z.record.suspendLevel == .never)

/-- TRAVEL reads ACTIVE (R27). -/
def travelActive (s : State) : Bool := s.mlu.inputs.travel.level

/-- An entry takes new content as a new zone: the statistics are 0, the store is marked when the record differs, the
count is settled, and the SL takes the entry as new and evaluates (R59, R60, R69, R91). No rule says whether a change of the count
with its alarm request, or the evaluation with its own, comes first, and R32 lets either: a free order (assumption log 31). -/
def replaceZone (k : Fin 16) (z : Option Zone) (s : State) : State :=
  let differs := (s.zt.zones[k].held.map Zone.record) != (z.map Zone.record)
  let s := onZone k (fun _ => { held := z }) s
  let s := if differs then markRetained s else s
  anyOrder ((if unanchoredCount s.zt.zones = s.zt.unanchored then [] else [settleUnanchored]) ++
    [fun s => evaluateSlew (forgetZone k s)]) s

/-- The clearing of an entry that passes its checks; an EMPTY entry changes nothing (R60). -/
def clearZone (k : Fin 16) (s : State) : State :=
  match s.zt.zones[k].held with
  | none => s
  | some _ => replaceZone k none s

/-- The state a written record takes (R59). -/
def writtenState (z : ZoneRecord) : ZoneState := if z.armAtStart then .armed else .dormant

/-- The reply fields of a zone command: the index and the state of the entry as it now stands. R62 and R63 name them for a zone
that changes; a DONE for a zone already SUSPENDED or ARMED carries them too, which is the model's choice (assumption log 28). -/
def zoneReply (k : Fin 16) (s : State) : Answer := answerDone (be 1 k.val ++ be 1 (zoneStateCode s.zt.zones[k].state?))

/-- The clearing of an entry under its refusals, for ZONE CLEAR and ZONE WRITE of kind EMPTY (R60). -/
def clearCommand (k : Fin 16) (s : State) : State × Answer :=
  if zoneProtected s.mlu.authority s.zt.zones[k] then (s, answerRefused .authority)
  else
    let s := clearZone k s
    (s, zoneReply k s)

/-- ZONE WRITE at its owner (R59 to R61). -/
def zoneWriteOwner : Owner :=
  withFields zoneWrite? fun (k, rec?) s =>
    match rec? with
    | none => clearCommand k s
    | some z =>
      if zoneProtected s.mlu.authority s.zt.zones[k] then (s, answerRefused .authority)
      else if z.isSiteSector && travelActive s then (s, answerRefused .state)
      else
        let s := replaceZone k (some { record := z, state := writtenState z }) s
        (s, zoneReply k s)

/-- ZONE_WRITE (R59). -/
def execZoneWrite (tag : Byte) (body : List Byte) (s : State) : Result :=
  interpret 0x18 .supervisor zoneWriteLength zoneWriteOwner tag body s

/-- A body that is one zone index. -/
def zoneIndex? (b : List Byte) : Option (Fin 16) := index? 16 (u8 b 0)

/-- ZONE CLEAR at its owner (R60). -/
def zoneClearOwner : Owner := withFields zoneIndex? clearCommand

/-- ZONE_CLEAR (R60). -/
def execZoneClear (tag : Byte) (body : List Byte) (s : State) : Result :=
  interpret 0x19 .supervisor (lengthIs 1) zoneClearOwner tag body s

/-! ## ZONE READ (R71) -/

/-- The prior state of an entry, absent unless it is UNANCHORED (R71). -/
def ZoneEntry.prior? (e : ZoneEntry) : Option PriorState :=
  match e.state? with
  | some (.unanchored p) => some p
  | _ => none

/-- The fields of ZONE READ after their presence byte (R71, R180). -/
def zoneFields (k : Fin 16) (e : ZoneEntry) : List Byte :=
  let labelled := match e.held with
    | some z => !z.record.label.isEmpty
    | none => false
  be 1 (packBits [(ZoneEntry.prior? e).isSome, e.held.isSome, labelled]) ++ be 1 k.val ++ be 1 (zoneStateCode e.state?) ++
    be 1 (((ZoneEntry.prior? e).map PriorState.code).getD 0) ++
    ((e.held.map fun z => zoneRecordBytes z.record).getD absentZoneRecordBytes) ++ be 2 e.intrusions ++ be 2 e.cuts

/-- ZONE READ at its owner (R71). -/
def zoneReadOwner : Owner :=
  withFields zoneRead? fun (k, clear) s =>
    (if clear then onZone k (fun e => { e with intrusions := 0, cuts := 0 }) s else s,
      answerDone (zoneFields k s.zt.zones[k]))

/-- ZONE_READ (R71). -/
def execZoneRead (tag : Byte) (body : List Byte) (s : State) : Result :=
  interpret 0x1A .operator (lengthIs 2) zoneReadOwner tag body s

/-! ## ZONE SUSPEND and ZONE RESUME (R62, R63) -/

/-- A change of state by command, and the evaluation it calls for (R68). -/
def moveZone (k : Fin 16) (st : ZoneState) (s : State) : State := evaluateSlew (onZone k (ZoneEntry.withState st) s)

/-- ZONE SUSPEND at its owner (R62). -/
def zoneSuspendOwner : Owner :=
  withFields zoneIndex? fun k s =>
    match s.zt.zones[k].held with
    | none => (s, answerRefused .state)
    | some z =>
      match z.state with
      | .suspended => (s, zoneReply k s)
      | .dormant | .unanchored _ => (s, answerRefused .state)
      | .armed =>
        if s.mlu.authority.rank < z.record.suspendLevel.rank then (s, answerRefused .authority)
        else
          let s := moveZone k .suspended s
          (s, zoneReply k s)

/-- ZONE_SUSPEND (R62). -/
def execZoneSuspend (tag : Byte) (body : List Byte) (s : State) : Result :=
  interpret 0x1B .operator (lengthIs 1) zoneSuspendOwner tag body s

/-- The authority rank a ZONE RESUME needs: the suspend level, SERVICE for NEVER (R63). -/
def resumeRank (l : SuspendLevel) : Nat := min l.rank 2

/-- ZONE RESUME at its owner (R63). -/
def zoneResumeOwner : Owner :=
  withFields zoneIndex? fun k s =>
    match s.zt.zones[k].held with
    | none => (s, answerRefused .state)
    | some z =>
      match z.state with
      | .armed => (s, zoneReply k s)
      | .unanchored _ => (s, answerRefused .state)
      | .dormant | .suspended =>
        if s.mlu.authority.rank < resumeRank z.record.suspendLevel then (s, answerRefused .authority)
        else
          let s := moveZone k .armed s
          (s, zoneReply k s)

/-- ZONE_RESUME (R63). -/
def execZoneResume (tag : Byte) (body : List Byte) (s : State) : Result :=
  interpret 0x1C .operator (lengthIs 1) zoneResumeOwner tag body s

/-! ## REANCHOR (R66, R67) -/

/-- The state an UNANCHORED zone takes at REANCHOR (R67). -/
def reanchoredState (a : Authority) (level : SuspendLevel) : PriorState → ZoneState
  | .dormant => .dormant
  | .armed => .armed
  | .suspended => if a.rank < level.rank then .armed else .suspended

/-- An entry after REANCHOR (R66, R67). -/
def ZoneEntry.reanchored (a : Authority) (delta : Angle) (e : ZoneEntry) : ZoneEntry :=
  match e.held with
  | none => e
  | some z =>
    match z.state with
    | .unanchored p =>
      { e with held := some { record := { z.record with start := z.record.start + delta }
                              state := reanchoredState a z.record.suspendLevel p } }
    | _ => e

/-- REANCHOR arms an entry against its prior state (R67). -/
def reanchorArms (a : Authority) (e : ZoneEntry) : Bool :=
  match e.held with
  | none => false
  | some z => z.state == .unanchored .suspended && decide (a.rank < z.record.suspendLevel.rank)

/-- The re-anchoring of every UNANCHORED zone (R66 to R69). -/
def reanchorZones (delta : Angle) (s : State) : State :=
  let before := s.zt.zones
  let a := s.mlu.authority
  let s := { s with zt := { s.zt with zones := before.map (ZoneEntry.reanchored a delta) } }
  let s := if delta = 0 then s else markRetained s
  let s := zoneNotices (fun k => if reanchorArms a before[k] then some (.reArmed .reanchor) else none) s
  evaluateSlew (settleUnanchored s)

/-- REANCHOR at its owner (R66). -/
def reanchorOwner : Owner := fun body s =>
  if travelActive s then (s, answerRefused .state)
  else
    let delta : Angle := BitVec.ofNat 16 (u16 body 0)
    let count := unanchoredCount s.zt.zones
    (if count = 0 then s else reanchorZones delta s, answerDone (be 2 delta.toNat ++ be 1 count))

/-- REANCHOR (R66). -/
def execReanchor (tag : Byte) (body : List Byte) (s : State) : Result :=
  interpret 0x1D .supervisor (lengthIs 2) reanchorOwner tag body s

end Sys2Proof.Machine
end

