-- ==== Sys2Proof/Machine/Channels.lean ====
section
/-! DEFINITION. The channel context of the Sensor Channel Unit on its own (spec 01): the assembler, the break detector, the
sample FIFO, and the effects of health changes on the context. What a context delivers to other blocks is in Sensors.lean. -/

namespace Sys2Proof

/-- A change of the statistics. -/
def Channel.onStats (f : ChannelStats → ChannelStats) (c : Channel) : Channel := { c with stats := f c.stats }

/-! ## The FIFO (R8, R9, R11) -/

/-- The flags of the sample that becomes the head enter the accumulated set (R11). -/
def Channel.noteHead (c : Channel) : Channel :=
  match c.fifo with
  | [] => c
  | x :: _ => { c with accumulated := c.accumulated.union x.flags }

/-- A sample enters the FIFO at the tail, or overwrites the newest of four (R8, R11). -/
def Channel.enqueue (x : Sample) (c : Channel) : Channel :=
  if c.fifo.isEmpty then { c with fifo := [x] }.noteHead
  else if c.fifo.length < 4 then { c with fifo := c.fifo ++ [x] }
  else
    { c with fifo := c.fifo.dropLast ++ [x], overrunLatch := true }.onStats fun t =>
      { t with overrun := Machine.satAdd Machine.max16 t.overrun 1 }

/-- The head is removed, and the sample behind it becomes the head (R9 to R11). -/
def Channel.dropHead (c : Channel) : Channel := { c with fifo := c.fifo.tail }.noteHead

/-- The newest sample without FAULT, which a computation uses (R9, R41). -/
def Channel.selected (c : Channel) : Option Sample := (c.fifo.filter fun x => !x.flags.fault).getLast?

/-- The emptying of a FIFO at the start of a computation: each sample behind the head becomes the head in turn, as the head
itself did when it came there, and each sample without FAULT but the newest is counted SUPERSEDED (R9, R11). That the newest is
not counted either where R42 leaves its values unused, on the CHASSIS channel, is the model's choice (assumption log 33). -/
def Channel.emptyForPose (c : Channel) : Channel :=
  let spare := (c.fifo.countP fun (x : Sample) => !x.flags.fault) - 1
  let seen := c.fifo.tail.foldl (fun a (x : Sample) => a.union x.flags) c.accumulated
  { c with fifo := [], accumulated := seen }.onStats fun t =>
    { t with superseded := Machine.satAdd Machine.max16 t.superseded spare }

/-! ## Health (R12 to R17) -/

/-- Both timers are stopped. -/
def Channel.stopTimers (c : Channel) : Channel := { c with staleTimer := none, silentTimer := none }

/-- What every entry to ACQUIRING does: the reference is cleared and the three counters are 0 (R12). -/
def Channel.enterAcquiring (c : Channel) : Channel :=
  { c with health := .acquiring, lastFrame := none, acqCount := 0, rejectRun := 0, faultRun := 0 }.stopTimers

/-- A fresh acquisition, from OFF or by CHANNEL SET or CHANNEL RESTART (R12, R15). -/
def Channel.freshAcquisition (c : Channel) : Channel :=
  { c with fifo := [], assembler := .hunting, brk := {} }.enterAcquiring

/-- A disable (R12): the reference and the counters are not named there and stay; the receiver and the break detector stop. That
the assembler hunts and the low run and the break mark are clear from the disable on, and not only when the channel starts again
(R15), is the model's choice (assumption log 24). -/
def Channel.disable (c : Channel) : Channel :=
  { c with health := .off, fifo := [], assembler := .hunting, brk := {} }.stopTimers

/-- FAILED with a reason; both timers are stopped (R14 to R17). -/
def Channel.fail (r : FailReason) (c : Channel) : Channel := { c with health := .failed r }.stopTimers

/-- LIVE from the arrival of a sample: the stale timer runs from it and the silent timer is stopped (R13, R14). -/
def Channel.goLive (stamp : Stamp) (c : Channel) : Channel :=
  { c with health := .live, staleTimer := some stamp, silentTimer := none }

/-- STALE at the stale timer's expiry: the silent timer runs from the same latest accepted sample (R14). -/
def Channel.goStale (c : Channel) : Channel :=
  { c with health := .stale, staleTimer := none, silentTimer := c.staleTimer }

/-! ## The break detector (R15) -/

/-- Whether the sample before the present one was found high; after the mark is set, it was so exactly when the low run
is 0. -/
def BreakDetector.lastHigh (b : BreakDetector) : Bool := b.lowRun == 0

/-- A sample that detects a break: the fifth low in a row with the mark clear (R15). -/
def BreakDetector.detects (b : BreakDetector) (high : Bool) : Bool := !high && b.lowRun == 4 && !b.mark

/-- A sample that ends a break: the second high in a row with the mark set (R15). -/
def BreakDetector.ends (b : BreakDetector) (high : Bool) : Bool := high && b.mark && b.lastHigh

/-- The low run after a sample (R15). -/
def BreakDetector.sample (b : BreakDetector) (high : Bool) : BreakDetector :=
  { b with lowRun := if high then 0 else min 5 (b.lowRun + 1) }

end Sys2Proof
end

