-- ==== Sys2Proof/Machine/Cycle.lean ====
section
/-! DEFINITION. The Cycle Tracker (spec 06): net force and band, the weigh window, payload, the phase machine, the dump, the
calibration runs, and their commands. -/

namespace Sys2Proof.Machine

/-- A change of the CT. -/
def onCt (f : Ct → Ct) (s : State) : State := { s with ct := f s.ct }

/-! ## Net force and band (R96, R97) -/

/-- The net force of a pressure sample (R96). -/
def netForce (g : Geometry) (x : Sample) : Int := x.a * g.ah - x.b * g.ar

/-- The reach band (R97). -/
def reachBand (g : Geometry) (r : Int) : Fin 8 :=
  ⟨(clampInt 0 7 ((r - g.bandOrigin) / g.bandWidth)).toNat, by unfold clampInt; omega⟩

/-! ## Payload (R104, R105) -/

/-- The spread max − min of a window; 0 while both are absent. -/
def Window.spread (w : Window) : Int := w.most.getD 0 - w.least.getD 0

/-- The mean force, truncated toward zero (R104). -/
def Window.mean (w : Window) : Int := w.sum.tdiv w.count

/-- The quality by the fourth and fifth tests of R105. -/
def Window.steadyQuality (w : Window) : PassQuality :=
  if (w.steadiness : Int) < Window.spread w then .unsteady else if w.count < w.length then .short else .good

/-- The quality by the first, fourth and fifth tests, as a CALIBRATE EMPTY run judges it (R105). -/
def Window.emptyQuality (w : Window) : PassQuality := if w.count < 4 then .noWeight else Window.steadyQuality w

/-- The payload a lifted force gives, before its limits (R104). -/
def rawPayload (gain : Nat) (lifted : Int) : Int := (lifted * gain + 32768) / 65536

/-- A result with no weight (R105, R106). -/
def noWeight (band : Fin 8) (count : Nat) : Weighed :=
  { band := band, count := count, mean := none, spread := none, lifted := none, payload := none, quality := .noWeight }

/-- The weighed result of a completed window (R104, R105). -/
def weigh (fempty : Vector Int 8) (gain : Vector Nat 8) (w : Window) : Weighed :=
  if w.count < 4 then noWeight w.band w.count
  else
    let lifted := Window.mean w - fempty[w.band]
    let kg := rawPayload gain[w.band] lifted
    { band := w.band, count := w.count, mean := some (Window.mean w), spread := some (Window.spread w)
      lifted := some lifted, payload := some (min 65000 kg).toNat
      quality := if kg < 0 then .light else Window.steadyQuality w }

/-! ## The weigh window (R102, R103, R111) -/

/-- A window as it opens (R102). -/
def newWindow (s : State) (p : Pose) : Window :=
  { band := reachBand s.ps.geometry p.reach, length := s.ct.settings.windowLength, steadiness := s.ct.settings.steadiness
    sum := 0, count := 0, least := none, most := none, forRun := s.ct.run.isSome, result := none }

/-- A force added to an OPEN window (R103). -/
def Window.add (f : Int) (w : Window) : Window :=
  { w with
    sum := w.sum + f
    count := w.count + 1
    least := some (match w.least with
      | some m => min m f
      | none => f)
    most := some (match w.most with
      | some m => max m f
      | none => f) }

/-- A completed window is handed to the calibration step: a step begins, or the window waits (R111). -/
def Ct.hand (w : Window) (ct : Ct) : Ct :=
  match ct.step with
  | none => { ct with step := some w }
  | some _ => { ct with waiting := ct.waiting ++ [w] }

/-- The completion of an OPEN window (R103, R104, R111). -/
def Ct.complete (w : Window) (ct : Ct) : Ct :=
  let w := { w with result := some (weigh ct.fempty ct.gain w) }
  let ct := { ct with window := some w }
  if ct.run.isSome && w.forRun then Ct.hand w ct else ct

/-- A net force taken: it becomes the latest force, and an OPEN window adds it, closing when the count reaches its length
(R96, R103). -/
def Ct.takeForce (f : Int) (ct : Ct) : Ct :=
  let ct := { ct with force := some f }
  match ct.window with
  | none => ct
  | some w =>
    if w.result.isSome then ct
    else
      let w := Window.add f w
      if w.count = w.length then Ct.complete w ct else { ct with window := some w }

/-- A pressure sample taken by the CT, whatever the health of channel 5 (R96): that one taken while the channel is FAILED sets
the latest force again is the model's choice (assumption log 34). -/
def takePressure (x : Sample) (s : State) : State :=
  if x.flags.fault then s else onCt (Ct.takeForce (netForce s.ps.geometry x)) s

/-- The CT takes waiting pressure samples from the head, oldest first, while its step state is READY; the first argument
bounds their number (R10, R96). -/
def drainPressureFor : Nat → State → State
  | 0, s => s
  | n + 1, s =>
    match s.ct.step, s.scu[(5 : Fin 6)].fifo with
    | none, x :: _ => drainPressureFor n (takePressure x (onChannel 5 Channel.dropHead s))
    | _, _ => s

/-- The CT takes the pressure samples that wait (R10, R96). -/
def drainPressure (s : State) : State := drainPressureFor s.scu[(5 : Fin 6)].fifo.length s

/-! ## Calibration runs (R108 to R117) -/

/-- The kind of a run, as CALIBRATION RESULT carries it (R117). -/
def RunKind.isGain : RunKind → Bool
  | .gain _ => true
  | .empty _ _ => false

/-- The end of a run: the record, the waiting list and the step go, the notice is queued, and the waiting samples are taken
(R111, R117). -/
def endRun (r : Run) (outcome : RunOutcome) (s : State) : State :=
  let s := onCt (fun ct => { ct with
    run := none, step := none, waiting := []
    window := ct.window.map fun w => { w with forRun := false } }) s
  drainPressure (queueNotice (.calibrationResult (RunKind.isGain r.kind) outcome r.soft s.now) s)

/-- A hard error ends the active run, if any (R115). -/
def hardFail (cause : RunFailure) (s : State) : State :=
  match s.ct.run with
  | none => s
  | some r => endRun r (.failed cause) s

/-- The tables written by a successful run, with the mark when an entry differs (R108). -/
def writeTables (fempty : Vector Int 8) (gain : Vector Nat 8) (s : State) : State :=
  let differs := fempty != s.ct.fempty || gain != s.ct.gain
  let s := onCt (fun ct => { ct with fempty := fempty, gain := gain }) s
  if differs then markRetained s else s

/-- The run goes on after a step: the next waiting window begins a step, or the step state is READY and the waiting samples
are taken (R111). -/
def nextStep (s : State) : State :=
  match s.ct.waiting with
  | w :: rest => onCt (fun ct => { ct with step := some w, waiting := rest }) s
  | [] => drainPressure (onCt (fun ct => { ct with step := none }) s)

/-- A soft error (R114). -/
def softError (r : Run) (s : State) : State :=
  let r := { r with soft := r.soft + 1 }
  if s.ct.settings.stopOnSoft then endRun r (.failed .softStop) s
  else if 7 ≤ r.soft then endRun r (.failed .softLimit) s
  else nextStep (onCt (fun ct => { ct with run := some r }) s)

/-- A band is in a band set. -/
def inBands (bands : Byte) (b : Fin 8) : Bool := bands.getLsbD b.val

/-- The bands of a set, ascending. -/
def bandsOf (bands : Byte) : List (Fin 8) := (List.finRange 8).filter (inBands bands)

/-- The mean of a band's collected Fmeans, truncated toward zero (R112). -/
def meanOfTwo (fs : List Int) : Int := fs.sum.tdiv 2

/-- The success of an EMPTY run (R112). -/
def succeedEmpty (r : Run) (bands : Byte) (collected : Vector (List Int) 8) (s : State) : State :=
  let fempty := s.ct.fempty.mapFinIdx fun i old h => if inBands bands ⟨i, h⟩ then meanOfTwo collected[i] else old
  endRun r (.done bands ((bandsOf bands).map fun b => fempty[b])) (writeTables fempty s.ct.gain s)

/-- The judgement of a window by a step of an EMPTY run (R112). -/
def judgeEmpty (r : Run) (bands : Byte) (collected : Vector (List Int) 8) (w : Window) (s : State) : State :=
  if !inBands bands w.band then nextStep s
  else if Window.emptyQuality w ≠ .good then softError r s
  else if 2 ≤ collected[w.band].length then nextStep s
  else
    let collected := collected.set w.band (collected[w.band] ++ [Window.mean w])
    let r := { r with kind := .empty bands collected }
    if (bandsOf bands).all fun b => collected[b].length == 2 then succeedEmpty r bands collected s
    else nextStep (onCt (fun ct => { ct with run := some r }) s)

/-- The gain a known load and a lifted force give: rounded to nearest, an exact half up, clamped to 1..65 535 (R113). -/
def gainFor (load : Nat) (lifted : Int) : Nat :=
  (clampInt 1 65535 ((2 * (load * 65536 : Nat) + lifted) / (2 * lifted))).toNat

/-- The judgement of a window by a step of a GAIN run (R113). -/
def judgeGain (r : Run) (load : Nat) (w : Window) (s : State) : State :=
  match w.result with
  | some { quality := .good, lifted := some lifted, .. } =>
    if lifted ≤ 0 then softError r s
    else
      let g := gainFor load lifted
      endRun r (.done (1 <<< w.band.val) [(g : Int)]) (writeTables s.ct.fempty (s.ct.gain.set w.band g) s)
  | _ => softError r s

/-- The judgement of a step at its end (R111 to R114). -/
def judgeStep (r : Run) (w : Window) (s : State) : State :=
  match r.kind with
  | .empty bands collected => judgeEmpty r bands collected w s
  | .gain load => judgeGain r load w s

/-- CALIBRATION_STEP_END (R111). -/
def execCalibrationStepEnd (s : State) : Result :=
  match s.ct.run, s.ct.step with
  | some r, some w => whenDue s.powered s (judgeStep r w)
  | _, _ => .next s

/-! ## The phase machine (R98 to R107) -/

/-- A change of phase, delivered to the Economy Manager (R101). -/
def setPhase (new : Phase) (s : State) : State :=
  if new = s.ct.phase then s else takePhaseChange new (onCt (fun ct => { ct with phase := new }) s)

/-- The phase becomes UNKNOWN and any weigh window is discarded (R98). -/
def toUnknown (s : State) : State := setPhase .unknown (onCt (fun ct => { ct with window := none }) s)

/-- The magnitude of the slew rate is at or above the swing rate threshold as it stands (R99). -/
def swinging (s : State) (p : Pose) : Bool := decide (s.sl.settings.swingThreshold ≤ p.slewRate.natAbs)

/-- The load test of DIGGING (R100). -/
def loadTest (s : State) (p : Pose) : Bool :=
  let c := s.ct.settings
  decide (c.curlClosed ≤ p.curl) &&
    (s.ct.run.isSome ||
      decide ((c.boomRise : Int) ≤ p.boomRate) &&
        match s.ct.force with
        | none => false
        | some f => decide ((c.minLoadForce : Int) ≤ f - s.ct.fempty[reachBand s.ps.geometry p.reach]))

/-- The bay of a dump: the lowest ARMED TRUCK_BAY zone whose sector and reach band hold it, with SLEW_VALID (R106). -/
def bayOf (zt : Zt) (p : Pose) : Option (Fin 16) :=
  if p.slewValid then
    (List.finRange 16).find? fun k =>
      match zt.zones[k].held with
      | some z =>
        z.state == .armed && z.record.kind == .truckBay && z.record.inSector p.slewAngle && z.record.inReachBand p.reach
      | none => false
  else none

/-- The pass of a dump (R106, R107). -/
def passOf (s : State) (p : Pose) (r : Weighed) : Pass :=
  { payload := r.payload, quality := r.quality, band := r.band, dumpAngle := p.slewAngle, stamp := p.stamp
    bay := bayOf s.zt p }

/-- An OPEN window is closed at the dump with the count it has (R103, R106). -/
def closeAtDump (s : State) : State :=
  match s.ct.window with
  | some w => if w.result.isNone then onCt (Ct.complete w) s else s
  | none => s

/-- The weighed result of a dump (R106). -/
def dumpResult (s : State) (p : Pose) : Weighed :=
  match s.ct.window with
  | some { result := some r, .. } => r
  | _ => noWeight (reachBand s.ps.geometry p.reach) 0

/-- The phase after a pose: the first check of R98, and then the first transition of the phase whose test holds (R99). -/
def nextPhase (s : State) (p : Pose) : Phase :=
  let c := s.ct.settings
  if p.quality = .invalid ∨ travelActive s = true then .unknown
  else
    match s.ct.phase with
    | .unknown => .digging
    | .digging => if loadTest s p then .loaded else .digging
    | .loaded => if p.curl ≤ c.curlOpen then .dumping else if swinging s p then .swingLoaded else .loaded
    | .swingLoaded => if p.curl ≤ c.curlOpen then .dumping else .swingLoaded
    | .dumping => if p.height < c.digHeight then .digging else if swinging s p then .returning else .dumping
    | .returning => if p.height < c.digHeight then .digging else .returning

/-- The dump event: a transition to DUMPING (R106). -/
def isDump (s : State) (p : Pose) : Bool := nextPhase s p == .dumping && s.ct.phase != .dumping

/-- The pass a dump hands over (R106, R107). -/
def dumpPass (s : State) (p : Pose) : Pass := passOf s p (dumpResult (closeAtDump s) p)

/-- The weigh window after a pose: discarded at UNKNOWN (R98), opened at SWING_LOADED (R102), closed and removed at the dump
(R103, R106). -/
def moveWindow (p : Pose) (s : State) : State :=
  match nextPhase s p with
  | .unknown => onCt (fun ct => { ct with window := none }) s
  | .swingLoaded =>
    if s.ct.phase = .loaded then onCt (fun ct => { ct with window := some (newWindow s p) }) s else s
  | .dumping => if isDump s p then onCt (fun ct => { ct with window := none }) (closeAtDump s) else s
  | _ => s

/-- The CT's own record of a completed pose: the pose in use, the window and the phase (R98, R99). -/
def takePoseAtCt (p : Pose) (s : State) : State :=
  onCt (fun ct => { ct with pose := some p, phase := nextPhase s p }) (moveWindow p s)

/-- What the CT hands on at a pose beside the change of phase: the end of a run at an INVALID pose (R115), and, while no run
is active, the pass of a dump (R107). -/
def poseDeliveries (s : State) (p : Pose) : List (State → State) :=
  (if p.quality = .invalid ∧ s.ct.run.isSome = true then [hardFail .hardPose] else []) ++
    if isDump s p && s.ct.run.isNone then [arrivePass (dumpPass s p)] else []

/-- The change of phase a pose makes, delivered to the Economy Manager (R101). -/
def phaseDelivery (s : State) (p : Pose) : List (State → State) :=
  if nextPhase s p = s.ct.phase then [] else [takePhaseChange (nextPhase s p)]

/-- TRAVEL becoming INACTIVE at the CT (R98). -/
def travelEndedAtCt (s : State) : State :=
  match s.ct.phase, s.ct.pose with
  | .unknown, some p => if p.quality = .invalid then s else setPhase .digging s
  | _, _ => s

/-- A health of channel 5 at the CT: the copy, the hard error, and the latest force (R96, R115; their order assumption
log 22). A health of FAILED or OFF makes the latest force absent at its delivery, and does not keep it absent: a sample taken
later sets it again, which is the model's choice (R96, R100, assumption log 34). -/
def deliverHealthToCt (h : Health) (s : State) : State :=
  let lost := s.ct.health == .live && h != .live
  let s := onCt (fun ct => { ct with health := h }) s
  anyOrder ((if lost && s.ct.run.isSome then [hardFail .hardPressure] else []) ++
    if h.isDown then [onCt fun ct => { ct with force := none }] else []) s

/-! ## Commands (R95, R109, R110, R116) -/

/-- CYCLE SETTINGS at its owner (R95). -/
def cycleSettingsOwner : Owner :=
  withFields cycleSettings? fun op s =>
    let s := match op with
      | .read => s
      | .write c =>
        let differs := c != s.ct.settings
        let s := onCt (fun ct => { ct with settings := c }) s
        hardFail .hardSettings (if differs then markRetained s else s)
    (s, answerDone (cycleSettingsBytes s.ct.settings ++ calibrationBytes s.ct.fempty s.ct.gain))

/-- CYCLE_SETTINGS (R95). -/
def execCycleSettings (tag : Byte) (body : List Byte) (s : State) : Result :=
  interpret 0x20 .service (lengthByOp 1 19) cycleSettingsOwner tag body s

/-- The beginning of a run, refused with STATE while one is active or the pressure health copy is not LIVE (R109, R110). -/
def startRun (kind : RunKind) (s : State) : State × Answer :=
  if s.ct.run.isSome || s.ct.health != .live then (s, answerRefused .state)
  else (onCt (fun ct => { ct with run := some { kind := kind, soft := 0 } }) s, answerAccepted)

/-- CALIBRATE EMPTY at its owner (R109). -/
def calibrateEmptyOwner : Owner :=
  withFields calibrateEmpty? fun bands s => startRun (.empty bands (Vector.replicate 8 [])) s

/-- CALIBRATE_EMPTY (R109). -/
def execCalibrateEmpty (tag : Byte) (body : List Byte) (s : State) : Result :=
  interpret 0x21 .supervisor (lengthIs 1) calibrateEmptyOwner tag body s

/-- CALIBRATE GAIN at its owner (R110). -/
def calibrateGainOwner : Owner := withFields calibrateGain? fun load s => startRun (.gain load) s

/-- CALIBRATE_GAIN (R110). -/
def execCalibrateGain (tag : Byte) (body : List Byte) (s : State) : Result :=
  interpret 0x22 .supervisor (lengthIs 2) calibrateGainOwner tag body s

/-- CALIBRATE CANCEL at its owner (R116). -/
def calibrateCancelOwner : Owner := fun _ s =>
  match s.ct.run with
  | none => (s, answerRefused .state)
  | some r => (endRun r .cancelled s, answerDone [])

/-- CALIBRATE_CANCEL (R116). -/
def execCalibrateCancel (tag : Byte) (body : List Byte) (s : State) : Result :=
  interpret 0x23 .operator (lengthIs 0) calibrateCancelOwner tag body s

end Sys2Proof.Machine
end

