-- ==== Sys2Proof/Machine/Pose.lean ====
section
/-! DEFINITION. The Pose Solver (spec 03): the computation, the pose, the grade and over-dig, tip reports, the deliveries of a
completed pose, and the commands of the solver. -/

namespace Sys2Proof.Machine

/-- A change of the PS. -/
def onPs (f : Ps → Ps) (s : State) : State := { s with ps := f s.ps }

/-- The context of channel 0 to 4 that a computation reads. -/
def poseChannel (s : State) (k : Fin 5) : Channel := s.scu[k.val]

/-! ## The start of a computation (R40 to R42) -/

/-- The values of a sample, or the held values (R41). -/
def sampleOr (x : Option Sample) (h : HeldValue) : HeldValue :=
  match x with
  | some x => { a := x.a, b := x.b }
  | none => h

/-- The values a computation uses for a channel, from its health, its selected sample and its held values (R41, R42). -/
def usedValue (k : Fin 5) (h : Health) (x : Option Sample) (held : HeldValue) : HeldValue :=
  if k = 4 then
    match h with
    | .live | .acquiring => sampleOr x held
    | .stale => held
    | .failed _ | .off => { a := 0, b := 0 }
  else if h.isDown then { a := (sampleOr x held).a, b := 0 }
  else sampleOr x held

/-- A selected sample whose values are used carries DEGRADED (R42, R47). -/
def usesDegraded (k : Fin 5) (h : Health) (x : Option Sample) : Bool :=
  (x.map fun x => x.flags.degraded) == some true && (k != 4 || h == .live || h == .acquiring)

/-- The start of a computation: the copies, the values used, the emptied FIFOs (R9, R41, R42). -/
def startComputation (s : State) : State :=
  let value := fun k : Fin 5 =>
    usedValue k (poseChannel s k).health (poseChannel s k).selected s.ps.held[k]
  let degraded := (List.finRange 5).any fun k => usesDegraded k (poseChannel s k).health (poseChannel s k).selected
  { s with
    scu := s.scu.mapFinIdx fun i c _ => if i < 5 then c.emptyForPose else c
    ps := { s.ps with
      held := Vector.ofFn value
      inFlight := some { geometry := s.ps.geometry, health := Vector.ofFn fun k => (poseChannel s k).health
                         usedDegraded := degraded } } }

/-- A sample arrival, a change of health or GEOMETRY SET calls for a computation (R40). -/
def requestComputation (s : State) : State :=
  if s.ps.inFlight.isSome then onPs (fun ps => { ps with pendingStart := true }) s else startComputation s

/-- GRADE SET calls for a computation; one in flight reads the new record at its completion (R40, R49). -/
def requestForGrade (s : State) : State := if s.ps.inFlight.isSome then s else startComputation s

/-! ## The stages (R43 to R47, R50) -/

/-- Pitch or roll as used (R42). -/
def clampTilt (v : Int) : Int := clampInt (-2048) 2048 v

/-- Stage 1, the tilt of the boom plane (R43). -/
def boomPlaneTilt (a : Angle) (pitch roll : Int) : Int := round14 (pitch * cosine a + roll * sine a)

/-- Stage 2, the foot pin turned through the tilt (R44). -/
def footPin (g : Geometry) (t : Int) : Int × Int :=
  (round14 (g.fx * cosine (angleOf t) - g.fz * sine (angleOf t)),
    round14 (g.fx * sine (angleOf t) + g.fz * cosine (angleOf t)))

/-- Stage 3, the terms of one member (R45). -/
def memberTerm (len : Nat) (angle : Int) : Int × Int :=
  (round14 (len * cosine (angleOf angle)), round14 (len * sine (angleOf angle)))

/-- Stage 4, the tip reach and height (R45). -/
def tipOf (g : Geometry) (t boom stick bucket : Int) : Int × Int :=
  let f := footPin g t
  let b := memberTerm g.lb boom
  let k := memberTerm g.ls stick
  let u := memberTerm g.lk bucket
  (f.1 + b.1 + k.1 + u.1, f.2 + b.2 + k.2 + u.2)

/-- Stage 5, the curl: a signed wrapping difference (R46). -/
def curlOf (stick bucket : Int) : Int := (angleOf stick - angleOf bucket).toInt

/-- The quality of a pose (R47). -/
def qualityOf (c : Computation) (tiltClamped : Bool) : PoseQuality :=
  if c.health[0] ≠ .live ∨ c.health[1] ≠ .live ∨ c.health[2] ≠ .live then .invalid
  else if c.health[3] ≠ .live ∨ c.health[4] ≠ .live ∨ c.usedDegraded = true ∨ tiltClamped = true then .degraded
  else .good

/-- The target height at a reach (R50). -/
def targetHeight (g : Grade) (reach : Int) : Int := -(g.depth : Int) + ((reach - g.refReach) * g.slope).tdiv 1000

/-- The grade error of a tip, absent with the grade OFF (R50). -/
def gradeErrorOf (g : Grade) (reach height : Int) : Option Int :=
  if g.on then some (clampInt (-30000) 30000 (height - targetHeight g reach)) else none

/-- The assembled pose (R46). -/
def assemblePose (ps : Ps) (c : Computation) (now : Stamp) : Pose :=
  let slew := angleOf ps.held[3].a
  let pitch := clampTilt ps.held[4].a
  let roll := clampTilt ps.held[4].b
  let tiltClamped := pitch != ps.held[4].a || roll != ps.held[4].b
  let t := boomPlaneTilt slew pitch roll
  let tip := tipOf c.geometry t ps.held[0].a ps.held[1].a ps.held[2].a
  { reach := tip.1
    height := tip.2
    slewAngle := slew
    slewRate := ps.held[3].b
    boomAngle := ps.held[0].a
    stickAngle := ps.held[1].a
    bucketAngle := ps.held[2].a
    boomRate := ps.held[0].b
    stickRate := ps.held[1].b
    bucketRate := ps.held[2].b
    curl := curlOf ps.held[1].a ps.held[2].a
    tilt := t
    gradeError := gradeErrorOf ps.grade tip.1 tip.2
    quality := qualityOf c tiltClamped
    slewValid := c.health[3] == .live
    tiltClamped := tiltClamped
    stamp := now
    count := ps.pose.count + 1 }

/-! ## Over-dig and tip reports (R51, R53) -/

/-- A pose is over-digging (R51). -/
def overdigging (g : Grade) (p : Pose) : Bool :=
  g.on && p.quality != .invalid &&
    match p.gradeError with
    | some e => decide (e < -(g.tolerance : Int))
    | none => false

/-- The cause of an over-dig's end (R51). -/
def overdigEnd (g : Grade) (p : Pose) : OverdigEndCause :=
  if g.on = false then .gradeOff else if p.quality = .invalid then .invalid else .risen

/-- The over-dig state is settled at a completion (R51). -/
def settleOverdig (p : Pose) (s : State) : State :=
  let digging := overdigging s.ps.grade p
  let notice := fun ended => Notice.gradeEvent ended p.reach p.height p.gradeError p.quality p.count p.stamp
  if digging && !s.ps.overdig then
    requestPsAlarm .pulse (queueNotice (notice none) (onPs (fun ps => { ps with overdig := true }) s))
  else if !digging && s.ps.overdig then
    requestPsAlarm .off
      (queueNotice (notice (some (overdigEnd s.ps.grade p))) (onPs (fun ps => { ps with overdig := false }) s))
  else s

/-- A TIP REPORT is due at a completion (R53). -/
def tipReportDue (ps : Ps) (stamp : Stamp) : Bool :=
  ps.tipInterval != 0 &&
    match ps.tipLast with
    | none => true
    | some last => decide (ps.tipInterval ≤ elapsed stamp last)

/-- The tip subscription is served at a completion (R53). -/
def serveTip (p : Pose) (s : State) : State :=
  if tipReportDue s.ps p.stamp then
    queueNotice (.tipReport p.reach p.height p.slewAngle p.gradeError p.quality p.count)
      (onPs (fun ps => { ps with tipLast := some p.stamp }) s)
  else s

/-! ## The completion (R48) -/

/-- A pose above the thresholds of R140 is an activity event. -/
def poseActive (s : State) (p : Pose) : Bool :=
  swinging s p || decide (364 ≤ p.boomRate.natAbs ∨ 364 ≤ p.stickRate.natAbs ∨ 364 ≤ p.bucketRate.natAbs)

/-- What the EM takes of a completed pose, in order: the activity, and then a change of phase (R140, R141). -/
def emDeliveries (s : State) (p : Pose) : List (State → State) :=
  (if poseActive s p then [takeActivity] else []) ++ phaseDelivery s p

/-- The three deliveries of a completed pose, in no order among themselves (R48, R101, R141). -/
def deliverPose (p : Pose) (s : State) : State :=
  interleave [[deliverPoseToSl p], poseDeliveries s p, emDeliveries s p] (takePoseAtCt p s)

/-- A pending computation begins at once (R40). -/
def startPending (s : State) : State :=
  if s.ps.pendingStart then startComputation (onPs (fun ps => { ps with pendingStart := false }) s) else s

/-- The completion of a computation: the pose record, the grade, the tip report, the deliveries, and the pending start
(R40, R48). -/
def completePose (c : Computation) (s : State) : State :=
  let p := assemblePose s.ps c s.now
  let s := onPs (fun ps => { ps with pose := p, inFlight := none }) s
  startPending (deliverPose p (serveTip p (settleOverdig p s)))

/-- POSE_COMPLETION (R48). -/
def execPoseCompletion (s : State) : Result :=
  match s.ps.inFlight with
  | none => .next s
  | some c => whenDue s.powered s (completePose c)

/-! ## Commands (R36, R37, R49, R52) -/

/-- The geometry record is replaced, and the store marked when it differs (R36). -/
def replaceGeometry (g : Geometry) (s : State) : State :=
  let differs := g != s.ps.geometry
  let s := onPs (fun ps => { ps with geometry := g }) s
  if differs then markRetained s else s

/-- GEOMETRY SET at its owner: the record, the mark, the end of an active run, the computation (R36, R115). The end of the run
lets waiting pressure samples be taken, and no rule says whether the record is replaced before it: a free order (assumption
log 32). -/
def geometrySetOwner : Owner :=
  withFields geometrySet? fun g s =>
    let s := anyOrder (replaceGeometry g :: if s.ct.run.isSome then [hardFail .hardSettings] else []) s
    (requestComputation s, answerDone [])

/-- GEOMETRY_SET (R36). -/
def execGeometrySet (tag : Byte) (body : List Byte) (s : State) : Result :=
  interpret 0x10 .service (lengthIs 18) geometrySetOwner tag body s

/-- GEOMETRY GET at its owner (R37). -/
def geometryGetOwner : Owner := fun _ s => (s, answerDone (geometryBytes s.ps.geometry))

/-- GEOMETRY_GET (R37). -/
def execGeometryGet (tag : Byte) (body : List Byte) (s : State) : Result :=
  interpret 0x11 .operator (lengthIs 0) geometryGetOwner tag body s

/-- GRADE SET at its owner (R49). -/
def gradeSetOwner : Owner :=
  withFields gradeSet? fun g s => (requestForGrade (onPs (fun ps => { ps with grade := g }) s), answerDone [])

/-- GRADE_SET (R49). -/
def execGradeSet (tag : Byte) (body : List Byte) (s : State) : Result :=
  interpret 0x12 .operator (lengthIs 9) gradeSetOwner tag body s

/-- The interval a request is taken as (R52). -/
def tipIntervalOf (request : Nat) : Nat := if request = 0 then 0 else max 20 (min 1000 request)

/-- TIP SUBSCRIBE at its owner (R52). -/
def tipSubscribeOwner : Owner := fun body s =>
  let interval := tipIntervalOf (u16 body 0)
  (onPs (fun ps => { ps with tipInterval := interval, tipLast := none }) s, answerDone (be 2 interval))

/-- TIP_SUBSCRIBE (R52). -/
def execTipSubscribe (tag : Byte) (body : List Byte) (s : State) : Result :=
  interpret 0x13 .operator (lengthIs 2) tipSubscribeOwner tag body s

end Sys2Proof.Machine
end

