-- ==== Sys2Proof/Machine/Sensors.lean ====
section
/-! DEFINITION. The Sensor Channel Unit (spec 01): the checks on an arriving frame, acceptance, health and its deliveries, the
line events, the timers, and the channel commands. -/

namespace Sys2Proof.Machine

/-! ## Deliveries of the SCU (R8, R10, R18) -/

/-- What a change of health of a channel delivers: the notice, and the new health to the PS, the SL or the CT. R18 gives them
no order, and the model takes them in a free one (assumption log 9). -/
def healthActions (ch : Fin 6) (old new : Health) : List (State → State) :=
  if old = new then []
  else
    (fun s => queueNotice (.channelHealth ch old new s.now) s) ::
      ((if ch.val < 5 then [requestComputation] else []) ++ (if ch = 3 then [deliverHealthToSl new] else []) ++
        if ch = 5 then [deliverHealthToCt new] else [])

/-- What a sample that has entered its FIFO delivers, its channel now in health `h`: its arrival to the PS, the slew angle to
the SL unless the channel is OFF or FAILED, or its offer to the CT (R8, R10, R92). That the offer of a sample accepted in
FAILED(MISWIRED) or FAILED(BREAK) can make the latest force present, although R100 says that a FAILED pressure channel holds the
machine in DIGGING, is the model's choice (assumption log 34). -/
def sampleActions (ch : Fin 6) (h : Health) (x : Sample) : List (State → State) :=
  (if ch.val < 5 then [requestComputation] else []) ++ (if ch = 3 ∧ h.isDown = false then [readSlewTravel x] else []) ++
    if ch = 5 then [drainPressure] else []

/-- A change of a channel context, with the deliveries of its change of health, if any (R18). -/
def changeChannel (ch : Fin 6) (f : Channel → Channel) (s : State) : State :=
  anyOrder (healthActions ch s.scu[ch].health (f s.scu[ch]).health) (onChannel ch f s)

/-! ## The frame (R2 to R7) -/

/-- The node type byte of a channel (spec 01, the table at the head). -/
def nodeType : Fin 6 → Byte
  | 0 => 0x11
  | 1 => 0x12
  | 2 => 0x13
  | 3 => 0x21
  | 4 => 0x31
  | 5 => 0x41

/-- The CRC-8 of a frame agrees (R2, R3). -/
def sensorCrcAgrees (bytes : List Byte) : Bool := crc8 ((bytes.drop 1).take 7) == bytes.getD 8 0

/-- The sequence number of a frame (R2). -/
def frameSeq (bytes : List Byte) : Nat := u8 bytes 3 / 16

/-- The sensor status of a frame (R2). -/
def frameStatus (bytes : List Byte) : Nat := u8 bytes 3 % 4

/-- The unit of a frame matches under the mask (R4). -/
def unitMatches (c : ChannelSettings) (unit : Byte) : Bool := unit &&& c.mask == c.unit &&& c.mask

/-- The A and the B value of a sample, and whether either was clamped on channel 5 (R7). -/
def frameValues (ch : Fin 6) (bytes : List Byte) : Int × Int × Bool :=
  if ch.val < 4 then
    ((if ch = 3 then (u16 bytes 4 : Int) else s16 bytes 4), clampInt (-16384) 16384 (s16 bytes 6), false)
  else if ch = 4 then (s16 bytes 4, s16 bytes 6, false)
  else
    let a := clampInt 0 6000 (s16 bytes 4)
    let b := clampInt 0 6000 (s16 bytes 6)
    (a, b, a != s16 bytes 4 || b != s16 bytes 6)

/-- The missed numbers between two sequence numbers, 0 when the second follows the first (R6). -/
def missedBetween (previous received : Nat) : Nat := (received + 31 - previous) % 16

/-- The missed numbers at an accepted frame; none without a reference (R6). -/
def missedAt (last : Option LastFrame) (seq : Nat) : Nat :=
  match last with
  | none => 0
  | some l => missedBetween l.seq seq

/-- The sample of an accepted frame (R7). -/
def sampleOf (ch : Fin 6) (bytes : List Byte) (gap : Bool) (now : Stamp) : Sample :=
  let v := frameValues ch bytes
  { a := v.1, b := v.2.1, stamp := now
    flags := { degraded := frameStatus bytes == 1, fault := decide (2 ≤ frameStatus bytes), gap := gap, clamped := v.2.2 } }

/-! ## Acceptance (R6 to R8, R12 to R17) -/

/-- FAILED(SILENT) and FAILED(SENSOR_FAULT), which a good sample ends (R17). -/
def Health.endsByGoodSample : Health → Bool
  | .failed .silent | .failed .sensorFault => true
  | _ => false

/-- The acquisition count after a sample without FAULT (R13). -/
def nextAcqCount (c : Channel) (now : Stamp) : Nat :=
  match c.lastFrame with
  | none => 1
  | some l => if c.acqCount = 0 ∨ c.settings.window < elapsed now l.stamp then 1 else c.acqCount + 1

/-- The health and the timers after an accepted sample; `c` still holds the reference of the sample before it (R13, R14). -/
def Channel.judgeSample (fault : Bool) (now : Stamp) (c : Channel) : Channel :=
  match c.health with
  | .acquiring =>
    if fault then { c with acqCount := 0 }
    else
      let n := nextAcqCount c now
      if n = 3 then Channel.goLive now { c with acqCount := 0 } else { c with acqCount := n }
  | .live => { c with staleTimer := some now }
  | .stale => if fault then { c with silentTimer := some now } else Channel.goLive now c
  | .off | .failed _ => c

/-- The fault run after an accepted sample, and FAILED(SENSOR_FAULT) when it reaches 3 (R17). -/
def Channel.countFault (fault : Bool) (c : Channel) : Channel :=
  let run := if fault then min 3 (c.faultRun + 1) else 0
  let reached := run == 3 && c.faultRun != 3
  let c := { c with faultRun := run }
  match c.health with
  | .failed .miswired | .failed .sensorFault | .off => c
  | _ => if reached then c.fail .sensorFault else c

/-- A frame that is accepted: the counters, the reference, the health and the FIFO (R6 to R8, R12 to R17). -/
def Channel.accept (ch : Fin 6) (bytes : List Byte) (now : Stamp) (c : Channel) : Channel :=
  let fault := decide (2 ≤ frameStatus bytes)
  let c := if Health.endsByGoodSample c.health && !fault then c.enterAcquiring else c
  let missed := missedAt c.lastFrame (frameSeq bytes)
  let c := c.onStats fun t => { t with accepted := satAdd max16 t.accepted 1, missed := satAdd max16 t.missed missed }
  let c := Channel.countFault fault (Channel.judgeSample fault now { c with rejectRun := 0 })
  { c with lastFrame := some { seq := frameSeq bytes, stamp := now } }.enqueue (sampleOf ch bytes (missed != 0) now)

/-- The sample an acceptance makes of a frame. -/
def acceptedSample (ch : Fin 6) (bytes : List Byte) (now : Stamp) (c : Channel) : Sample :=
  let fault := decide (2 ≤ frameStatus bytes)
  let c := if Health.endsByGoodSample c.health && !fault then c.enterAcquiring else c
  sampleOf ch bytes (missedAt c.lastFrame (frameSeq bytes) != 0) now

/-- An identity reject (R4, R16). -/
def Channel.rejectIdentity (c : Channel) : Channel :=
  let run := min 8 (c.rejectRun + 1)
  let reached := run == 8 && c.rejectRun != 8
  let c := { c with rejectRun := run }
  match c.health with
  | .acquiring | .live | .stale => if reached then c.fail .miswired else c
  | .off | .failed _ => c

/-- A frame arrives sooner than the minimum spacing after the last accepted one (R5). -/
def isChatter (c : Channel) (now : Stamp) : Bool :=
  match c.lastFrame with
  | none => false
  | some l => decide (elapsed now l.stamp < c.settings.spacing)

/-- What the checks of section 1.2 make of a frame, in their order. -/
inductive FrameVerdict
  | badCrc | wrongType | foreign | chatter | accepted
  deriving DecidableEq, Repr

/-- The checks on an arriving frame (R3 to R5). -/
def judgeFrame (ch : Fin 6) (bytes : List Byte) (now : Stamp) (c : Channel) : FrameVerdict :=
  if !sensorCrcAgrees bytes then .badCrc
  else if bytes.getD 1 0 ≠ nodeType ch then .wrongType
  else if !unitMatches c.settings (bytes.getD 2 0) then .foreign
  else if isChatter c now then .chatter
  else .accepted

/-- FRAMES SEEN counts a frame whose CRC agrees (R3). -/
def Channel.seen (c : Channel) : Channel := c.onStats fun t => { t with framesSeen := satAdd max16 t.framesSeen 1 }

/-- The context after a frame, by the verdict (R3 to R8). -/
def Channel.afterFrame (ch : Fin 6) (bytes : List Byte) (now : Stamp) (c : Channel) : Channel :=
  match judgeFrame ch bytes now c with
  | .badCrc => c.onStats fun t => { t with check := satAdd max16 t.check 1 }
  | .wrongType => Channel.rejectIdentity ((Channel.seen c).onStats fun t => { t with typeReject := satAdd max16 t.typeReject 1 })
  | .foreign => Channel.rejectIdentity ((Channel.seen c).onStats fun t => { t with foreign := satAdd max16 t.foreign 1 })
  | .chatter => { (Channel.seen c).onStats fun t => { t with chatter := satAdd max16 t.chatter 1 } with chatterLatch := true }
  | .accepted => Channel.accept ch bytes now (Channel.seen c)

/-- The arrival of a frame: the context first, whole, and then the deliveries of a change of health and of the sample, which
have no order (R8, R18, assumption log 9). -/
def arriveFrame (ch : Fin 6) (bytes : List Byte) (s : State) : State :=
  let c := { s.scu[ch] with assembler := .hunting }
  let new := Channel.afterFrame ch bytes s.now c
  let sample :=
    if judgeFrame ch bytes s.now c = .accepted then sampleActions ch new.health (acceptedSample ch bytes s.now c) else []
  interleave (sample :: (healthActions ch c.health new.health).map fun f => [f]) (onChannel ch (fun _ => new) s)

/-! ## Line events (R1, R15) -/

/-- The channel is enabled and the part supplied, so its receiver and break detector run (R1, R12). -/
def channelRuns (ch : Fin 6) (s : State) : Bool := s.powered && s.scu[ch].settings.enable

/-- The assembler has eight bytes, and one more completes the frame (R1). -/
def awaitsNinth : Assembler → Bool
  | .hunting => false
  | .collecting bytes => bytes.length == 8

/-- SENSOR_FRAME_ARRIVAL (R1, R3). -/
def execSensorFrameArrival (ch : Fin 6) (char : Byte) (s : State) : Result :=
  match s.scu[ch].assembler with
  | .hunting => .next s
  | .collecting bytes =>
    whenDue (channelRuns ch s && bytes.length == 8) s (arriveFrame ch (bytes ++ [char]))

/-- A character with a good stop bit that does not complete a frame (R1). -/
def Assembler.take (char : Byte) : Assembler → Assembler
  | .hunting => if char = 0xA6 then .collecting [char] else .hunting
  | .collecting bytes => .collecting (bytes ++ [char])

/-- SENSOR_CHARACTER (R1). -/
def execSensorCharacter (ch : Fin 6) (char : Byte) (s : State) : Result :=
  whenDue (channelRuns ch s && !awaitsNinth s.scu[ch].assembler) s
    (onChannel ch fun c => { c with assembler := Assembler.take char c.assembler })

/-- SENSOR_FRAMING_ERROR (R1). -/
def execSensorFramingError (ch : Fin 6) (s : State) : Result :=
  whenDue (channelRuns ch s) s
    (onChannel ch fun c => { c with assembler := .hunting }.onStats fun t => { t with framing := satAdd max16 t.framing 1 })

/-- A break detected (R15). -/
def Channel.takeBreak (c : Channel) : Channel :=
  let c := { c with brk := { lowRun := 5, mark := true } }
  let counted := c.onStats fun t => { t with breaks := satAdd max16 t.breaks 1 }
  match c.health with
  | .failed .lineBreak => c
  | .failed .miswired => counted
  | _ => counted.fail .lineBreak

/-- BREAK_DETECTED (R15). -/
def execBreakDetected (ch : Fin 6) (s : State) : Result :=
  whenDue (channelRuns ch s && s.scu[ch].brk.detects false) s (changeChannel ch Channel.takeBreak)

/-- Two high samples in a row (R15, R12). -/
def Channel.endBreak (c : Channel) : Channel :=
  let c := { c with brk := {} }
  if c.health = .failed .lineBreak then { c with assembler := .hunting }.enterAcquiring else c

/-- BREAK_END (R15). -/
def execBreakEnd (ch : Fin 6) (s : State) : Result :=
  whenDue (channelRuns ch s && s.scu[ch].brk.ends true) s (changeChannel ch Channel.endBreak)

/-- BREAK_DETECTOR_SAMPLE (R15). -/
def execBreakDetectorSample (ch : Fin 6) (high : Bool) (s : State) : Result :=
  whenDue (channelRuns ch s && !s.scu[ch].brk.detects high && !s.scu[ch].brk.ends high) s
    (onChannel ch fun c => { c with brk := c.brk.sample high })

/-! ## Timers (R14) -/

/-- A timer that measures from `start` has run `len` ms. -/
def timerDone (now : Stamp) (start : Option Stamp) (len : Nat) : Bool :=
  match start with
  | none => false
  | some t => decide (len ≤ elapsed now t)

/-- STALE_TIMER_EXPIRY (R14). -/
def execStaleTimerExpiry (ch : Fin 6) (s : State) : Result :=
  let c := s.scu[ch]
  whenDue (channelRuns ch s && decide (c.health = .live) && timerDone s.now c.staleTimer c.settings.window) s
    (changeChannel ch Channel.goStale)

/-- SILENT_TIMER_EXPIRY (R14). -/
def execSilentTimerExpiry (ch : Fin 6) (s : State) : Result :=
  let c := s.scu[ch]
  whenDue (channelRuns ch s && decide (c.health = .stale) && timerDone s.now c.silentTimer (10 * c.settings.window)) s
    (changeChannel ch (Channel.fail .silent))

/-! ## Commands (R20 to R22) -/

/-- The command that waits next completes a frame on the channel, at this very moment (R20, assumption log 30). -/
def frameComesNext (ch : Fin 6) (s : State) : Bool :=
  match s.pending.head? with
  | some (.sensorFrameArrival k _) => decide (k = ch) && channelRuns ch s && awaitsNinth s.scu[ch].assembler
  | _ => false

/-- A context under new settings: a fresh acquisition, or a disable (R20). A frame that completes at this moment, `completing`,
is not abandoned by the acquisition, and is checked under the new settings as its first. -/
def Channel.reset (new : ChannelSettings) (completing : Bool) (c : Channel) : Channel :=
  let c := { c with settings := new }
  if new.enable then { c.freshAcquisition with assembler := if completing then c.assembler else .hunting } else c.disable

/-- CHANNEL SET at its owner (R20). -/
def channelSetOwner : Owner :=
  withFields channelSet? fun (ch, new) s =>
    let completing := frameComesNext ch s
    let differs := new != s.scu[ch].settings
    let s := if differs then markRetained s else s
    (changeChannel ch (Channel.reset new completing) s, answerDone [])

/-- CHANNEL_SET (R20). -/
def execChannelSet (tag : Byte) (body : List Byte) (s : State) : Result :=
  interpret 0x08 .service (lengthIs 7) channelSetOwner tag body s

/-- The sample flags a channel shows, by its status mode (R11). -/
def shownFlags (c : Channel) : SampleFlags :=
  match c.settings.mode with
  | .accumulated => c.accumulated
  | .latest => (c.fifo.head?.map Sample.flags).getD {}

/-- The fields of CHANNEL STATUS after their presence byte (R21, R180). -/
def channelFields (ch : Fin 6) (c : Channel) : List Byte :=
  be 1 (packBits [c.health.reason.isSome, c.lastFrame.isSome, c.lastFrame.isSome]) ++ be 1 ch.val ++ be 1 c.health.code ++
    be 1 c.health.reasonCode ++ be 1 c.fifo.length ++ be 1 (shownFlags c).code ++
    be 1 (packBits [c.chatterLatch, c.overrunLatch]) ++ be 1 ((c.lastFrame.map LastFrame.seq).getD 0) ++
    beStamp ((c.lastFrame.map LastFrame.stamp).getD 0) ++ channelStatsBytes c.stats ++ channelSettingsBytes c.settings

/-- The clear flag of CHANNEL STATUS (R21). -/
def Channel.clearCounts (c : Channel) : Channel :=
  { c with stats := {}, chatterLatch := false, overrunLatch := false, accumulated := {} }

/-- CHANNEL STATUS at its owner (R21). -/
def channelStatusOwner : Owner :=
  withFields channelStatus? fun (ch, clear) s =>
    (if clear then onChannel ch Channel.clearCounts s else s, answerDone (channelFields ch s.scu[ch]))

/-- CHANNEL_STATUS (R21). -/
def execChannelStatus (tag : Byte) (body : List Byte) (s : State) : Result :=
  interpret 0x09 .operator (lengthIs 2) channelStatusOwner tag body s

/-- CHANNEL RESTART at its owner (R22). -/
def channelRestartOwner : Owner :=
  withFields (fun b => index? 6 (u8 b 0)) fun ch s =>
    if s.scu[ch].settings.enable then (changeChannel ch Channel.freshAcquisition s, answerDone [])
    else (s, answerRefused .state)

/-- CHANNEL_RESTART (R22). -/
def execChannelRestart (tag : Byte) (body : List Byte) (s : State) : Result :=
  interpret 0x0A .operator (lengthIs 1) channelRestartOwner tag body s

end Sys2Proof.Machine
end

