-- ==== Sys2Proof/Machine/Inputs.lean ====
section
/-! DEFINITION. A reading of the machine inputs that accepts a level change, with the events it delivers (spec 02, R24 to
R29). -/

namespace Sys2Proof.Machine

/-- A change of authority: the level, the AUTHORITY notice, the re-arming and the evaluation; nothing when the level worked
out afresh is the one held (R28, R29). -/
def settleAuthority (s : State) : State :=
  let old := s.mlu.authority
  let new := authorityOf s.mlu.inputs
  if new = old then s
  else rearmZones new (queueNotice (.authority old new s.now) (onMlu (fun m => { m with authority := new }) s))

/-- The deliveries of one activity input: an event when it becomes ACTIVE (R26). -/
def activityEvents (changed level : Bool) : List (List (State → State)) :=
  if changed && level then [[takeActivity]] else []

/-- The deliveries of TRAVEL: the activity and the TRAVEL event to the ZT, the CT and the LR when it becomes ACTIVE, the
change to the CT when it becomes INACTIVE (R26, R27). -/
def travelEvents (changed level : Bool) : List (List (State → State)) :=
  if changed then
    if level then [[takeActivity], [travelZones], [toUnknown], [travelLoads]] else [[travelEndedAtCt]]
  else []

/-- The events of a reading, from the changes it accepts and the accepted levels after it (R24, R26 to R28). -/
def inputEvents (changed : PerInput Bool) (inputs : PerInput Debouncer) : List (List (State → State)) :=
  activityEvents changed.pilotEnable inputs.pilotEnable.level ++
    (if changed.seat then [[takeSeatChange]] else []) ++
    activityEvents changed.joyLeft inputs.joyLeft.level ++
    activityEvents changed.joyRight inputs.joyRight.level ++
    travelEvents changed.travel inputs.travel.level ++
    if changed.supervisorKey || changed.servicePlug then [[settleAuthority]] else []

/-- A reading with its events (R24, R26 to R28). R24 gives the events of different inputs no order and does not say that there
is none: the model takes them in a free one (assumption log 7). -/
def readInputs (samples : InputSamples) (s : State) : State :=
  let changed := changesAt s.mlu samples
  let s := takeReading samples s
  interleave (inputEvents changed s.mlu.inputs) s

/-- INPUT_LEVEL_CHANGE (R24): a reading that accepts at least one level change. -/
def execInputLevelChange (samples : InputSamples) (s : State) : Result :=
  whenDue (readingDue s && PerInput.any (changesAt s.mlu samples)) s (readInputs samples)

end Sys2Proof.Machine
end

