-- ==== Sys2Proof/Machine/Reset.lean ====
section
/-! DEFINITION. The end of a commit attempt, the two resets, and the supply (spec 10, and the reset rules of the other
chapters: R23, R25, R34, R54, R55, R73 to R75, R94, R118, R131, R147, R160, R177). -/

namespace Sys2Proof.Machine

/-! ## The end of an attempt (R164, R165) -/

/-- The attempt succeeded: the write was completed and the image read back equals the snapshot, the check included (R164). -/
def attemptSucceeds (written : Bool) (readBack : Image) (r : CommitRecord) : Bool :=
  written && decide (readBack = snapshotImage r.snapshot)

/-- The state a commit that ends leaves (R165). -/
def stateAfterCommit (done changed : Bool) : RsState := if !done then .failed else if changed then .dirty else .clean

/-- The host's COMMIT waits at the head of the inbox and may be taken now. -/
def waitingCommit (s : State) : Option CommandFrame :=
  match s.lc.inbox.head? with
  | some f => if takeable 0x03 f.tag f.body s && f.kind == 0x03 then some f else none
  | none => none

/-- The host's COMMIT and the end of a commit that the EM waits on with PRIOR come at the same moment: either may be taken
first (R143, assumption log 14). -/
def commitRace (s : State) : State :=
  match s.em.wait, waitingCommit s with
  | .prior, some f =>
    let first := Config.freeChoice s.choices % 2 == 1
    let s := { s with choices := s.choices + 1 }
    if first then runFrame 0x03 f.tag f.body (checkedOwner 0x03 .operator (lengthIs 0) commitOwner) s else s
  | _, _ => s

/-- The end of a commit: the state, the result a RESTART awaited, the COMMIT RESULT, and the delivery to the EM (R165,
R167). The changed mark, which has a meaning only while COMMITTING, is cleared here: the model's choice (assumption log 29). -/
def endCommit (r : CommitRecord) (done : Bool) (s : State) : State :=
  let st := stateAfterCommit done s.rs.changed
  let s := { s with rs := { s.rs with
    state := st
    changed := false
    awaited := if s.rs.restartPending then some { done := done, attempts := r.attempt } else none } }
  let s := queueNotice (.commitResult r.requester done r.attempt st s.now) s
  takeCommitEnd (!done) (commitRace s)

/-- An attempt's end (R164): success, a new attempt with the same snapshot, or failure at the third. -/
def endAttempt (written : Bool) (readBack : Image) (r : CommitRecord) (s : State) : State :=
  let s := { s with rs := { s.rs with image := readBack } }
  if attemptSucceeds written readBack r then endCommit r true s
  else if r.attempt < 3 then
    { s with rs := { s.rs with state := .committing { r with attempt := r.attempt + 1 } } }
  else endCommit r false s

/-- COMMIT_ATTEMPT_END (R164). -/
def execCommitAttemptEnd (written : Bool) (readBack : Image) (s : State) : Result :=
  match s.rs.state with
  | .committing r => whenDue s.powered s (endAttempt written readBack r)
  | _ => .next s

/-! ## The content after a reset -/

/-- The state an arm-at-start flag gives, as a prior state (R73). -/
def priorFromFlag (z : ZoneRecord) : PriorState := if z.armAtStart then .armed else .dormant

/-- A zone entry after a reset, unanchored or in the state its flag gives (R73 to R75). -/
def resetZone (unanchored : Bool) (z : Option ZoneRecord) : ZoneEntry :=
  { held := z.map fun z => { record := z, state := if unanchored then .unanchored (priorFromFlag z) else writtenState z } }

/-- The zone table after a reset (R73 to R75). -/
def resetZones (zones : Vector (Option ZoneRecord) 16) (unanchored : Fin 16 → Bool) : Zt :=
  let entries := Vector.ofFn fun k : Fin 16 => resetZone (unanchored k) zones[k]
  { zones := entries, unanchored := unanchoredCount entries }

/-- The channel contexts after a reset (R23). -/
def resetChannels (r : Retained) : Vector Channel 6 := r.channels.map ChannelSettings.freshChannel

/-- The health of a channel after a reset (R23). -/
def resetHealthOf (r : Retained) (ch : Fin 6) : Health := r.channels[ch].resetHealth

/-- The service table after a reset: the states and the cap worked out afresh (R160). -/
def resetService (r : Retained) : St :=
  let entries := r.items.map fun i => i.map entryOf
  { entries := entries, reportedCap := lowestCap entries }

/-- The Link Controller after a reset, STARTED handed over as the only notice (R177). -/
def resetLink (rate : LinkRate) (tx : Transmitter) (started : Notice) : Lc :=
  Lc.pump (some 0) { Lc.fresh rate tx with notices := [started] }

/-- Every block after a reset, from the retained content, the anchoring of the zones, the store, and the STARTED notice. -/
def resetState (r : Retained) (unanchored : Fin 16 → Bool) (rs : Rs) (rate : LinkRate) (tx : Transmitter)
    (started : Notice) (s : State) : State :=
  let zt := resetZones r.zones unanchored
  let st := resetService r
  { scu := resetChannels r
    mlu := .fresh (ztAlarmFor zt.unanchored)
    ps := .fresh r.geometry (Vector.ofFn fun k : Fin 5 => resetHealthOf r k.castSucc)
    zt := zt
    sl := .fresh r.slew r.slewTurns (resetHealthOf r 3)
    ct := .fresh r.cycle r.fempty r.gain (resetHealthOf r 5)
    lr := .fresh r.classes r.passTotal r.payloadTotal
    em := .fresh r st.reportedCap
    st := st
    rs := rs
    lc := resetLink rate tx started
    powered := true
    choices := s.choices
    pending := s.pending }

/-! ## Power-on (R166) -/

/-- The image is taken: its layout version is this part's and its check agrees (R166). -/
def imageSound (i : Image) : Bool := i.layout == .ofThisPart && i.checkAgrees

/-- The rate the LINK_SPEED strap gives (R169). -/
def strapRate (strapHigh : Bool) : LinkRate := if strapHigh then .r460800 else .r115200

/-- The retained content every block takes at a power-on: the image's, or the defaults (R161, R166). -/
def loadedContent (i : Image) : Retained := if imageSound i then i.content else .default

/-- A SITE sector zone starts UNANCHORED at a power-on (R74). -/
def unanchoredAtPowerOn (zones : Vector (Option ZoneRecord) 16) (k : Fin 16) : Bool :=
  match zones[k] with
  | some z => z.isSiteSector
  | none => false

/-- A power-on (R166). -/
def powerOn (strapHigh : Bool) (s : State) : State :=
  let i := s.rs.image
  let r := loadedContent i
  resetState r (unanchoredAtPowerOn r.zones)
    { image := i, state := if imageSound i then .clean else .dirty, changed := false, restartPending := false, awaited := none }
    (strapRate strapHigh) .free
    (.started .powerOn (if imageSound i then .loaded else .retainedLost) none) s

/-- POWER_ON (R166): the supply comes to a part that has none. -/
def execPowerOn (strapHigh : Bool) (s : State) : Result := whenDue (!s.powered) s (powerOn strapHigh)

/-! ## RESTART takes effect (R167) -/

/-- The store's state as STARTED carries it after a RESTART (R177). -/
def keptResult : RsState → RetainedResult
  | .clean => .clean
  | .dirty => .dirty
  | .failed | .committing _ => .failed

/-- A reply waits in the slot or is being sent (R167). -/
def replyOutstanding (lc : Lc) : Bool :=
  lc.replySlot.isSome ||
    match lc.tx with
    | .sending (.reply _) => true
    | _ => false

/-- The reset of a RESTART: retained content and the store's state stay as they stand (R167). -/
def restartReset (s : State) : State :=
  resetState (retainedOf s) (fun k => ZoneEntry.isUnanchored s.zt.zones[k])
    { image := s.rs.image, state := s.rs.state, changed := false, restartPending := false, awaited := none }
    s.lc.rate s.lc.tx (.started .restart (keptResult s.rs.state) s.rs.awaited) s

/-- RESTART_TAKES_EFFECT (R167): no commit is in flight, and no reply waits or is being sent. -/
def execRestartTakesEffect (s : State) : Result :=
  whenDue (s.powered && Rs.restartDue s.rs && !replyOutstanding s.lc) s restartReset

/-! ## Loss of power (R165, spec 00 section 5.6) -/

/-- The image a loss of power leaves: an attempt cut short may leave anything (R165). -/
def imageAfterLoss (rs : Rs) (left : Image) : Image := if rs.state.isCommitting then left else rs.image

/-- A part without supply: the image alone outlasts the loss; the rest is put at the values a power-on with a lost image
would give, with nothing being sent (assumption log 6). -/
def unpowered (image : Image) (s : State) : State :=
  { State.reset with
    rs := { State.reset.rs with image := image }
    lc := Lc.fresh .r115200 .free
    powered := false
    choices := s.choices
    pending := s.pending }

/-- POWER_LOSS (R165). -/
def execPowerLoss (left : Image) (s : State) : Result :=
  whenDue s.powered s (unpowered (imageAfterLoss s.rs left))

end Sys2Proof.Machine
end

