-- ==== Sys2Proof/Machine/Dispatch.lean ====
section
/-! DEFINITION. One arm for each command of the table, each a direct call of its meaning. -/

namespace Sys2Proof.Machine

/-- The effect of a command on everything but the queue of commands. -/
def exec (i : Instr) (s : State) : Host.Outcome State Fault Refusal :=
  match i with
  | .sensorFrameArrival ch char => Sys2Proof.Machine.execSensorFrameArrival ch char s
  | .sensorFramingError ch => Sys2Proof.Machine.execSensorFramingError ch s
  | .breakDetected ch => Sys2Proof.Machine.execBreakDetected ch s
  | .breakEnd ch => Sys2Proof.Machine.execBreakEnd ch s
  | .staleTimerExpiry ch => Sys2Proof.Machine.execStaleTimerExpiry ch s
  | .silentTimerExpiry ch => Sys2Proof.Machine.execSilentTimerExpiry ch s
  | .channelSet tag body => Sys2Proof.Machine.execChannelSet tag body s
  | .channelStatus tag body => Sys2Proof.Machine.execChannelStatus tag body s
  | .channelRestart tag body => Sys2Proof.Machine.execChannelRestart tag body s
  | .inputLevelChange samples => Sys2Proof.Machine.execInputLevelChange samples s
  | .alarmCadence => Sys2Proof.Machine.execAlarmCadence s
  | .poseCompletion => Sys2Proof.Machine.execPoseCompletion s
  | .calibrationStepEnd => Sys2Proof.Machine.execCalibrationStepEnd s
  | .geometrySet tag body => Sys2Proof.Machine.execGeometrySet tag body s
  | .geometryGet tag body => Sys2Proof.Machine.execGeometryGet tag body s
  | .gradeSet tag body => Sys2Proof.Machine.execGradeSet tag body s
  | .tipSubscribe tag body => Sys2Proof.Machine.execTipSubscribe tag body s
  | .zoneWrite tag body => Sys2Proof.Machine.execZoneWrite tag body s
  | .zoneClear tag body => Sys2Proof.Machine.execZoneClear tag body s
  | .zoneRead tag body => Sys2Proof.Machine.execZoneRead tag body s
  | .zoneSuspend tag body => Sys2Proof.Machine.execZoneSuspend tag body s
  | .zoneResume tag body => Sys2Proof.Machine.execZoneResume tag body s
  | .reanchor tag body => Sys2Proof.Machine.execReanchor tag body s
  | .slewSettings tag body => Sys2Proof.Machine.execSlewSettings tag body s
  | .cycleSettings tag body => Sys2Proof.Machine.execCycleSettings tag body s
  | .calibrateEmpty tag body => Sys2Proof.Machine.execCalibrateEmpty tag body s
  | .calibrateGain tag body => Sys2Proof.Machine.execCalibrateGain tag body s
  | .calibrateCancel tag body => Sys2Proof.Machine.execCalibrateCancel tag body s
  | .truckClassSet tag body => Sys2Proof.Machine.execTruckClassSet tag body s
  | .loadNext tag body => Sys2Proof.Machine.execLoadNext tag body s
  | .loadClose tag body => Sys2Proof.Machine.execLoadClose tag body s
  | .loadRead tag body => Sys2Proof.Machine.execLoadRead tag body s
  | .engineReport tag body => Sys2Proof.Machine.execEngineReport tag body s
  | .countersRead tag body => Sys2Proof.Machine.execCountersRead tag body s
  | .economySet tag body => Sys2Proof.Machine.execEconomySet tag body s
  | .idleTimerExpiry => Sys2Proof.Machine.execIdleTimerExpiry s
  | .shutdownTimerExpiry => Sys2Proof.Machine.execShutdownTimerExpiry s
  | .serviceItemSet tag body => Sys2Proof.Machine.execServiceItemSet tag body s
  | .serviceRead tag body => Sys2Proof.Machine.execServiceRead tag body s
  | .serviceAck tag body => Sys2Proof.Machine.execServiceAck tag body s
  | .serviceDone tag body => Sys2Proof.Machine.execServiceDone tag body s
  | .serviceSuspend tag body => Sys2Proof.Machine.execServiceSuspend tag body s
  | .commit tag body => Sys2Proof.Machine.execCommit tag body s
  | .commitAttemptEnd written readBack => Sys2Proof.Machine.execCommitAttemptEnd written readBack s
  | .restart tag body => Sys2Proof.Machine.execRestart tag body s
  | .restartTakesEffect => Sys2Proof.Machine.execRestartTakesEffect s
  | .powerOn strapHigh => Sys2Proof.Machine.execPowerOn strapHigh s
  | .hostFrameArrival char => Sys2Proof.Machine.execHostFrameArrival char s
  | .hostFramingError => Sys2Proof.Machine.execHostFramingError s
  | .hostLengthError char => Sys2Proof.Machine.execHostLengthError char s
  | .hostGapTimeout char => Sys2Proof.Machine.execHostGapTimeout char s
  | .unknownKind kind tag body => Sys2Proof.Machine.execUnknownKind kind tag body s
  | .getStatus tag body => Sys2Proof.Machine.execGetStatus tag body s
  | .transmitEnd => Sys2Proof.Machine.execTransmitEnd s
  | .sensorCharacter ch char => Sys2Proof.Machine.execSensorCharacter ch char s
  | .hostCharacter char => Sys2Proof.Machine.execHostCharacter char s
  | .inputReading samples => Sys2Proof.Machine.execInputReading samples s
  | .breakDetectorSample ch high => Sys2Proof.Machine.execBreakDetectorSample ch high s
  | .powerLoss left => Sys2Proof.Machine.execPowerLoss left s

end Sys2Proof.Machine
end

