-- ==== Sys2Proof/Machine/Step.lean ====
section
/-! DEFINITION. The step: the front command of the queue, or a tick of part time. -/

namespace Sys2Proof.Machine

/-- The queue of commands with its front taken off. -/
def State.withPending (s : State) (q : List Instr) : State := { s with pending := q }

/-- A tick on an empty queue: part time advances by 1 ms while the part is supplied (R178, assumption log 2). -/
def tick (s : State) : State :=
  if s.powered then { s with lc := { s.lc with time := s.lc.time + 1 } } else s

/-- One step: the command at the front of the queue runs with the queue's rest; on an empty queue part time ticks. -/
def step (s : State) : Host.Outcome State Fault Refusal :=
  match s.pending with
  | [] => .next (tick s)
  | c :: rest => exec c (s.withPending rest)

/-- The command a word spells is put at the front of the queue; nothing changes where it spells none. -/
def State.withFetchWord (s : State) (nbits w : Nat) : State :=
  match decodeTableWord nbits w with
  | some c => s.withPending (c :: s.pending)
  | none => s

end Sys2Proof.Machine
end

