-- ==== Sys2Proof/WellFormed.lean ====
section
/-! DEFINITION. Which commands are well formed: what a line, a frame or an image can carry at all. -/

namespace Sys2Proof

namespace Machine

/-- The ranges of the channel settings (R20). -/
def channelSettingsValid (c : ChannelSettings) : Bool :=
  decide (5 ≤ c.window ∧ c.window ≤ 200 ∧ 2 ≤ c.spacing ∧ c.spacing ≤ 50 ∧ c.spacing < c.window)

/-- The ranges of a service item (R148). -/
def serviceItemValid (i : ServiceItem) : Bool := serviceDefValid i.definition && decide (i.consumed ≤ max32)

/-- Every item of the retained content is within its range (R161 and the rules it names). -/
def Retained.valid (r : Retained) : Bool :=
  r.channels.toList.all channelSettingsValid && geometryValid r.geometry &&
    r.zones.toList.all (fun z => (z.map zoneValid).getD true) && slewSettingsValid r.slew && cycleSettingsValid r.cycle &&
    r.fempty.toList.all (fun f => decide (-24000000 ≤ f ∧ f ≤ 24000000)) &&
    r.gain.toList.all (fun g => decide (1 ≤ g ∧ g ≤ 65535)) &&
    (List.finRange 16).all (fun i => classValid i r.classes[i]) && economySettingsValid r.economy &&
    decide (r.engineSeconds ≤ max32 ∧ r.weightedSeconds ≤ max32) && r.histogram.toList.all (fun n => decide (n ≤ max32)) &&
    r.items.toList.all (fun i => (i.map serviceItemValid).getD true)

/-- An image whose layout version is this part's and whose check agrees was worked out over content the part can hold
(R161, R164). -/
def imageValid (i : Image) : Bool := !(i.layout == .ofThisPart && i.checkAgrees) || Retained.valid i.content

/-- A body has at most 240 bytes (R168). -/
def bodyValid (b : List Byte) : Bool := decide (b.length ≤ 240)

end Machine

open Machine in
/-- A command is well formed. -/
def Instr.wellFormed : Instr → Bool
  | .sensorFrameArrival .. | .sensorFramingError .. | .breakDetected .. | .breakEnd .. | .staleTimerExpiry ..
  | .silentTimerExpiry .. | .inputLevelChange .. | .alarmCadence | .poseCompletion | .calibrationStepEnd
  | .idleTimerExpiry | .shutdownTimerExpiry | .restartTakesEffect | .powerOn .. | .hostFrameArrival .. | .hostFramingError
  | .hostGapTimeout .. | .transmitEnd | .sensorCharacter .. | .hostCharacter .. | .inputReading ..
  | .breakDetectorSample .. => true
  | .channelSet _ b | .channelStatus _ b | .channelRestart _ b | .geometrySet _ b | .geometryGet _ b | .gradeSet _ b
  | .tipSubscribe _ b | .zoneWrite _ b | .zoneClear _ b | .zoneRead _ b | .zoneSuspend _ b | .zoneResume _ b
  | .reanchor _ b | .slewSettings _ b | .cycleSettings _ b | .calibrateEmpty _ b | .calibrateGain _ b
  | .calibrateCancel _ b | .truckClassSet _ b | .loadNext _ b | .loadClose _ b | .loadRead _ b | .engineReport _ b
  | .countersRead _ b | .economySet _ b | .serviceItemSet _ b | .serviceRead _ b | .serviceAck _ b | .serviceDone _ b
  | .serviceSuspend _ b | .commit _ b | .restart _ b | .getStatus _ b => bodyValid b
  | .unknownKind kind _ b => !knownKinds.contains kind && bodyValid b
  | .hostLengthError char => badLengthChar char
  | .commitAttemptEnd _ image => imageValid image
  | .powerLoss image => imageValid image

end Sys2Proof
end

