-- ==== Sys2Proof/Safety.lean ====
section
/-! DEFINITION. The terms that statements use: a host command that is ready to be taken, the answer it gets, the ranges of its
fields; the context and the health a sample gives, and what a change of health delivers; what the start of a computation takes
and leaves; a travelled zone; a filed pass and a closed load, with the notices of a pass; the weighing of a window; the pressure
samples that the Cycle Tracker takes and the end of a run; the service items after an increment;
the notices a command hands over; the zone tests of an evaluation and the statistics of a zone; the fields of an advice and the
test of the shutdown permission; the content after a reset; and the invariants of the eleven blocks. -/

namespace Sys2Proof.Machine

/-! ## Host commands and their answers (R172, R173, R175) -/

/-- A command frame stands at the head of the inbox of a supplied part, the interpreter is IDLE, the reply slot is empty, and
no reset is about to follow (R172, R167). -/
def CommandReady (kind tag : Byte) (body : List Byte) (s : State) : Prop :=
  s.powered = true ∧ s.lc.interpreter = .idle ∧ s.lc.replySlot = none ∧
    (s.rs.restartPending = true → s.rs.state.isCommitting = true) ∧
    s.lc.inbox.head? = some { kind := kind, tag := tag, body := body }

/-- A ready command that passes the checks common to every kind but the length: no RESTART is pending and the authority
suffices (R172). -/
def CommandAllowed (kind tag : Byte) (body : List Byte) (level : Authority) (s : State) : Prop :=
  CommandReady kind tag body s ∧ s.rs.restartPending = false ∧ level.rank ≤ s.mlu.authority.rank

/-- The reply with a status and the fields that follow it (R173). -/
def replyFrame (kind tag : Byte) (status : Status) (fields : List Byte) : Reply :=
  { kind := kind ||| 0x80, tag := tag, body := BitVec.ofNat 8 (statusCode status) :: fields }

/-- The Link Controller after a command that queues no notice: the frame has left the inbox, and the reply is sent by a free
transmitter or waits in the slot; nothing else changes (R172, R175). -/
def answered (lc : Lc) (r : Reply) : Lc :=
  { lc with
    inbox := lc.inbox.tail
    interpreter := .idle
    replySlot := if lc.tx = .free then none else some r
    tx := if lc.tx = .free then .sending (.reply r) else lc.tx }

/-- The Link Controller after a command that may queue notices: the frame has left the inbox, the reply waits in the slot or
is being sent, and only the notices, their loss count, the marks of the early ones and the transmitter may differ besides (R172 to
R175). -/
def AnswersWith (r : Reply) (s t : State) : Prop :=
  (t.lc.replySlot = some r ∨ (t.lc.replySlot = none ∧ t.lc.tx = .sending (.reply r))) ∧
    t.lc = { s.lc with
      inbox := s.lc.inbox.tail
      interpreter := .idle
      replySlot := t.lc.replySlot
      notices := t.lc.notices
      early := t.lc.early
      tx := t.lc.tx
      noticeLoss := t.lc.noticeLoss }

/-- The frame a host command is the taking of: its kind, its tag and its body (spec 11 section 11.5). -/
def hostFrameOf : Instr → Option CommandFrame
  | .getStatus tag body => some ⟨0x01, tag, body⟩
  | .restart tag body => some ⟨0x02, tag, body⟩
  | .commit tag body => some ⟨0x03, tag, body⟩
  | .channelSet tag body => some ⟨0x08, tag, body⟩
  | .channelStatus tag body => some ⟨0x09, tag, body⟩
  | .channelRestart tag body => some ⟨0x0A, tag, body⟩
  | .geometrySet tag body => some ⟨0x10, tag, body⟩
  | .geometryGet tag body => some ⟨0x11, tag, body⟩
  | .gradeSet tag body => some ⟨0x12, tag, body⟩
  | .tipSubscribe tag body => some ⟨0x13, tag, body⟩
  | .zoneWrite tag body => some ⟨0x18, tag, body⟩
  | .zoneClear tag body => some ⟨0x19, tag, body⟩
  | .zoneRead tag body => some ⟨0x1A, tag, body⟩
  | .zoneSuspend tag body => some ⟨0x1B, tag, body⟩
  | .zoneResume tag body => some ⟨0x1C, tag, body⟩
  | .reanchor tag body => some ⟨0x1D, tag, body⟩
  | .slewSettings tag body => some ⟨0x1E, tag, body⟩
  | .cycleSettings tag body => some ⟨0x20, tag, body⟩
  | .calibrateEmpty tag body => some ⟨0x21, tag, body⟩
  | .calibrateGain tag body => some ⟨0x22, tag, body⟩
  | .calibrateCancel tag body => some ⟨0x23, tag, body⟩
  | .truckClassSet tag body => some ⟨0x24, tag, body⟩
  | .loadNext tag body => some ⟨0x25, tag, body⟩
  | .loadClose tag body => some ⟨0x26, tag, body⟩
  | .loadRead tag body => some ⟨0x27, tag, body⟩
  | .engineReport tag body => some ⟨0x28, tag, body⟩
  | .economySet tag body => some ⟨0x29, tag, body⟩
  | .countersRead tag body => some ⟨0x2A, tag, body⟩
  | .serviceItemSet tag body => some ⟨0x30, tag, body⟩
  | .serviceRead tag body => some ⟨0x31, tag, body⟩
  | .serviceAck tag body => some ⟨0x32, tag, body⟩
  | .serviceDone tag body => some ⟨0x33, tag, body⟩
  | .serviceSuspend tag body => some ⟨0x34, tag, body⟩
  | .unknownKind .. | .sensorFrameArrival .. | .sensorFramingError .. | .breakDetected .. | .breakEnd ..
  | .staleTimerExpiry .. | .silentTimerExpiry .. | .inputLevelChange .. | .alarmCadence | .poseCompletion
  | .calibrationStepEnd | .idleTimerExpiry | .shutdownTimerExpiry | .commitAttemptEnd .. | .restartTakesEffect
  | .powerOn .. | .hostFrameArrival .. | .hostFramingError | .hostLengthError .. | .hostGapTimeout .. | .transmitEnd
  | .sensorCharacter .. | .hostCharacter .. | .inputReading .. | .breakDetectorSample .. | .powerLoss .. => none

/-- The authority a kind needs, by the table of spec 11 section 11.5. -/
def levelOfKind (kind : Byte) : Authority :=
  if kind ∈ [0x08, 0x10, 0x1E, 0x20, 0x30, 0x33, 0x34] then .service
  else if kind ∈ [0x18, 0x19, 0x1D, 0x21, 0x22, 0x24, 0x29] then .supervisor
  else .operator

/-- The lengths a body of a kind may have: a fixed length, or the forms of R180 that depend on the body. -/
def lengthOfKind (kind : Byte) (body : List Byte) : Bool :=
  match kind.toNat with
  | 0x08 => body.length == 7
  | 0x09 | 0x13 | 0x1A | 0x1D | 0x22 | 0x25 | 0x31 | 0x34 => body.length == 2
  | 0x0A | 0x19 | 0x1B | 0x1C | 0x21 | 0x27 | 0x2A | 0x33 => body.length == 1
  | 0x10 => body.length == 18
  | 0x12 | 0x28 => body.length == 9
  | 0x18 => decide (22 ≤ body.length) && body.length == 22 + u8 body 21
  | 0x1E => body.length == 6
  | 0x20 => lengthByOp 1 19 body
  | 0x24 => lengthByOp 1 8 body
  | 0x29 => lengthByOp 1 13 body
  | 0x30 => lengthByOp 12 2 body
  | 0x32 => decide (1 ≤ body.length) && body.length == 1 + u8 body 0
  | _ => body.length == 0

/-- The code values and ranges a body of a kind must keep to, or its owner refuses it with BAD_FIELD, by the owner's rule and
the layouts of R180: a body of the right length with a field outside these is refused whatever the state. -/
def fieldsInRange (kind : Byte) (b : List Byte) : Bool :=
  match kind.toNat with
  | 0x08 => decide (u8 b 0 ≤ 5 ∧ u8 b 1 ≤ 1 ∧ 5 ≤ u8 b 4 ∧ u8 b 4 ≤ 200 ∧ 2 ≤ u8 b 5 ∧ u8 b 5 ≤ 50 ∧ u8 b 5 < u8 b 4 ∧
      u8 b 6 ≤ 1)
  | 0x09 => decide (u8 b 0 ≤ 5 ∧ u8 b 1 ≤ 1)
  | 0x0A => decide (u8 b 0 ≤ 5)
  | 0x10 => decide ((s16 b 0).natAbs ≤ 5000 ∧ (s16 b 2).natAbs ≤ 5000 ∧ 1000 ≤ u16 b 4 ∧ u16 b 4 ≤ 15000 ∧ 500 ≤ u16 b 6 ∧
      u16 b 6 ≤ 10000 ∧ 300 ≤ u16 b 8 ∧ u16 b 8 ≤ 5000 ∧ 1 ≤ u16 b 10 ∧ u16 b 10 ≤ 4000 ∧ 1 ≤ u16 b 12 ∧ u16 b 12 ≤ 4000 ∧
      u16 b 14 ≤ 20000 ∧ 250 ≤ u16 b 16 ∧ u16 b 16 ≤ 4000 ∧
      (s16 b 0).natAbs + (s16 b 2).natAbs + u16 b 4 + u16 b 6 + u16 b 8 ≤ 30000)
  | 0x12 => decide (u8 b 0 = 0 ∨ (u8 b 0 = 1 ∧ u16 b 1 ≤ 15000 ∧ (s16 b 3).natAbs ≤ 500 ∧ u16 b 5 ≤ 30000 ∧ u16 b 7 ≤ 500))
  | 0x18 => decide (u8 b 0 ≤ 15 ∧ (u8 b 1 = 0 ∨ (u8 b 1 ≤ 4 ∧ u8 b 2 ≤ 1 ∧ u16 b 7 ≤ u16 b 9 ∧ u16 b 9 ≤ 30000 ∧
      -30000 ≤ s16 b 11 ∧ s16 b 11 ≤ s16 b 13 ∧ s16 b 13 ≤ 30000 ∧ u16 b 15 ≤ 8192 ∧ u16 b 17 ≤ 2000 ∧ u8 b 19 ≤ 3 ∧
      u8 b 21 ≤ 12 ∧ ∀ c ∈ b.drop 22, 0x20 ≤ c.toNat ∧ c.toNat ≤ 0x7E)))
  | 0x19 | 0x1B | 0x1C => decide (u8 b 0 ≤ 15)
  | 0x1A | 0x25 => decide (u8 b 0 ≤ 15 ∧ u8 b 1 ≤ 1)
  | 0x1E => decide (256 ≤ u16 b 0 ∧ u16 b 0 ≤ 16384 ∧ 16 ≤ u16 b 2 ∧ u16 b 2 ≤ 1024 ∧ 182 ≤ u16 b 4 ∧ u16 b 4 ≤ 4551)
  | 0x20 => decide (u8 b 0 = 0 ∨ (u8 b 0 = 1 ∧ s16 b 3 < s16 b 1 ∧ -15000 ≤ s16 b 5 ∧ s16 b 5 ≤ 5000 ∧ u32 b 7 ≤ 24000000 ∧
      4 ≤ u8 b 11 ∧ u8 b 11 ≤ 32 ∧ u32 b 12 ≤ 48000000 ∧ u16 b 16 ≤ 16384 ∧ u8 b 18 ≤ 1))
  | 0x21 => decide (u8 b 0 ≠ 0)
  | 0x22 => decide (1000 ≤ u16 b 0 ∧ u16 b 0 ≤ 65000)
  | 0x24 => decide (u8 b 0 = 0 ∨ (u8 b 0 = 1 ∧ u8 b 1 ≤ 15 ∧ (u32 b 2 = 0 ∨ (1000 ≤ u32 b 2 ∧ u32 b 2 ≤ 400000)) ∧
      u16 b 6 ≤ 50000 ∧ u16 b 6 ≤ u32 b 2 ∧ (u32 b 2 = 0 → u8 b 1 ≠ 0)))
  | 0x27 => decide (u8 b 0 ≤ 15 ∨ u8 b 0 = 0xFF)
  | 0x29 => decide (u8 b 0 = 0 ∨ (u8 b 0 = 1 ∧ 600 ≤ u16 b 5 ∧ u16 b 5 ≤ u16 b 3 ∧ u16 b 3 ≤ u16 b 1 ∧ u16 b 1 ≤ 2200 ∧
      u8 b 7 ≤ 1 ∧ (u8 b 8 = 0 ∨ (2 ≤ u8 b 8 ∧ u8 b 8 ≤ 60)) ∧ 2 ≤ u8 b 9 ∧ u8 b 9 ≤ 60 ∧
      (u16 b 10 = 0 ∨ (60 ≤ u16 b 10 ∧ u16 b 10 ≤ 3600)) ∧ 60 ≤ u8 b 12 ∧ u8 b 12 ≤ 110))
  | 0x2A => decide (u8 b 0 ≤ 1)
  | 0x30 => decide (u8 b 1 ≤ 23 ∧ (u8 b 0 = 1 ∨ (u8 b 0 = 0 ∧ u8 b 4 ≤ 5 ∧ 1 ≤ u16 b 5 ∧ u16 b 5 ≤ 30000 ∧ 50 ≤ u8 b 7 ∧
      u8 b 7 ≤ 99 ∧ u16 b 8 ≤ u16 b 5 ∧ u8 b 10 ≤ 1 ∧ 40 ≤ u8 b 11 ∧ u8 b 11 ≤ 100 ∧ ¬(u8 b 4 = 4 ∧ u16 b 5 = 1))))
  | 0x31 => decide (u8 b 0 ≤ 23 ∧ 1 ≤ u8 b 1 ∧ u8 b 1 ≤ 6 ∧ u8 b 0 + u8 b 1 ≤ 24)
  | 0x32 => decide (1 ≤ u8 b 0 ∧ u8 b 0 ≤ 24 ∧ ∀ x ∈ b.drop 1, x.toNat ≤ 23)
  | 0x33 => decide (u8 b 0 ≤ 23)
  | 0x34 => decide (u8 b 0 ≤ 23 ∧ u8 b 1 ≤ 1)
  | _ => true

/-! ## Sensor samples (R12, R13, R16, R17) -/

/-- The health of an enabled channel after an accepted sample, by its health before. A good one in FAILED(SILENT) or
FAILED(SENSOR_FAULT) begins an acquisition as its first; the third good one in ACQUIRING, each but the first within the stale
window of the one before, and a good one in STALE make it LIVE; the third FAULT one in a row makes it FAILED(SENSOR_FAULT),
unless it is FAILED(MISWIRED). A run that stands at 3 fails nothing again (assumption log 20). -/
def healthAfterSample (c : Channel) (fault : Bool) (now : Stamp) : Health :=
  let count := match c.lastFrame with
    | none => 1
    | some l => if c.acqCount = 0 ∨ c.settings.window < (now - l.stamp).toNat then 1 else c.acqCount + 1
  if fault then
    if c.faultRun = 2 ∧ c.health ≠ .failed .miswired then .failed .sensorFault else c.health
  else match c.health with
    | .acquiring => if count = 3 then .live else .acquiring
    | .stale => .live
    | .failed .silent | .failed .sensorFault => .acquiring
    | .live | .failed .miswired | .failed .lineBreak | .off => c.health

/-- The sequence numbers missed before an accepted frame: none without a reference, and none for the good sample that ends
FAILED(SILENT) or FAILED(SENSOR_FAULT), which clears the reference (R6, R12, R17). -/
def missedBefore (c : Channel) (seq : Nat) (fault : Bool) : Nat :=
  if (c.health = .failed .silent ∨ c.health = .failed .sensorFault) ∧ fault = false then 0
  else match c.lastFrame with
    | none => 0
    | some l => (seq + 31 - l.seq) % 16

/-- The context of an enabled channel once a frame is accepted with a sequence number and its sample (R4 to R8, R11 to R17). The
sample enters the FIFO, or overwrites its newest entry, and as the head adds its flags to the accumulated set; the reference, the
runs and the counts are those of the frame. In LIVE a sample restarts the stale timer, and in STALE a FAULT one the silent timer; a
change of health sets the timers of the new one. -/
def accepted (c : Channel) (seq : Nat) (x : Sample) : Channel :=
  let fault := x.flags.fault
  let missed := missedBefore c seq fault
  let again := (c.health = .failed .silent ∨ c.health = .failed .sensorFault) ∧ fault = false
  let count := match if again then none else c.lastFrame with
    | none => 1
    | some l => if c.acqCount = 0 ∨ c.settings.window < (x.stamp - l.stamp).toNat then 1 else c.acqCount + 1
  let health := healthAfterSample c fault x.stamp
  let fails := health = .failed .sensorFault ∧ c.health ≠ .failed .sensorFault
  { c with
    health := health
    assembler := .hunting
    lastFrame := some { seq := seq, stamp := x.stamp }
    acqCount := if c.health = .acquiring ∨ again then (if fault = true ∨ count = 3 then 0 else count) else c.acqCount
    staleTimer := if health = .live then some x.stamp else if fails ∨ again then none else c.staleTimer
    silentTimer :=
      if fails ∨ again ∨ (c.health ≠ .live ∧ health = .live) then none
      else if c.health = .stale then some x.stamp
      else c.silentTimer
    rejectRun := 0
    faultRun := if fault then min 3 (c.faultRun + 1) else 0
    fifo := if c.fifo.length < 4 then c.fifo ++ [x] else c.fifo.dropLast ++ [x]
    overrunLatch := c.overrunLatch || decide (4 ≤ c.fifo.length)
    accumulated := if c.fifo = [] then c.accumulated.union x.flags else c.accumulated
    stats := { c.stats with
      framesSeen := min 65535 (c.stats.framesSeen + 1)
      accepted := min 65535 (c.stats.accepted + 1)
      missed := min 65535 (c.stats.missed + missed)
      overrun := if c.fifo.length < 4 then c.stats.overrun else min 65535 (c.stats.overrun + 1) } }

/-! ## The start of a computation (R9, R11, R41, R42, R47) -/

/-- The sample a computation takes from a FIFO: the newest without FAULT (R9, R41). -/
def newestGood (fifo : List Sample) : Option Sample := fifo.reverse.find? fun x => !x.flags.fault

/-- The A and B values a computation uses for a channel: its newest sample without FAULT, or the held values where there is none
(R41); for channels 0 to 3 the rate is 0 while FAILED or OFF, and for the CHASSIS channel the held values stand while STALE and both
values are 0 while FAILED or OFF (R42). -/
def valueUsed (k : Fin 5) (c : Channel) (held : HeldValue) : HeldValue :=
  let taken : HeldValue := match newestGood c.fifo with
    | some x => { a := x.a, b := x.b }
    | none => held
  match c.health with
  | .acquiring | .live => taken
  | .stale => if k = 4 then held else taken
  | .failed _ | .off => if k = 4 then { a := 0, b := 0 } else { a := taken.a, b := 0 }

/-- The Pose Solver once a computation has begun on the channel contexts it found: the values used are the held values, and the
computation in flight holds the geometry and the healths as they stood, and whether a used sample carried DEGRADED (R41, R42,
R47). -/
def begun (scu : Vector Channel 6) (ps : Ps) : Ps :=
  { ps with
    held := #v[valueUsed 0 scu[0] ps.held[0], valueUsed 1 scu[1] ps.held[1], valueUsed 2 scu[2] ps.held[2],
      valueUsed 3 scu[3] ps.held[3], valueUsed 4 scu[4] ps.held[4]]
    inFlight := some {
      geometry := ps.geometry
      health := #v[scu[0].health, scu[1].health, scu[2].health, scu[3].health, scu[4].health]
      usedDegraded := (List.finRange 5).any fun k =>
        (k != 4 || scu[4].health == .live || scu[4].health == .acquiring) &&
          (newestGood scu[k.val].fifo).any fun x => x.flags.degraded } }

/-- An accumulated set once samples have become the head of their FIFO, each adding its flags (R11). -/
def withFlagsOf (xs : List Sample) (a : SampleFlags) : SampleFlags :=
  { degraded := a.degraded || xs.any fun x => x.flags.degraded
    fault := a.fault || xs.any fun x => x.flags.fault
    gap := a.gap || xs.any fun x => x.flags.gap
    clamped := a.clamped || xs.any fun x => x.flags.clamped }

/-- A channel context whose FIFO the start of a computation has emptied: each sample behind the head has become the head in its
turn and added its flags to the accumulated set (R11), and each sample without FAULT but the newest is counted under SUPERSEDED
(R9). (That the newest is not counted where the CHASSIS channel's health leaves its values unused is assumption log 33.) -/
def emptied (c : Channel) : Channel :=
  let good := c.fifo.countP fun x => !x.flags.fault
  { c with
    fifo := []
    accumulated := withFlagsOf c.fifo.tail c.accumulated
    stats := { c.stats with superseded := min 65535 (c.stats.superseded + (good - 1)) } }

/-- The channel contexts once a computation has begun: those of channels 0 to 4 emptied (R9, R41). -/
def fifosEmptied (scu : Vector Channel 6) : Vector Channel 6 :=
  #v[emptied scu[0], emptied scu[1], emptied scu[2], emptied scu[3], emptied scu[4], scu[5]]

/-! ## Zones (R65) -/

/-- A zone after a TRAVEL event: a SITE sector zone is UNANCHORED with its state as the prior state, one already UNANCHORED
stays, and so does every other zone (R65). -/
def travelledZone (z : Zone) : Zone :=
  if z.record.anchor = .site ∧ z.record.extent ≠ 0 then
    { z with state := match z.state with
      | .dormant => .unanchored .dormant
      | .armed => .unanchored .armed
      | .suspended => .unanchored .suspended
      | .unanchored p => .unanchored p }
  else z

/-! ## Loads and passes (R121 to R127) -/

/-- A load as a closing leaves it: its closing state, its stamp, and its fuel per tonne fixed (R126, R127). -/
def closedAs (how : LoadState) (now : Stamp) (l : Load) : Load :=
  { l with state := how, closed := some now
           fuelPerTonne := if l.total = 0 then none else some (l.fuel.toNat * 1000 / l.total) }

/-- The Load Recorder once its open load, if any, is closed and stands first of at most sixteen in the history (R127). -/
def withLoadClosed (how : LoadState) (now : Stamp) (lr : Lr) : Lr :=
  match lr.openLoad with
  | none => lr
  | some l => { lr with openLoad := none, history := (closedAs how now l :: lr.history).take 16 }

/-- The record of a load opened for a pass of a bay (R121). -/
def openedLoad (bay : Fin 16) (now : Stamp) (lr : Lr) : Load :=
  { number := lr.nextNumber, cls := lr.nextClass, target := lr.classes[lr.nextClass].target
    tolerance := lr.classes[lr.nextClass].tolerance, bay := bay, state := .isOpen, passes := [], total := 0
    incompleteWeight := false, atTarget := false, overloaded := false, fuel := 0, fuelPerTonne := none, opened := now
    closed := none }

/-- The Load Recorder with a load of the pass's bay OPEN: the open load if it is of that bay, else a new one, a load of another
bay being closed as CLOSED_NEW_BAY (R121, R122). -/
def withBayOpen (bay : Fin 16) (now : Stamp) (lr : Lr) : Lr :=
  if (lr.openLoad.map Load.bay) = some bay then lr
  else { withLoadClosed .closedNewBay now lr with
    openLoad := some (openedLoad bay now lr)
    nextNumber := if lr.nextNumber = 65535 then 1 else lr.nextNumber + 1 }

/-- A load with a pass appended, its total, and its three flags (R122, R123). -/
def withPass (p : Pass) (bay : Fin 16) (l : Load) : Load :=
  let total := l.total + p.payload.getD 0
  { l with
    passes := l.passes ++ [{ position := l.passes.length + 1, payload := p.payload, quality := p.quality, band := p.band
                             dumpAngle := p.dumpAngle, stamp := p.stamp, bay := bay }]
    total := total
    incompleteWeight := l.incompleteWeight || decide (p.quality = .noWeight)
    atTarget := l.atTarget || decide (l.target - l.tolerance ≤ total)
    overloaded := l.overloaded || decide (l.target + l.tolerance < total) }

/-- The Load Recorder once a pass is counted and, unless it is a CAST, filed; a load that then holds twelve passes is closed as
CLOSED_FULL (R122 to R125). -/
def withPassFiled (p : Pass) (now : Stamp) (lr : Lr) : Lr :=
  let counted : Lr := { lr with
    passTotal := lr.passTotal + 1
    payloadTotal := lr.payloadTotal + BitVec.ofNat 48 (p.payload.getD 0) }
  match p.bay with
  | none => counted
  | some bay =>
    let ready := withBayOpen bay now counted
    let filed : Lr := { ready with openLoad := ready.openLoad.map (withPass p bay) }
    if (filed.openLoad.map fun l => l.passes.length) = some 12 then withLoadClosed .closedFull now filed else filed

/-- The LOAD EVENT CLOSED of the open load, if any, closed now (R127). -/
def closedNotices (how : LoadState) (now : Stamp) (lr : Lr) : List Notice :=
  match lr.openLoad with
  | none => []
  | some l => [.loadEvent .closed (closedAs how now l) now]

/-- The load that a pass of a bay is filed in, as it stands before, with the notices that make it ready: none where it is the open
load; else OPENED, behind the CLOSED of an open load of another bay (R121, R122). -/
def readiedLoad (bay : Fin 16) (now : Stamp) (lr : Lr) : List Notice × Load :=
  let opened : List Notice := [.loadEvent .opened (openedLoad bay now lr) now]
  match lr.openLoad with
  | none => (opened, openedLoad bay now lr)
  | some l => if l.bay = bay then ([], l) else (closedNotices .closedNewBay now lr ++ opened, openedLoad bay now lr)

/-- The notices of a pass, in the order they are handed over: of a CAST, PASS RECORDED with the load number, position and total
absent (R124); of a pass of a bay, LOAD EVENT CLOSED for a load of another bay and OPENED for the new one (R121, R122), PASS
RECORDED with the load it is filed in, and then what the four tests of R123 find: AT_TARGET and OVERLOADED at the pass that sets
the flag, LAST_PASS with the remaining amount and the truncated mean of the payloads present, and CLOSED at the twelfth pass.
Each LOAD EVENT carries the load as it then stands. -/
def passNotices (p : Pass) (now : Stamp) (lr : Lr) : List Notice :=
  match p.bay with
  | none => [.passRecorded (lr.passTotal + 1) none p]
  | some bay =>
    let old := (readiedLoad bay now lr).2
    let l := withPass p bay old
    let weighed := l.passes.filterMap PassRecord.payload
    let mean := weighed.sum / weighed.length
    (readiedLoad bay now lr).1 ++ [.passRecorded (lr.passTotal + 1) (some (l.number, l.passes.length, l.total)) p] ++
      (if l.atTarget = true ∧ old.atTarget = false then [.loadEvent .atTarget { l with overloaded := old.overloaded } now] else []) ++
      (if l.overloaded = true ∧ old.overloaded = false then [.loadEvent .overloaded l now] else []) ++
      (if l.total < l.target - l.tolerance ∧ l.passes.length < 12 ∧ weighed ≠ [] ∧ l.target - l.total ≤ mean then
        [.loadEvent (.lastPass (l.target - l.total) mean) l now] else []) ++
      if l.passes.length = 12 then [.loadEvent .closed (closedAs .closedFull now l) now] else []

/-! ## Weighing (R104, R105) -/

/-- The weighed result of a window: the payload is the lifted force times the band's gain, over 65 536 with a half added and
floored; the quality is the first of the six tests that names one (R104, R105). -/
def weighedBy (fempty : Vector Int 8) (gain : Vector Nat 8) (w : Window) : Weighed :=
  let mean := w.sum.tdiv w.count
  let lifted := mean - fempty[w.band]
  let kg := (lifted * gain[w.band] + 32768).fdiv 65536
  let spread := w.most.getD 0 - w.least.getD 0
  if w.count < 4 then
    { band := w.band, count := w.count, mean := none, spread := none, lifted := none, payload := none, quality := .noWeight }
  else
    { band := w.band, count := w.count, mean := some mean, spread := some spread, lifted := some lifted
      payload := some (if kg < 0 then 0 else if 65000 < kg then 65000 else kg.toNat)
      quality :=
        if kg < 0 then .light
        else if (w.steadiness : Int) < spread then .unsteady
        else if w.count < w.length then .short
        else .good }

/-! ## Pressure samples and calibration runs (R96, R103, R111, R117) -/

/-- The Cycle Tracker once a net force is taken, its calibration step READY (R96, R103, R111): it is the latest force; an OPEN
window adds it, and closes with its weighed result when its count reaches its length; and a closed window of the active run
begins a step. -/
def forceTaken (f : Int) (ct : Ct) : Ct :=
  match ct.window with
  | none => { ct with force := some f }
  | some w =>
    let added : Window := { w with
      sum := w.sum + f
      count := w.count + 1
      least := some (min (w.least.getD f) f)
      most := some (max (w.most.getD f) f) }
    let closed : Window := { added with result := some (weighedBy ct.fempty ct.gain added) }
    if w.result.isSome then { ct with force := some f }
    else if w.count + 1 ≠ w.length then { ct with force := some f, window := some added }
    else { ct with
      force := some f, window := some closed, step := if ct.run.isSome ∧ w.forRun = true then some closed else ct.step }

/-- The Cycle Tracker once it has taken the samples that wait, oldest first, while its calibration step is READY, and the
samples that still wait; a FAULT sample is passed over (R10, R96, R111). -/
def pressureTaken (g : Geometry) (ct : Ct) : List Sample → Ct × List Sample
  | [] => (ct, [])
  | x :: rest =>
    if ct.step.isSome then (ct, x :: rest)
    else pressureTaken g (if x.flags.fault then ct else forceTaken (x.a * g.ah - x.b * g.ar) ct) rest

/-- A channel context of whose FIFO only the samples `left` still wait: each one that became the head as those before it were taken
has added its flags to the accumulated set (R10, R11). -/
def drained (left : List Sample) (c : Channel) : Channel :=
  { c with
    fifo := left
    accumulated := withFlagsOf (c.fifo.take (c.fifo.length - left.length + 1)).tail c.accumulated }

/-- The state once the Cycle Tracker, standing at `ct`, has taken the waiting samples of the pressure channel (R10, R96). -/
def withPressureTaken (ct : Ct) (s : State) : State :=
  let after := pressureTaken s.ps.geometry ct s.scu[(5 : Fin 6)].fifo
  { s with scu := s.scu.set 5 (drained after.2 s.scu[(5 : Fin 6)]), ct := after.1 }

/-- The Cycle Tracker at the end of a run, before it takes the samples that wait: the run record is removed, the waiting list is
empty, the step is READY, and a window opened during the run counts for none (R117). -/
def endedRun (ct : Ct) : Ct :=
  { ct with run := none, step := none, waiting := [], window := ct.window.map fun w => { w with forRun := false } }

/-- The state once the run `r` has ended, the Cycle Tracker standing at `ct`: CALIBRATION RESULT is handed over with the kind, the
outcome, the soft error count and the part time, and the samples that wait are taken (R111, R117). -/
def withRunEnded (r : Run) (outcome : RunOutcome) (ct : Ct) (s : State) : State :=
  { withPressureTaken (endedRun ct) s with
    lc := (queueNotice (.calibrationResult (RunKind.isGain r.kind) outcome r.soft s.lc.time) s).lc }

/-! ## Service increments (R150 to R152) -/

/-- An entry after increments of which `amount` is its basis's: nothing for 0 or a suspended item; else the count, saturating,
the state it gives, and attention when that ranks above the state before (R152). -/
def incremented (amount : Nat) (e : ServiceEntry) : ServiceEntry :=
  if amount = 0 ∨ e.item.suspended = true then e
  else
    let count := min 4294967295 (e.item.consumed + amount)
    let d := e.item.definition
    let new : ItemState :=
      if count < d.warnPoint then .ok else if count < d.duePoint then .dueSoon else if count < d.overduePoint then .due else .overdue
    { item := { e.item with consumed := count, attention := e.item.attention || decide (e.state.code < new.code) }, state := new }

/-! ## Notices handed over (R174, R175) -/

/-- The notice is in the part: it waits in the queue or is being sent. -/
def noticeHanded (n : Notice) (lc : Lc) : Prop := n ∈ lc.notices ∨ lc.tx = .sending (.notice n)

/-- The notice is in the part, given room for all that the command hands over: where the queue holds 32 when one comes, which is
then lost (R174), at least 31 still wait at the end, since the transmitter takes at most one meanwhile. -/
def handedWithRoom (n : Notice) (lc : Lc) : Prop := lc.notices.length ≤ 30 → noticeHanded n lc

/-- The notices in the part, the one being sent first and the newest last. -/
def noticesIn (lc : Lc) : List Notice :=
  match lc.tx with
  | .sending (.notice n) => n :: lc.notices
  | .sending (.reply _) | .free => lc.notices

/-- The number of waiting notices of a kind. -/
def noticesOfKind (kind : Nat) (lc : Lc) : Nat := lc.notices.countP fun n => noticeKind n == kind

/-- No notice of a kind is handed over between two states of the Link Controller: none that was not in the part is there now, and no
more of them wait. -/
def NoneHanded (kind : Nat) (a b : Lc) : Prop :=
  (∀ n, noticeKind n = kind → noticeHanded n b → noticeHanded n a) ∧ noticesOfKind kind b ≤ noticesOfKind kind a

/-- The Link Controller once the advice `a` that stands is settled: nothing is queued when it does not differ from the last one, and
one ENGINE ADVICE with its four fields and the part time when it does (R145). -/
def lcWithAdvice (a : Advice) (s : State) : Lc :=
  if a = s.em.lastAdvice then s.lc else (queueNotice (.engineAdvice a s.lc.time) s).lc

/-- A last advice that differs from the one before the command has been handed over as ENGINE ADVICE, given room (R145). -/
def AdviceHanded (s t : State) : Prop :=
  t.em.lastAdvice ≠ s.em.lastAdvice → handedWithRoom (.engineAdvice t.em.lastAdvice s.lc.time) t.lc

/-- Every service item that advanced between two states has its SERVICE ATTENTION notice handed over, given room for those of
all 24 entries and an engine advice: the item as it then stands, the state before and the state after (R152, R153). -/
def AttentionNoticed (s t : State) : Prop :=
  s.lc.notices.length ≤ 6 → ∀ i : Fin 24, ∀ e ∈ s.st.entries[i], ∀ e' ∈ t.st.entries[i], e.state.code < e'.state.code →
    noticeHanded (.serviceAttention i e.state e'.state e'.item s.lc.time) t.lc

/-- What a change of health of a channel leaves and delivers (R18), `changed` being the context that the change itself makes.
The CHANNEL HEALTH notice, given room for it and for the notices of the evaluation it may call for. To the Pose Solver, of
channels 0 to 4, a computation pending, or begun where none is in flight, on the contexts with the new health, whose FIFOs it
empties (R9, R40 to R42). To the Slew Limiter, of channel 3, the copy, the previous slew angle cleared when it is FAILED or OFF
(R92). To the Cycle Tracker, of channel 5, the copy, and no latest force when it is FAILED or OFF (R96); and where LIVE is lost
an active run ends FAILED as HARD with cause PRESSURE, and the samples that wait are taken (R111, R115, R117), before the force
is made absent or after (assumption log 22). A block that the channel does not feed is as it was. (Which samples count under
SUPERSEDED: assumption log 33.) -/
def HealthDelivered (ch : Fin 6) (old new : Health) (changed : Channel) (s t : State) : Prop :=
  let after := s.scu.set ch changed
  (s.lc.notices.length ≤ 14 → noticeHanded (.channelHealth ch old new s.lc.time) t.lc) ∧
    t.ps = (if ch = 5 then s.ps
      else if s.ps.inFlight.isSome then { s.ps with pendingStart := true } else begun after s.ps) ∧
    (if ch = 3 then
        t.sl.health = new ∧ t.sl.prevAngle = (if new.isDown then none else s.sl.prevAngle) ∧ t.sl.pose = s.sl.pose ∧
          t.sl.settings = s.sl.settings ∧ t.sl.travel = s.sl.travel ∧ t.sl.turns = s.sl.turns ∧
          t.mlu.inputs = s.mlu.inputs ∧ t.mlu.authority = s.mlu.authority ∧
          ∀ k : Fin 16, t.zt.zones[k].held = s.zt.zones[k].held
      else t.sl = s.sl ∧ t.mlu = s.mlu ∧ t.zt = s.zt) ∧
    if ch = 5 then
      let ends := s.ct.health = .live ∧ new ≠ .live ∧ s.ct.run.isSome
      let copied : Ct := { s.ct with health := new }
      let cleared (ct : Ct) : Ct := { ct with force := if new.isDown then none else ct.force }
      let taken (ct : Ct) : Ct := (withPressureTaken (endedRun ct) { s with scu := after }).ct
      (¬ends → t.scu = after ∧ t.ct = cleared copied) ∧
        (ends → t.scu = s.scu.set 5 (drained [] changed) ∧ (t.ct = taken (cleared copied) ∨ t.ct = cleared (taken copied)) ∧
          (s.lc.notices.length ≤ 14 → ∀ r ∈ s.ct.run,
            noticeHanded (.calibrationResult (RunKind.isGain r.kind) (.failed .hardPressure) r.soft s.lc.time) t.lc))
    else t.ct = s.ct ∧ t.scu = if s.ps.inFlight.isSome then after else fifosEmptied after

/-! ## An evaluation of the Slew Limiter (R78 to R90) -/

/-- The slew angle is valid (R78). -/
def SlewValid (sl : Sl) (p : Pose) : Prop := sl.health = .live ∧ p.slewValid = true

/-- The lead angle (R79). -/
def leadOf (sl : Sl) (p : Pose) : Nat :=
  min 32768 ((max (-16384) (min 16384 p.slewRate)).natAbs ^ 2 / (2 * sl.settings.deceleration))

/-- A zone that takes part applies (R80). -/
def ZoneApplies (z : ZoneRecord) (p : Pose) : Prop :=
  match z.kind with
  | .keepIn => True
  | .keepOut => p.quality = .invalid ∨
      (z.inReachBand p.reach = true ∧ z.hmin - z.heightMargin ≤ p.height ∧ p.height ≤ z.hmax + z.heightMargin)
  | .ceiling => p.quality = .invalid ∨ (z.inReachBand p.reach = true ∧ z.hmax - z.heightMargin ≤ p.height)
  | .truckBay => False

/-- The slew tests of R81 and R83 find a cut of a zone that applies in one direction, with `reach` in the place of Lz. The
distances are the differences mod 65 536 from and to the sector's start s and its end angle s + e − 1. -/
def CutFound (z : ZoneRecord) (p : Pose) (reach : Nat) (d : Side) : Prop :=
  let a : Int := p.slewAngle.toNat
  let s : Int := z.start.toNat
  let last : Int := s + z.extent - 1
  let inside := (a - s) % 65536 < z.extent
  let towards := match d with
    | .left => 0 ≤ p.slewRate
    | .right => p.slewRate ≤ 0
  match z.kind with
  | .keepOut | .ceiling =>
    z.extent = 0 ∨
      (inside ∧ match d with
        | .left => (a - s) % 65536 ≤ (last - a) % 65536
        | .right => (last - a) % 65536 < (a - s) % 65536) ∨
      (¬inside ∧ towards ∧ match d with
        | .left => (s - a) % 65536 ≤ reach
        | .right => (a - last) % 65536 ≤ reach)
  | .keepIn =>
    z.extent ≠ 0 ∧
      ((inside ∧ towards ∧ match d with
        | .left => (last - a) % 65536 ≤ reach
        | .right => (a - s) % 65536 ≤ reach) ∨
      (¬inside ∧ match d with
        | .left => (a - last) % 65536 ≤ (s - a) % 65536
        | .right => (s - a) % 65536 < (a - last) % 65536))
  | .truckBay => False

/-- A zone that takes part is found to call for a slew cut, its angular margin and `reach` making the distance (R80 to R83);
none is sought while the slew angle is not valid (R86). -/
def CutCalled (sl : Sl) (p : Pose) (z : ZoneRecord) (reach : Nat) (d : Side) : Prop :=
  SlewValid sl p ∧ ZoneApplies z p ∧ CutFound z p (reach + z.angularMargin) d

/-- The boom raise cut of a zone that takes part (R82). -/
def BoomCutCalled (sl : Sl) (p : Pose) (z : ZoneRecord) : Prop :=
  z.kind = .ceiling ∧ ZoneApplies z p ∧ (z.inSector p.slewAngle = true ∨ ¬SlewValid sl p ∨ p.quality = .invalid)

/-- A zone that takes part is intruded (R90). -/
def Intruded (sl : Sl) (p : Pose) (z : ZoneRecord) : Prop :=
  SlewValid sl p ∧ p.quality ≠ .invalid ∧
    match z.kind with
    | .keepOut | .ceiling => ZoneApplies z p ∧ z.inSector p.slewAngle = true
    | .keepIn => z.extent ≠ 0 ∧ z.inSector p.slewAngle = false
    | .truckBay => False

/-- The held mark of one direction. -/
def heldMark (m : ZoneMarks) : Side → Bool
  | .left => m.leftHeld
  | .right => m.rightHeld

/-- The number of cut lines newly in the cut set with a zone among their causes (R70, R89). -/
def linesCut (k : Fin 16) (s t : State) : Nat :=
  (if t.sl.cutSet.left = true ∧ s.sl.cutSet.left = false ∧ k ∈ t.sl.causes.left.zones then 1 else 0) +
    (if t.sl.cutSet.right = true ∧ s.sl.cutSet.right = false ∧ k ∈ t.sl.causes.right.zones then 1 else 0) +
    (if t.sl.cutSet.boomUp = true ∧ s.sl.cutSet.boomUp = false ∧ k ∈ t.sl.causes.boomUp.zones then 1 else 0)

/-- The two statistics of an entry after a command with at most one evaluation, from the values they stood at for it: INTRUSIONS
counts an intrusion that begins, where none was `active`, and CUTS each line newly cut with the zone among its causes; both
saturate, and nothing else changes them (R70, R89, R90). -/
def ZoneCounted (k : Fin 16) (active : Bool) (intrusions cuts : Nat) (s t : State) : Prop :=
  t.zt.zones[k].intrusions =
      (if t.sl.marks[k].intrusion = true ∧ active = false then min 65535 (intrusions + 1) else intrusions) ∧
    t.zt.zones[k].cuts = (if linesCut k s t = 0 then cuts else min 65535 (cuts + linesCut k s t))

/-- An entry that stays the zone it was keeps its two statistics, but for what the evaluation of a command adds (R70). -/
def StatisticsKept (k : Fin 16) (s t : State) : Prop :=
  ZoneCounted k s.sl.marks[k].intrusion s.zt.zones[k].intrusions s.zt.zones[k].cuts s t

/-- The Slew Limiter is HELD: the slew angle is not valid and a KEEP_OUT, KEEP_IN or CEILING zone is ARMED (R86). -/
def SlewHeld (s : State) (p : Pose) : Prop := ¬SlewValid s.sl p ∧ ∃ k : Fin 16, s.zt.zones[k].takingPart.isSome

/-- The Slew Limiter stands as an evaluation on the pose in use leaves it, given the held marks of the zones (R82, R85 to R87,
R90): the caution and intrusion marks, no mark for a zone that takes no part; each line in the cut set exactly when it has a
cause, and its causes; the slew state, the first of the table that holds, and its alarm request; and the cut lines (R30). -/
def SlewSettled (s : State) (p : Pose) : Prop :=
  let held := SlewHeld s p
  let lead := leadOf s.sl p
  (∀ k : Fin 16, s.zt.zones[k].takingPart = none → s.sl.marks[k] = {}) ∧
    (∀ k : Fin 16, ∀ z ∈ s.zt.zones[k].takingPart,
      (s.sl.marks[k].caution = true ↔ ∃ d, CutCalled s.sl p z (2 * lead) d ∧ heldMark s.sl.marks[k] d = false) ∧
      (s.sl.marks[k].intrusion = true ↔ Intruded s.sl p z)) ∧
    (∀ k : Fin 16, (k ∈ s.sl.causes.left.zones ↔ s.sl.marks[k].leftHeld = true) ∧
      (k ∈ s.sl.causes.right.zones ↔ s.sl.marks[k].rightHeld = true) ∧
      (k ∈ s.sl.causes.boomUp.zones ↔ ∃ z ∈ s.zt.zones[k].takingPart, BoomCutCalled s.sl p z)) ∧
    (s.sl.causes.left.held = true ↔ held) ∧ (s.sl.causes.right.held = true ↔ held) ∧ s.sl.causes.boomUp.held = false ∧
    (s.sl.cutSet.left = true ↔ held ∨ s.sl.causes.left.zones ≠ []) ∧
    (s.sl.cutSet.right = true ↔ held ∨ s.sl.causes.right.zones ≠ []) ∧
    (s.sl.cutSet.boomUp = true ↔ s.sl.causes.boomUp.zones ≠ []) ∧
    (s.sl.state = .held ↔ held) ∧
    (s.sl.state = .limiting ↔
      ¬held ∧ (s.sl.cutSet.left = true ∨ s.sl.cutSet.right = true ∨ s.sl.cutSet.boomUp = true)) ∧
    (s.sl.state = .caution ↔
      ¬held ∧ s.sl.cutSet = { left := false, right := false, boomUp := false } ∧ ∃ k : Fin 16, s.sl.marks[k].caution = true) ∧
    s.mlu.slots.sl = (match s.sl.state with
      | .held | .caution => .chirp
      | .limiting => .steady
      | .free => .off) ∧
    s.mlu.cutLines = s.sl.cutSet ∧ s.mlu.cutCopy = s.sl.cutSet

/-! ## The power cap (R154) -/

/-- The lowest cap among the OVERDUE DERATE items, 100 when there is none (R154), said item by item. -/
def IsLowestCap (entries : Vector (Option ServiceEntry) 24) (cap : Nat) : Prop :=
  cap ≤ 100 ∧
    (∀ i : Fin 24, ∀ e ∈ entries[i], e.state = .overdue → e.item.definition.severity = .derate →
      cap ≤ e.item.definition.cap) ∧
    (cap = 100 ∨ ∃ i : Fin 24, ∃ e ∈ entries[i], e.state = .overdue ∧ e.item.definition.severity = .derate ∧
      e.item.definition.cap = cap)

/-! ## The resets (R23, R25, R28, R31, R34, R54, R55, R73, R94, R118, R131, R147, R160, R177) -/

/-- Every block is as a reset leaves it, given its retained content: the channels ACQUIRING or OFF; the inputs INACTIVE, the
authority OPERATOR, all cut lines asserted, the alarm CHIRP with a zone UNANCHORED; the reset computation in flight; no zone
statistic; no pose in use, phase UNKNOWN, no run, window or load; each service item in the state its mark and count give, and the
cap the lowest; the mode STOPPED with the advice of the cap; the inbox, the reply slot and the link counts empty, and part time 0.
(The moment of the first reading, 2 ms on: assumption log 3. The 0 of the cadence's start while no pattern is driven, and of the
last character's time: log 18. The marks of the model: logs 10 and 27.) -/
def BlocksReset (t : State) : Prop :=
  let health (ch : Fin 6) : Health := if t.scu[ch].settings.enable then .acquiring else .off
  (∀ ch : Fin 6, t.scu[ch] = { settings := t.scu[ch].settings, health := health ch }) ∧
    (let input : Debouncer := { level := false, last := none }
     let alarm : AlarmPattern := if t.zt.unanchored = 0 then .off else .chirp
     t.mlu = {
      inputs := { pilotEnable := input, seat := input, joyLeft := input, joyRight := input, travel := input
                  supervisorKey := input, servicePlug := input }
      nextReading := 2
      authority := .operator
      cutCopy := { left := true, right := true, boomUp := true }
      cutLines := { left := true, right := true, boomUp := true }
      slots := { sl := .off, ps := .off, zt := alarm }
      driven := alarm
      sounder := decide (0 < t.zt.unanchored)
      periodStart := 0 }) ∧
    t.ps = {
      geometry := t.ps.geometry
      held := Vector.replicate 5 { a := 0, b := 0 }
      inFlight := some { geometry := t.ps.geometry, health := #v[health 0, health 1, health 2, health 3, health 4]
                         usedDegraded := false }
      pendingStart := false
      pose := { reach := 0, height := 0, slewAngle := 0, slewRate := 0, boomAngle := 0, stickAngle := 0, bucketAngle := 0
                boomRate := 0, stickRate := 0, bucketRate := 0, curl := 0, tilt := 0, gradeError := none
                quality := .invalid, slewValid := false, tiltClamped := false, stamp := 0, count := 0 }
      grade := { on := false, depth := 0, slope := 0, refReach := 0, tolerance := 0 }
      overdig := false
      tipInterval := 0
      tipLast := none } ∧
    (∀ k : Fin 16, t.zt.zones[k].intrusions = 0 ∧ t.zt.zones[k].cuts = 0) ∧ t.zt.unanchored = unanchoredCount t.zt.zones ∧
    t.sl = {
      settings := t.sl.settings, pose := none, health := health 3, marks := Vector.replicate 16 {}, state := .held
      cutSet := { left := true, right := true, boomUp := true }, causes := {}, prevAngle := none, travel := 0
      turns := t.sl.turns } ∧
    t.ct = {
      settings := t.ct.settings, fempty := t.ct.fempty, gain := t.ct.gain, pose := none, health := health 5, force := none
      phase := .unknown, window := none, run := none, step := none, waiting := [] } ∧
    t.lr = {
      classes := t.lr.classes, nextClass := 0, nextNumber := 1, openLoad := none, history := []
      passTotal := t.lr.passTotal, payloadTotal := t.lr.payloadTotal, travelTaken := false } ∧
    (∀ i : Fin 24, ∀ e ∈ t.st.entries[i], e.state =
      if e.item.suspended then .suspended else stateByCount e.item.definition e.item.consumed) ∧
    IsLowestCap t.st.entries t.st.reportedCap ∧
    t.em = { t.em with
      copy := none, mode := .stopped, idleTimer := none, shutdownTimer := .stopped, deferred := false, cancel := false
      failed := false, wait := .none, fuelAcc := 0, engineMs := 0, weightedAcc := 0, bucketMs := Vector.replicate 8 0
      gaps := 0, cap := t.st.reportedCap
      lastAdvice := {
        mode := .stopped, rpm := 0, cap := t.st.reportedCap
        reasons := { derate := decide (t.st.reportedCap < 100), ecoPhase := false, idleTimer := false, shutdown := false
                     deferred := false, cancel := false, retainedFailed := false } } } ∧
    t.lc = {
      assembler := .hunting, lastChar := 0, inbox := [], interpreter := .idle, replySlot := none, notices := t.lc.notices
      early := [], tx := t.lc.tx, stats := {}, noticeLoss := 0, rate := t.lc.rate, time := 0 } ∧
    t.powered = true

/-! ## Invariants of the blocks -/

/-- A channel context is consistent: it is OFF exactly while disabled (R12, R20, R23); its FIFO holds at most four samples and
none while OFF (R8, R12); the identity reject run stays within 8, and below it while ACQUIRING, LIVE or STALE, and the fault run
within 3 (R16, R17); the stale timer runs exactly while LIVE and the silent timer exactly while STALE (R14); and each of the eleven
statistics stays within 65 535 (R19). -/
def ChannelConsistent (c : Channel) : Prop :=
  (c.settings.enable = false ↔ c.health = .off) ∧ c.fifo.length ≤ 4 ∧ (c.health = .off → c.fifo = []) ∧
    c.rejectRun ≤ 8 ∧ (c.health = .acquiring ∨ c.health = .live ∨ c.health = .stale → c.rejectRun < 8) ∧
    c.faultRun ≤ 3 ∧ (c.staleTimer.isSome ↔ c.health = .live) ∧
    (c.silentTimer.isSome ↔ c.health = .stale) ∧
    ∀ n ∈ [c.stats.framesSeen, c.stats.accepted, c.stats.framing, c.stats.check, c.stats.typeReject, c.stats.foreign,
      c.stats.chatter, c.stats.overrun, c.stats.missed, c.stats.superseded, c.stats.breaks], n ≤ 65535

/-- Every channel context is consistent. -/
def ChannelsConsistent (s : State) : Prop := ∀ ch : Fin 6, ChannelConsistent s.scu[ch]

/-- The authority level is the one the two keyed inputs give (R28), and no zone is SUSPENDED above it (R64). -/
def SuspensionsAuthorised (s : State) : Prop :=
  s.mlu.authority = authorityOf s.mlu.inputs ∧
    ∀ k : Fin 16, ∀ z ∈ s.zt.zones[k].held, z.state = .suspended → z.record.suspendLevel.rank ≤ s.mlu.authority.rank

/-- The driven pattern is the highest-ranked of the three slots (R32), silent when it is OFF and sounding when it is
STEADY (R33). -/
def AlarmFollowsSlots (s : State) : Prop :=
  s.mlu.driven = s.mlu.slots.highest ∧ (s.mlu.driven = .off → s.mlu.sounder = false) ∧
    (s.mlu.driven = .steady → s.mlu.sounder = true)

/-- The unanchored count is the number of UNANCHORED entries, and the Zone Table requests CHIRP exactly while it is above
0 (R69). -/
def UnanchoredCounted (s : State) : Prop :=
  s.zt.unanchored = s.zt.zones.toList.countP ZoneEntry.isUnanchored ∧
    s.mlu.slots.zt = if s.zt.unanchored = 0 then .off else .chirp

/-- The cut lines stand as the zones call for. Before the first evaluation all are asserted, with no causes and no marks, the
slew state is HELD and no alarm requested (R31, R94). After it the Slew Limiter is settled (R87): a slew cut that a zone calls
for is held, and none is held that the zone would not call for with the release hysteresis added (R81, R83, R84, R86). Always
the slew channel health copy is channel 3's health (R18, R78). -/
def CutsInForce (s : State) : Prop :=
  s.sl.health = s.scu[(3 : Fin 6)].health ∧ match s.sl.pose with
  | none =>
    s.sl.cutSet = { left := true, right := true, boomUp := true } ∧ s.sl.causes = {} ∧ s.sl.state = .held ∧
      (∀ k : Fin 16, s.sl.marks[k] = {}) ∧ s.mlu.slots.sl = .off ∧ s.mlu.cutLines = s.sl.cutSet ∧ s.mlu.cutCopy = s.sl.cutSet
  | some p =>
    SlewSettled s p ∧
      ∀ k : Fin 16, ∀ z ∈ s.zt.zones[k].takingPart, ∀ d : Side,
        (CutCalled s.sl p z (leadOf s.sl p) d → heldMark s.sl.marks[k] d = true) ∧
          (heldMark s.sl.marks[k] d = true → CutCalled s.sl p z (leadOf s.sl p + s.sl.settings.hysteresis) d)

/-- A step of a calibration run is BUSY only during a run, and windows wait only behind a step; a window counts for a run only
while one is active (R111, R117); pressure samples wait only behind a step (R10, R96); and the pressure health copy is channel 5's
health (R18, R96). -/
def CalibrationOrdered (s : State) : Prop :=
  (s.ct.step.isSome → s.ct.run.isSome) ∧ (s.ct.waiting ≠ [] → s.ct.step.isSome) ∧
    (∀ w ∈ s.ct.window, w.forRun = true → s.ct.run.isSome) ∧ (s.scu[(5 : Fin 6)].fifo ≠ [] → s.ct.step.isSome) ∧
    s.ct.health = s.scu[(5 : Fin 6)].health

/-- A load record is whole: its total is the sum of the payloads present, its passes are numbered 1, 2, … and at most
twelve, and its number lies in 1..65 535 (R121 to R123). -/
def LoadWhole (l : Load) : Prop :=
  l.total = (l.passes.filterMap PassRecord.payload).sum ∧ l.passes.map PassRecord.position = List.range' 1 l.passes.length ∧
    l.passes.length ≤ 12 ∧ 1 ≤ l.number ∧ l.number ≤ 65535

/-- The loads are whole: the open load is OPEN with fewer than twelve passes and no closed stamp, the history holds at most
sixteen loads, each closed with its stamp (R123, R127), and the next load number lies in 1..65 535 (R121). -/
def LoadsWhole (s : State) : Prop :=
  (∀ l ∈ s.lr.openLoad, LoadWhole l ∧ l.state = .isOpen ∧ l.passes.length < 12 ∧ l.closed = none) ∧
    s.lr.history.length ≤ 16 ∧ (∀ l ∈ s.lr.history, LoadWhole l ∧ l.state ≠ .isOpen ∧ l.closed.isSome) ∧
    1 ≤ s.lr.nextNumber ∧ s.lr.nextNumber ≤ 65535

/-- The four fields of an advice are those that stand: the mode, the rpm the mode asks for, the power cap, and the reasons of
the table of R145. -/
def AdviceStands (em : Em) (a : Advice) : Prop :=
  a.mode = em.mode ∧ a.cap = em.cap ∧
    a.rpm = (match em.mode with
      | .work => em.settings.workRpm
      | .eco => em.settings.ecoRpm
      | .autoIdle => em.settings.idleRpm
      | .stopped | .shutdownPending | .shutdownAdvised => 0) ∧
    (a.reasons.derate = true ↔ em.cap < 100) ∧
    (a.reasons.ecoPhase = true ↔ em.mode = .eco) ∧
    (a.reasons.idleTimer = true ↔ em.mode = .autoIdle) ∧
    (a.reasons.deferred = true ↔ em.mode = .autoIdle ∧ em.deferred = true) ∧
    (a.reasons.shutdown = true ↔ em.mode = .shutdownPending ∨ em.mode = .shutdownAdvised) ∧
    (a.reasons.retainedFailed = true ↔ em.mode = .shutdownAdvised ∧ em.failed = true) ∧
    (a.reasons.cancel = true ↔ em.cancel = true)

/-- The test of the shutdown permission has been made, from the Economy Manager `em` in AUTO_IDLE and the store `rs` (R142, R143).
Refused, the deferred mark is set. Granted, a CLEAN store makes the mode SHUTDOWN_ADVISED, a DIRTY or FAILED one SHUTDOWN_PENDING
with a commit begun, and a commit in flight SHUTDOWN_PENDING with that one waited for; both timers are stopped and the deferred and
cancel marks clear. The last advice apart, nothing else differs. (With a RESTART pending no commit is begun and the wait is OWN all
the same: assumption log 23.) -/
def ShutdownTested (granted : Prop) (em : Em) (rs : Rs) (t : State) : Prop :=
  let left : Em := { em with
    idleTimer := none, shutdownTimer := .stopped, deferred := false, cancel := false, wait := .none
    lastAdvice := t.em.lastAdvice }
  (¬granted → t.em = { em with deferred := true, lastAdvice := t.em.lastAdvice } ∧ t.rs = rs) ∧
    (granted → match rs.state with
      | .clean => t.em = { left with mode := .shutdownAdvised } ∧ t.rs = rs
      | .dirty | .failed => t.em = { left with mode := .shutdownPending, wait := .own } ∧
          t.rs = (if rs.restartPending then rs
            else { rs with
              state := .committing { snapshot := retainedOf t, requester := .economy, attempt := 1 }, changed := false })
      | .committing _ => t.em = { left with mode := .shutdownPending, wait := .prior } ∧ t.rs = rs)

/-- The marks and timers of the Economy Manager follow its mode: the idle timer runs exactly in WORK and ECO (R139), the
shutdown timer exactly in AUTO_IDLE with its deferred mark (R142), a commit is waited for exactly in SHUTDOWN_PENDING (R143),
the cancel mark belongs to WORK and the failed mark to SHUTDOWN_ADVISED (R144); and the last advice is the one that
stands (R145). -/
def EconomyFollowsMode (s : State) : Prop :=
  (s.em.idleTimer.isSome ↔ s.em.mode = .work ∨ s.em.mode = .eco) ∧ (s.em.shutdownTimer ≠ .stopped ↔ s.em.mode = .autoIdle) ∧
    (s.em.deferred = true → s.em.mode = .autoIdle) ∧ (s.em.wait ≠ .none ↔ s.em.mode = .shutdownPending) ∧
    (s.em.cancel = true → s.em.mode = .work) ∧ (s.em.failed = true → s.em.mode = .shutdownAdvised) ∧
    AdviceStands s.em s.em.lastAdvice

/-- Every service item is in the state its mark and count give (R150), the reported cap is the lowest derate cap (R154), and
the Economy Manager holds the reported cap (R146). -/
def ServiceSettled (s : State) : Prop :=
  (∀ i : Fin 24, ∀ e ∈ s.st.entries[i], e.state =
      if e.item.suspended then .suspended
      else if e.item.consumed < e.item.definition.warnPoint then .ok
      else if e.item.consumed < e.item.definition.duePoint then .dueSoon
      else if e.item.consumed < e.item.definition.overduePoint then .due
      else .overdue) ∧
    IsLowestCap s.st.entries s.st.reportedCap ∧ s.em.cap = s.st.reportedCap

/-- While the store is CLEAN the image holds the retained content as it stands in the blocks (R162, R164); while a commit is in
flight with no mark taken, its snapshot does (R164), and its attempt is the first, second or third. -/
def ImageMatches (s : State) : Prop :=
  match s.rs.state with
  | .clean => s.rs.image = snapshotImage (retainedOf s)
  | .committing r => (s.rs.changed = false → r.snapshot = retainedOf s) ∧ 1 ≤ r.attempt ∧ r.attempt ≤ 3
  | .dirty | .failed => True

/-- The queues of the Link Controller keep their bounds: at most four frames in the inbox (R171), at most 32 notices, with at
most one TIP REPORT and one ENGINE ADVICE among them (R174), no more marks than notices; the interpreter is IDLE between
events (R172); a free transmitter leaves no reply waiting, and notices only while a RESTART is pending and its reset is due or
none of the notices is an early one (R175, R167); and the seven counts stay within 16 bits (R174, R179). -/
def LinkBounded (s : State) : Prop :=
  s.lc.inbox.length ≤ 4 ∧ s.lc.notices.length ≤ 32 ∧ noticesOfKind 0x45 s.lc ≤ 1 ∧ noticesOfKind 0x4A s.lc ≤ 1 ∧
    s.lc.early.length ≤ s.lc.notices.length ∧ s.lc.interpreter = .idle ∧
    (s.lc.tx = .free → s.lc.replySlot = none ∧
      (s.lc.notices = [] ∨
        (s.rs.restartPending = true ∧ (s.rs.state.isCommitting = false ∨ true ∉ s.lc.early)))) ∧
    ∀ n ∈ [s.lc.noticeLoss, s.lc.stats.received, s.lc.stats.check, s.lc.stats.length, s.lc.stats.timeout,
      s.lc.stats.framing, s.lc.stats.inboxFull], n ≤ 65535

end Sys2Proof.Machine
end

