-- ==== Sys2Proof/Certificates/Slice0/Obligations.lean ====
section
/-! DEFINITION. The statements for the provers. Each docstring names the rules of spec/ it formalises, or says that it is
the model's choice. -/

open Sys2Proof Sys2Proof.Machine

/-! ## The step and the machine as a whole -/

/-- A step takes the command at the front of the queue and runs it on the state with the queue's rest. The queue of commands is
the model's choice (assumption log 1): the spec has none, and says only that each step is whole. -/
def Obligations.StepRunsFrontCommand : Prop :=
  ∀ (c : Instr) (rest : List Instr) (s : State), s.pending = c :: rest → step s = exec c { s with pending := rest }

/-- On an empty queue a supplied part's time advances by 1 ms and nothing else changes, and a part without supply stays as it
is. The model's choice (assumption log 2); R178 says that part time counts milliseconds. -/
def Obligations.EmptyQueueTicksPartTime : Prop :=
  ∀ s : State, s.pending = [] →
    (s.powered = true → step s = .next { s with lc := { s.lc with time := s.lc.time + 1 } }) ∧
      (s.powered = false → step s = .next s)

/-- Every command in every state answers a next state, and leaves the queue of commands as it is. A command the state does not
allow to happen answers the state it found (assumption log 1). -/
def Obligations.EveryCommandAnswersNext : Prop :=
  ∀ (c : Instr) (s : State), ∃ t, exec c s = .next t ∧ t.pending = s.pending

/-- Beside the resets and the supply each of these has one writer: the authority (R28, readings of the inputs); the retained
channel settings (R20), geometry (R36), zone records (R59, R60, R66), slew settings (R76), cycle settings (R95), calibration
tables (R108, the end of a calibration step), truck classes (R119), economy settings (R137) and service definitions (R155); and
the grade record (R49), which is not retained. -/
def Obligations.EachSettingHasOneWriter : Prop :=
  ∀ (c : Instr) (s t : State), exec c s = .next t →
    c ≠ .restartTakesEffect → (∀ b, c ≠ .powerOn b) → (∀ i, c ≠ .powerLoss i) →
    (t.mlu.authority ≠ s.mlu.authority → ∃ x, c = .inputLevelChange x) ∧
    ((∃ ch : Fin 6, t.scu[ch].settings ≠ s.scu[ch].settings) → ∃ tag body, c = .channelSet tag body) ∧
    (t.ps.geometry ≠ s.ps.geometry → ∃ tag body, c = .geometrySet tag body) ∧
    (t.ps.grade ≠ s.ps.grade → ∃ tag body, c = .gradeSet tag body) ∧
    (zoneRecordsOf t.zt ≠ zoneRecordsOf s.zt →
      ∃ tag body, c = .zoneWrite tag body ∨ c = .zoneClear tag body ∨ c = .reanchor tag body) ∧
    (t.sl.settings ≠ s.sl.settings → ∃ tag body, c = .slewSettings tag body) ∧
    (t.ct.settings ≠ s.ct.settings → ∃ tag body, c = .cycleSettings tag body) ∧
    ((t.ct.fempty ≠ s.ct.fempty ∨ t.ct.gain ≠ s.ct.gain) → c = .calibrationStepEnd) ∧
    (t.lr.classes ≠ s.lr.classes → ∃ tag body, c = .truckClassSet tag body) ∧
    (t.em.settings ≠ s.em.settings → ∃ tag body, c = .economySet tag body) ∧
    ((∃ i : Fin 24, (t.st.entries[i].map fun e => e.item.definition) ≠ s.st.entries[i].map fun e => e.item.definition) →
      ∃ tag body, c = .serviceItemSet tag body)

/-- The common checks of the interpreter (R172), in their order, for each of the 33 commands with the level and the lengths of
spec 11: a bad length is answered BAD_LENGTH, a command while a RESTART is pending BUSY (GET STATUS excepted), too low an
authority AUTHORITY; then a field whose code names no value or whose value lies outside its range is answered BAD_FIELD by the
command's owner (R20, R36, R49, R57, R76, R95, R109, R110, R119, R137, R155 to R159, R180); and a command so refused changes
nothing but the frame's place and the reply. (The length of a body whose operation code names no operation, and the refusal of a
flag byte above 1, are the model's reading, assumption log 11; so is the refusal of a TRUCK CLASS SET with target 0 and a
tolerance above 0, assumption log 17.) -/
def Obligations.CommonChecksComeFirst : Prop :=
  ∀ (c : Instr) (f : CommandFrame) (s : State), hostFrameOf c = some f → CommandReady f.kind f.tag f.body s →
    (lengthOfKind f.kind f.body = false →
      exec c s = .next { s with lc := answered s.lc (replyFrame f.kind f.tag .badLength []) }) ∧
    (lengthOfKind f.kind f.body = true → s.rs.restartPending = true → f.kind ≠ 0x01 →
      exec c s = .next { s with lc := answered s.lc (replyFrame f.kind f.tag .busy []) }) ∧
    (lengthOfKind f.kind f.body = true → s.rs.restartPending = false →
      s.mlu.authority.rank < (levelOfKind f.kind).rank →
      exec c s = .next { s with lc := answered s.lc (replyFrame f.kind f.tag .authority []) }) ∧
    (lengthOfKind f.kind f.body = true → s.rs.restartPending = false → (levelOfKind f.kind).rank ≤ s.mlu.authority.rank →
      fieldsInRange f.kind f.body = false →
      exec c s = .next { s with lc := answered s.lc (replyFrame f.kind f.tag .badField []) })

/-! ## Invariants that every step keeps -/

/-- The state after reset meets the eleven invariants below. (Which reset State.reset is: assumption log 4.) -/
def Obligations.ResetMeetsInvariants : Prop :=
  ChannelsConsistent State.reset ∧ SuspensionsAuthorised State.reset ∧ AlarmFollowsSlots State.reset ∧
    UnanchoredCounted State.reset ∧ CutsInForce State.reset ∧ CalibrationOrdered State.reset ∧ LoadsWhole State.reset ∧
    EconomyFollowsMode State.reset ∧ ServiceSettled State.reset ∧ ImageMatches State.reset ∧ LinkBounded State.reset

/-- Every step keeps the channel contexts consistent (R8, R12, R14, R16, R17, R19, R20, R23). -/
def Obligations.StepKeepsChannelsConsistent : Prop :=
  ∀ s t : State, ChannelsConsistent s → step s = .next t → ChannelsConsistent t

/-- Every step keeps the authority level that of the keyed inputs, and no zone SUSPENDED above it (R28, R62, R64, R67). -/
def Obligations.StepKeepsSuspensionsAuthorised : Prop :=
  ∀ s t : State, SuspensionsAuthorised s → step s = .next t → SuspensionsAuthorised t

/-- Every step keeps the driven pattern the highest-ranked of the three alarm slots (R32, R33, R34). -/
def Obligations.StepKeepsAlarmFollowingSlots : Prop :=
  ∀ s t : State, AlarmFollowsSlots s → step s = .next t → AlarmFollowsSlots t

/-- Every step keeps the unanchored count, and the Zone Table's alarm request, as the zones stand (R69, R74, R75). -/
def Obligations.StepKeepsUnanchoredCount : Prop :=
  ∀ s t : State, UnanchoredCounted s → step s = .next t → UnanchoredCounted t

/-- Every step keeps the cut lines, the slew state, the alarm request, the causes and the marks as the zones call for on the pose
in use: each line asserted exactly when it has a cause (R30, R31, R77 to R87, R90, R94). -/
def Obligations.StepKeepsCutsInForce : Prop :=
  ∀ s t : State, CutsInForce s → step s = .next t → CutsInForce t

/-- Every step keeps calibration steps, waiting windows and waiting pressure samples in their order, and the pressure health copy
that of channel 5 (R10, R18, R96, R111). -/
def Obligations.StepKeepsCalibrationOrder : Prop :=
  ∀ s t : State, CalibrationOrdered s → step s = .next t → CalibrationOrdered t

/-- Every step keeps the load records whole: at most one load OPEN with fewer than twelve passes, at most sixteen closed loads
in the history, each total the sum of its payloads (R121 to R123, R127). -/
def Obligations.StepKeepsLoadsWhole : Prop :=
  ∀ s t : State, LoadsWhole s → step s = .next t → LoadsWhole t

/-- Every step keeps the Economy Manager's timers and marks as its mode requires, and the last advice as it stands, its rpm and
its reasons by the mode (R139, R142 to R146). -/
def Obligations.StepKeepsEconomyFollowingMode : Prop :=
  ∀ s t : State, EconomyFollowsMode s → step s = .next t → EconomyFollowsMode t

/-- Every step keeps each service item in the state its count gives, and the power cap the lowest derate cap among the
OVERDUE DERATE items (R146, R150, R154). -/
def Obligations.StepKeepsServiceSettled : Prop :=
  ∀ s t : State, ServiceSettled s → step s = .next t → ServiceSettled t

/-- Every step keeps the image of a CLEAN store equal to the retained content, and an unmarked commit's snapshot too (R161 to
R166): no change of retained content goes unmarked. -/
def Obligations.StepKeepsImageMatching : Prop :=
  ∀ s t : State, ImageMatches s → step s = .next t → ImageMatches t

/-- Every step keeps the bounds of the inbox, the notice queue and the counts, and lets a free transmitter leave nothing
waiting but the notices a pending RESTART keeps back (R167, R171, R172, R174, R175, R179; which those are, assumption log 10).
-/
def Obligations.StepKeepsLinkBounded : Prop :=
  ∀ s t : State, LinkBounded s → step s = .next t → LinkBounded t

/-! ## Sensor channels (spec 01) -/

/-- The ninth character of a frame on an enabled channel (R3 to R5, R16). With a CRC that differs, CHECK counts it, the
assembler hunts, and nothing else changes. With a CRC that agrees, FRAMES SEEN counts it and CHECK does not; a wrong type is
counted under TYPE REJECT, a unit that does not match under its mask under FOREIGN, and either raises the identity reject run,
up to 8. The reject that brings the run to 8 makes a channel that is ACQUIRING, LIVE or STALE FAILED(MISWIRED), with the same
counts, the run at 8, both timers stopped, a CHANNEL HEALTH notice and the new health delivered (R18), on every channel and also
where the delivery begins a computation; every other reject changes nothing else. A frame sooner than the minimum spacing after
the last accepted one is counted and latched as CHATTER, and nothing else changes. (A channel that is ACQUIRING, LIVE or STALE with
the run at 8 already, which no run reaches and of which only assumption log 20 speaks, is shut out: that none is so is part of
StepKeepsChannelsConsistent. Which samples count under SUPERSEDED where the delivery begins a computation: assumption log 33.) -/
def Obligations.FrameChecksCountRejects : Prop :=
  ∀ (ch : Fin 6) (char : Byte) (bytes : List Byte) (s : State),
    s.powered = true → s.scu[ch].settings.enable = true → s.scu[ch].assembler = .collecting bytes → bytes.length = 8 →
    let c := s.scu[ch]
    let typeGood := bytes.getD 1 0 = #v[0x11, 0x12, 0x13, 0x21, 0x31, 0x41][ch]
    let unitGood := bytes.getD 2 0 &&& c.settings.mask = c.settings.unit &&& c.settings.mask
    let seen := min 65535 (c.stats.framesSeen + 1)
    let rejected : Channel := { c with
      assembler := .hunting
      rejectRun := min 8 (c.rejectRun + 1)
      stats := { c.stats with
        framesSeen := seen
        typeReject := if typeGood then c.stats.typeReject else min 65535 (c.stats.typeReject + 1)
        foreign := if typeGood then min 65535 (c.stats.foreign + 1) else c.stats.foreign } }
    let miswired : Channel := { rejected with health := .failed .miswired, staleTimer := none, silentTimer := none }
    let healthy := c.health = .acquiring ∨ c.health = .live ∨ c.health = .stale
    let fails := c.rejectRun = 7 ∧ healthy
    (crc8 (bytes.drop 1) ≠ char →
      exec (.sensorFrameArrival ch char) s = .next { s with
        scu := s.scu.set ch { c with
          assembler := .hunting
          stats := { c.stats with check := min 65535 (c.stats.check + 1) } } }) ∧
    (crc8 (bytes.drop 1) = char →
      (∃ t, exec (.sensorFrameArrival ch char) s = .next t ∧ t.scu[ch].stats.framesSeen = seen ∧
        t.scu[ch].stats.check = c.stats.check ∧ t.scu[ch].assembler = .hunting) ∧
      (¬(typeGood ∧ unitGood) → c.rejectRun ≤ 8 → (healthy → c.rejectRun < 8) → ¬fails →
        exec (.sensorFrameArrival ch char) s = .next { s with scu := s.scu.set ch rejected }) ∧
      (¬(typeGood ∧ unitGood) → fails → ∃ t, exec (.sensorFrameArrival ch char) s = .next t ∧
        t.scu[ch].health = .failed .miswired ∧ t.scu[ch].rejectRun = 8 ∧
        t.scu[ch].stats.typeReject = rejected.stats.typeReject ∧ t.scu[ch].stats.foreign = rejected.stats.foreign ∧
        HealthDelivered ch c.health (.failed .miswired) miswired s t ∧
        (ch ≠ 3 → ch ≠ 5 →
          t.lc = (queueNotice (.channelHealth ch c.health (.failed .miswired) s.lc.time) s).lc ∧
          t = { s with scu := t.scu, ps := t.ps, lc := t.lc, choices := t.choices }) ∧
        t = { s with scu := t.scu, mlu := t.mlu, ps := t.ps, zt := t.zt, sl := t.sl, ct := t.ct, lc := t.lc
                     choices := t.choices }) ∧
      (typeGood → unitGood → (∃ l ∈ c.lastFrame, (s.lc.time - l.stamp).toNat < c.settings.spacing) →
        exec (.sensorFrameArrival ch char) s = .next { s with
          scu := s.scu.set ch { c with
            assembler := .hunting
            chatterLatch := true
            stats := { c.stats with framesSeen := seen, chatter := min 65535 (c.stats.chatter + 1) } } }))

/-- A frame accepted on channel 0, 1, 2 or 4, in every health (R4 to R8, R12 to R14, R16 to R18, R40). The sample enters the
FIFO or overwrites its newest entry; the reference, the runs and the counts are those of the frame. In ACQUIRING the third good
sample in a row makes the channel LIVE and a FAULT one starts the count again; in LIVE it restarts the stale timer; in STALE a
good one makes it LIVE and a FAULT one restarts the silent timer; the third FAULT sample in a row makes it FAILED(SENSOR_FAULT),
unless it is FAILED(MISWIRED); and a good one in FAILED(SILENT) or FAILED(SENSOR_FAULT) begins a new acquisition, without GAP,
as its first. A change of health is noticed. A computation is pending; or, where none is in flight, begins at once on the
contexts as they then stand, taking the values of the newest samples without FAULT and the health of each channel, and leaving
the FIFOs empty (R9, R41, R42), a changed health then leaving one pending (R40). Nothing else changes. (That the context is
settled whole before any delivery is assumption log 9; that a FAULT sample of a channel in FAILED(BREAK) whose fault run stands
at 3 leaves its health, assumption log 20; which samples count under SUPERSEDED where the CHASSIS values are unused, assumption
log 33.) -/
def Obligations.AcceptedFrameQueuesSample : Prop :=
  ∀ (ch : Fin 6) (char : Byte) (bytes : List Byte) (s : State), ch ≠ 3 → ch ≠ 5 →
    s.powered = true → s.scu[ch].settings.enable = true → s.scu[ch].health ≠ .off →
    s.scu[ch].assembler = .collecting bytes → bytes.length = 8 →
    crc8 (bytes.drop 1) = char → bytes.getD 1 0 = #v[0x11, 0x12, 0x13, 0x21, 0x31, 0x41][ch] →
    bytes.getD 2 0 &&& s.scu[ch].settings.mask = s.scu[ch].settings.unit &&& s.scu[ch].settings.mask →
    (∀ l ∈ s.scu[ch].lastFrame, s.scu[ch].settings.spacing ≤ (s.lc.time - l.stamp).toNat) →
    let c := s.scu[ch]
    let fault := decide (2 ≤ u8 bytes 3 % 4)
    let seq := u8 bytes 3 / 16
    let x : Sample :=
      { a := s16 bytes 4, b := if ch = 4 then s16 bytes 6 else max (-16384) (min 16384 (s16 bytes 6)), stamp := s.lc.time
        flags := { degraded := u8 bytes 3 % 4 == 1, fault := fault, gap := missedBefore c seq fault != 0, clamped := false } }
    let after := s.scu.set ch (accepted c seq x)
    let health := healthAfterSample c fault s.lc.time
    c.faultRun ≤ 3 →
    ∃ t, exec (.sensorFrameArrival ch char) s = .next t ∧
      t.lc = (if health = c.health then s.lc else (queueNotice (.channelHealth ch c.health health s.lc.time) s).lc) ∧
      (s.ps.inFlight.isSome → t.scu = after ∧ t.ps = { s.ps with pendingStart := true }) ∧
      (s.ps.inFlight = none → t.scu = fifosEmptied after ∧
        t.ps = { begun after s.ps with pendingStart := s.ps.pendingStart || decide (health ≠ c.health) }) ∧
      (health = c.health → t.choices = s.choices) ∧
      t = { s with scu := t.scu, ps := t.ps, lc := t.lc, choices := t.choices }

/-- A sample accepted on the slew channel, good or FAULT, in every health (R6 to R9, R11 to R14, R16 to R18, R40 to R42, R92,
R93). The context becomes that of the frame accepted, with the health that the sample gives, and a changed one is noticed and
delivered to the Slew Limiter. A computation is pending, or begins at once where none is in flight, as in
AcceptedFrameQueuesSample. A good sample is read unless the channel stays FAILED(MISWIRED) or FAILED(BREAK): its angle becomes
the previous slew angle; with one recorded, the magnitude of the signed wrapping difference is added to the travel remainder,
and when that reaches 65 536 a turn is counted, 65 536 taken from it and the store marked; the turn's 65 536 BAU go to every
SLEW_TURNS service item, one that advances with a SERVICE ATTENTION notice (R151 to R153), and a changed cap to the Economy
Manager, with its advice (R145, R154). A FAULT sample is passed over; where it makes the channel FAILED(SENSOR_FAULT) the
previous slew angle is cleared, and else it changes nothing outside the channel and the computation that a sample calls for.
(That the sample's reading and the deliveries of a change of health come in a free order is assumption log 9; that a fault run
standing at 3 fails nothing again, assumption log 20; which samples count under SUPERSEDED, assumption log 33.) -/
def Obligations.SlewSampleAddsTravel : Prop :=
  ∀ (char : Byte) (bytes : List Byte) (s : State),
    s.powered = true → s.scu[(3 : Fin 6)].settings.enable = true → s.scu[(3 : Fin 6)].health ≠ .off →
    s.scu[(3 : Fin 6)].faultRun ≤ 3 → s.scu[(3 : Fin 6)].assembler = .collecting bytes →
    bytes.length = 8 → crc8 (bytes.drop 1) = char → bytes.getD 1 0 = 0x21 →
    bytes.getD 2 0 &&& s.scu[(3 : Fin 6)].settings.mask = s.scu[(3 : Fin 6)].settings.unit &&& s.scu[(3 : Fin 6)].settings.mask →
    (∀ l ∈ s.scu[(3 : Fin 6)].lastFrame, s.scu[(3 : Fin 6)].settings.spacing ≤ (s.lc.time - l.stamp).toNat) →
    let c := s.scu[(3 : Fin 6)]
    let good := u8 bytes 3 % 4 < 2
    let old := c.health
    let new := healthAfterSample c (decide ¬good) s.lc.time
    let angle : Angle := BitVec.ofNat 16 (u8 bytes 4 * 256 + u8 bytes 5)
    let seq := u8 bytes 3 / 16
    let x : Sample :=
      { a := u8 bytes 4 * 256 + u8 bytes 5, b := max (-16384) (min 16384 (s16 bytes 6)), stamp := s.lc.time
        flags := { degraded := u8 bytes 3 % 4 == 1, fault := decide ¬good, gap := missedBefore c seq (decide ¬good) != 0
                   clamped := false } }
    let after := s.scu.set 3 (accepted c seq x)
    let total := s.sl.travel + (match s.sl.prevAngle with
      | none => 0
      | some p => (angle - p).toInt.natAbs)
    let turned := s.sl.prevAngle.isSome ∧ 65536 ≤ total
    ∃ t, exec (.sensorFrameArrival 3 char) s = .next t ∧
      (s.ps.inFlight.isSome → t.scu = after ∧ t.ps = { s.ps with pendingStart := true }) ∧
      (s.ps.inFlight = none → t.scu = fifosEmptied after ∧
        t.ps = { begun after s.ps with pendingStart := s.ps.pendingStart || decide (new ≠ old) }) ∧
      (∀ k : Fin 16, t.zt.zones[k].held = s.zt.zones[k].held) ∧
      t.mlu.inputs = s.mlu.inputs ∧ t.mlu.authority = s.mlu.authority ∧ t.ct = s.ct ∧ t.lr = s.lr ∧ t.powered = true ∧
      t.scu[(3 : Fin 6)].health = new ∧ t.sl.health = (if new = old then s.sl.health else new) ∧
      (new ≠ old → ¬(good ∧ turned) → s.lc.notices.length ≤ 14 →
        noticeHanded (.channelHealth 3 old new s.lc.time) t.lc) ∧
      (good → old ≠ .failed .miswired → old ≠ .failed .lineBreak →
        t.sl.prevAngle = some angle ∧ t.sl.travel = (if turned then total - 65536 else total) ∧
          t.sl.turns = (if turned then s.sl.turns + 1 else s.sl.turns) ∧ t.sl.pose = s.sl.pose ∧
          t.sl.settings = s.sl.settings ∧ t.rs = (if turned then Rs.mark s.rs else s.rs) ∧
          (∀ i : Fin 24, t.st.entries[i] = s.st.entries[i].map fun e =>
            incremented (if turned ∧ e.item.definition.basis = .slewTurns then 65536 else 0) e) ∧
          (IsLowestCap s.st.entries s.st.reportedCap → IsLowestCap t.st.entries t.st.reportedCap) ∧
          (t.st.reportedCap ≠ s.st.reportedCap → t.em.cap = t.st.reportedCap) ∧
          t.em = { s.em with cap := t.em.cap, lastAdvice := t.em.lastAdvice } ∧
          (t.st.reportedCap ≠ s.st.reportedCap → AdviceStands t.em t.em.lastAdvice) ∧ AdviceHanded s t ∧
          (¬turned → t.em = s.em ∧ t.st = s.st) ∧ (new = old → AttentionNoticed s t)) ∧
      (good → new = old →
        t.sl = { s.sl with prevAngle := t.sl.prevAngle, travel := t.sl.travel, turns := t.sl.turns } ∧
        t.mlu = s.mlu ∧ t.zt = s.zt) ∧
      (good → old = .failed .miswired ∨ old = .failed .lineBreak → t = { s with scu := t.scu, ps := t.ps }) ∧
      (¬good → new = old → t = { s with scu := t.scu, ps := t.ps }) ∧
      (¬good → new ≠ old → new = .failed .sensorFault ∧ t.sl.prevAngle = none ∧ t.sl.travel = s.sl.travel ∧
        t.sl.turns = s.sl.turns ∧ t.rs = s.rs ∧ t.em = s.em ∧ t.st = s.st)

/-- A sample accepted on the pressure channel, good or FAULT, in every health (R6 to R8, R10, R12 to R14, R16 to R19, R96, R103 to
R105, R111, R115). The context becomes that of the frame accepted, as on the other channels: the sample, CLAMPED where either
pressure was brought into its range, in the FIFO or in the place of its newest entry; the reference, the runs, the timers, the
latched flags and the counts; and the health that the sample gives, which, changed, is noticed and becomes the pressure health
copy, one that is FAILED leaving the latest force absent. While the calibration step is READY the Cycle Tracker takes the samples
that wait, oldest first, this one the last: a good one gives the latest force, and an OPEN window adds it and closes with its
weighed result when its count reaches its length, a window of the active run being handed to the step; a FAULT one is passed over.
While the step is BUSY the samples wait. But where the copy was LIVE and the new health is not, an active run ends FAILED as HARD
with cause PRESSURE: the step is READY, the waiting list empty, and the samples that waited are taken. Nothing outside the channel
and the Cycle Tracker changes but for the notices. (That the context is settled whole, and that the sample's offer and the
deliveries of a change of health then come in a free order, is assumption log 9; that the end of the run and the clearing of the
force do so too, assumption log 22; that a fault run standing at 3 fails nothing again, assumption log 20; that a good sample taken
while the channel stands FAILED gives the latest force and is added to the window, beside R100, is the model's choice, assumption
log 34.) -/
def Obligations.PressureSampleFeedsWindow : Prop :=
  ∀ (char : Byte) (bytes : List Byte) (s : State),
    s.powered = true → s.scu[(5 : Fin 6)].settings.enable = true → s.scu[(5 : Fin 6)].health ≠ .off →
    s.scu[(5 : Fin 6)].faultRun ≤ 3 → s.scu[(5 : Fin 6)].assembler = .collecting bytes →
    bytes.length = 8 → crc8 (bytes.drop 1) = char → bytes.getD 1 0 = 0x41 →
    bytes.getD 2 0 &&& s.scu[(5 : Fin 6)].settings.mask = s.scu[(5 : Fin 6)].settings.unit &&& s.scu[(5 : Fin 6)].settings.mask →
    (∀ l ∈ s.scu[(5 : Fin 6)].lastFrame, s.scu[(5 : Fin 6)].settings.spacing ≤ (s.lc.time - l.stamp).toNat) →
    let c := s.scu[(5 : Fin 6)]
    let good := u8 bytes 3 % 4 < 2
    let new := healthAfterSample c (decide ¬good) s.lc.time
    let noticed : Notice := .channelHealth 5 c.health new s.lc.time
    let head : Int := max 0 (min 6000 (s16 bytes 4))
    let rod : Int := max 0 (min 6000 (s16 bytes 6))
    let force : Int := head * s.ps.geometry.ah - rod * s.ps.geometry.ar
    let seq := u8 bytes 3 / 16
    let x : Sample :=
      { a := head, b := rod, stamp := s.lc.time
        flags := { degraded := u8 bytes 3 % 4 == 1, fault := decide ¬good, gap := missedBefore c seq (decide ¬good) != 0
                   clamped := decide (head ≠ s16 bytes 4 ∨ rod ≠ s16 bytes 6) } }
    let settled := accepted c seq x
    let entered : State := { s with scu := s.scu.set 5 settled }
    let offered (u : State) : State := withPressureTaken u.ct u
    let copied (u : State) : State := { u with ct := { u.ct with health := new } }
    let cleared (u : State) : State := { u with ct := { u.ct with force := if new.isDown then none else u.ct.force } }
    let told (u : State) : State := if new = c.health then u else cleared (copied u)
    let ended (u : State) : State := withPressureTaken (endedRun u.ct) u
    let hard := new ≠ c.health ∧ s.ct.health = .live ∧ new ≠ .live ∧ s.ct.run.isSome
    ∃ t, exec (.sensorFrameArrival 5 char) s = .next t ∧
      (∀ ch : Fin 6, ch ≠ 5 → t.scu[ch] = s.scu[ch]) ∧
      t.scu[(5 : Fin 6)] =
        { settled with fifo := t.scu[(5 : Fin 6)].fifo, accumulated := t.scu[(5 : Fin 6)].accumulated } ∧
      t.scu[(5 : Fin 6)].health = new ∧ t = { s with scu := t.scu, ct := t.ct, lc := t.lc, choices := t.choices } ∧
      (new = c.health → t.choices = s.choices) ∧
      (¬hard →
        t.lc = (if new = c.health then s.lc else (queueNotice noticed s).lc) ∧
        t.scu = (offered entered).scu ∧ (t.ct = (told (offered entered)).ct ∨ t.ct = (offered (told entered)).ct) ∧
        (s.ct.step = none → c.fifo = [] →
          t.ct = (told { s with ct := if good then forceTaken force s.ct else s.ct }).ct ∧ t.scu[(5 : Fin 6)].fifo = []) ∧
        (s.ct.step.isSome → t.ct = (told s).ct ∧
          t.scu[(5 : Fin 6)].fifo = (if c.fifo.length < 4 then c.fifo ++ [x] else c.fifo.dropLast ++ [x]))) ∧
      (hard →
        t.ct.run = none ∧ t.ct.step = none ∧ t.ct.waiting = [] ∧ t.ct.health = new ∧ t.scu[(5 : Fin 6)] = drained [] settled ∧
        t.ct.fempty = s.ct.fempty ∧ t.ct.gain = s.ct.gain ∧
        (∃ u, (u = entered ∨ u = offered entered) ∧
          (t.ct = (cleared (ended (copied u))).ct ∨ t.ct = (ended (cleared (copied u))).ct)) ∧
        (s.lc.notices.length ≤ 30 → noticeHanded noticed t.lc ∧ ∀ r ∈ s.ct.run,
          noticeHanded (.calibrationResult (RunKind.isGain r.kind) (.failed .hardPressure) r.soft s.lc.time) t.lc) ∧
        (¬good → s.ct.step = none → c.fifo = [] → t.ct = { s.ct with
          run := none, step := none, waiting := [], health := new, force := none
          window := s.ct.window.map fun w => { w with forRun := false } }))

/-- Characters and line samples of an enabled channel (R1, R15): a framing error is counted and the assembler hunts; a start
byte begins a frame and other characters are dropped while hunting; a character of a frame is collected; a high sample sets
the low run to 0 and a low one raises it, up to 5; and nothing else changes. -/
def Obligations.LineEventsStayInContext : Prop :=
  ∀ (ch : Fin 6) (char : Byte) (s : State), s.powered = true → s.scu[ch].settings.enable = true →
    let c := s.scu[ch]
    (exec (.sensorFramingError ch) s = .next { s with
      scu := s.scu.set ch { c with
        assembler := .hunting
        stats := { c.stats with framing := min 65535 (c.stats.framing + 1) } } }) ∧
    (c.assembler = .hunting → char = 0xA6 →
      exec (.sensorCharacter ch char) s = .next { s with scu := s.scu.set ch { c with assembler := .collecting [0xA6] } }) ∧
    (c.assembler = .hunting → char ≠ 0xA6 → exec (.sensorCharacter ch char) s = .next s) ∧
    (∀ bytes, c.assembler = .collecting bytes → bytes.length < 8 →
      exec (.sensorCharacter ch char) s = .next { s with
        scu := s.scu.set ch { c with assembler := .collecting (bytes ++ [char]) } }) ∧
    (¬(c.brk.mark = true ∧ c.brk.lowRun = 0) →
      exec (.breakDetectorSample ch true) s = .next { s with
        scu := s.scu.set ch { c with brk := { c.brk with lowRun := 0 } } }) ∧
    (¬(c.brk.mark = false ∧ c.brk.lowRun = 4) →
      exec (.breakDetectorSample ch false) s = .next { s with
        scu := s.scu.set ch { c with brk := { c.brk with lowRun := min 5 (c.brk.lowRun + 1) } } })

/-- A break fails an enabled channel that is neither FAILED(BREAK) nor FAILED(MISWIRED), and its end takes a channel in
FAILED(BREAK) to ACQUIRING with everything an entry to ACQUIRING resets (R12, R15), either change of health with its notice and
its deliveries (R18), of which a computation may begin on the new health and empty the FIFOs (R9, R40 to R42); the channel's context
is stated whole. In FAILED(MISWIRED) a break is counted under BREAKS and marked, and nothing else changes. The other channels stay
but for their FIFOs at such a beginning, and the Load Recorder, the Economy Manager, the Service Table and the store are untouched.
(Which samples count under SUPERSEDED: assumption log 33.) -/
def Obligations.BreakFailsAndItsEndAcquires : Prop :=
  ∀ (ch : Fin 6) (s : State), s.powered = true → s.scu[ch].settings.enable = true →
    (s.scu[ch].brk = { lowRun := 4, mark := false } → s.scu[ch].health ≠ .failed .lineBreak →
      s.scu[ch].health ≠ .failed .miswired →
      ∃ t, exec (.breakDetected ch) s = .next t ∧ t.scu[ch].health = .failed .lineBreak ∧
        HealthDelivered ch s.scu[ch].health (.failed .lineBreak) { s.scu[ch] with
          health := .failed .lineBreak, brk := { lowRun := 5, mark := true }, staleTimer := none, silentTimer := none
          stats := { s.scu[ch].stats with breaks := min 65535 (s.scu[ch].stats.breaks + 1) } } s t ∧
        t = { s with scu := t.scu, mlu := t.mlu, ps := t.ps, zt := t.zt, sl := t.sl, ct := t.ct, lc := t.lc
                     choices := t.choices }) ∧
    (s.scu[ch].brk = { lowRun := 0, mark := true } → s.scu[ch].health = .failed .lineBreak →
      ∃ t, exec (.breakEnd ch) s = .next t ∧ t.scu[ch].health = .acquiring ∧
        HealthDelivered ch (.failed .lineBreak) .acquiring { s.scu[ch] with
          health := .acquiring, brk := { lowRun := 0, mark := false }, assembler := .hunting, lastFrame := none, acqCount := 0
          rejectRun := 0, faultRun := 0, staleTimer := none, silentTimer := none } s t ∧
        t = { s with scu := t.scu, mlu := t.mlu, ps := t.ps, zt := t.zt, sl := t.sl, ct := t.ct, lc := t.lc
                     choices := t.choices }) ∧
    (s.scu[ch].brk = { lowRun := 4, mark := false } → s.scu[ch].health = .failed .miswired →
      exec (.breakDetected ch) s = .next { s with
        scu := s.scu.set ch { s.scu[ch] with
          brk := { lowRun := 5, mark := true }
          stats := { s.scu[ch].stats with breaks := min 65535 (s.scu[ch].stats.breaks + 1) } } }) ∧
    (s.scu[ch].brk = { lowRun := 0, mark := true } → s.scu[ch].health ≠ .failed .lineBreak →
      exec (.breakEnd ch) s = .next { s with scu := s.scu.set ch { s.scu[ch] with brk := { lowRun := 0, mark := false } } })

/-- A LIVE channel whose stale window has passed becomes STALE, its silent timer running from the same sample; a STALE channel
whose ten windows have passed becomes FAILED(SILENT) with both timers stopped (R14); each change with its CHANNEL HEALTH notice
and its deliveries (R18), of which a computation may begin on the new health and empty the FIFOs (R9, R40 to R42). The channel's
context is stated whole, and the other channels stay but for their FIFOs at such a beginning. A timer taken later than its
moment acts all the same (assumption log 3), and which samples count under SUPERSEDED is assumption log 33. -/
def Obligations.TimersDegradeHealth : Prop :=
  ∀ (ch : Fin 6) (start : Stamp) (s : State), s.powered = true → s.scu[ch].settings.enable = true →
    (s.scu[ch].health = .live → s.scu[ch].staleTimer = some start →
      s.scu[ch].settings.window ≤ (s.lc.time - start).toNat →
      ∃ t, exec (.staleTimerExpiry ch) s = .next t ∧ t.scu[ch].health = .stale ∧
        HealthDelivered ch .live .stale { s.scu[ch] with health := .stale, staleTimer := none, silentTimer := some start } s t ∧
        t = { s with scu := t.scu, mlu := t.mlu, ps := t.ps, zt := t.zt, sl := t.sl, ct := t.ct, lc := t.lc
                     choices := t.choices }) ∧
    (s.scu[ch].health = .stale → s.scu[ch].silentTimer = some start →
      10 * s.scu[ch].settings.window ≤ (s.lc.time - start).toNat →
      ∃ t, exec (.silentTimerExpiry ch) s = .next t ∧ t.scu[ch].health = .failed .silent ∧
        HealthDelivered ch .stale (.failed .silent)
          { s.scu[ch] with health := .failed .silent, staleTimer := none, silentTimer := none } s t ∧
        t = { s with scu := t.scu, mlu := t.mlu, ps := t.ps, zt := t.zt, sl := t.sl, ct := t.ct, lc := t.lc
                     choices := t.choices })

/-- CHANNEL SET and CHANNEL RESTART taken (R12, R20, R22). A set stores the settings, and the channel enters ACQUIRING or goes
to OFF with an empty FIFO and both timers stopped; the store is marked when a setting differs. The assembler hunts, but for a
frame that completes at the moment of a set that enables, which stays for its arrival to be checked under the new settings (that
moment is the model's reading of the queue, assumption log 30; that the assembler hunts and the break detector is clear at a
disable too is the model's choice, assumption log 24). A restart begins a fresh acquisition on an enabled channel, and is
refused with STATE on a disabled one. Either keeps the channel's statistics, latched flags and accumulated set, and is answered
DONE. A changed health is noticed and delivered, a computation that begins reading the emptied FIFO; one that stays, as
ACQUIRING does, queues nothing and delivers nothing (R9, R18, R40 to R42). (Which samples of the other channels count under
SUPERSEDED then is assumption log 33.) -/
def Obligations.ChannelSetAndRestartAcquire : Prop :=
  ∀ (tag : Byte) (ch : Fin 6) (s : State),
    let c := s.scu[ch]
    let emptiedOut : Channel := { c with
      fifo := [], assembler := .hunting, brk := { lowRun := 0, mark := false }, staleTimer := none, silentTimer := none }
    let acquiring : Channel := { emptiedOut with
      health := .acquiring, lastFrame := none, acqCount := 0, rejectRun := 0, faultRun := 0 }
    let delivered (t : State) (kind : Byte) (changed : Channel) : Prop :=
      (changed.health ≠ c.health → HealthDelivered ch c.health changed.health changed s t) ∧
        (changed.health = c.health → t = { s with
          scu := s.scu.set ch changed, rs := t.rs, lc := answered s.lc (replyFrame kind tag .done []) })
    let completing : Prop := c.settings.enable = true ∧
      (∃ char, s.pending.head? = some (.sensorFrameArrival ch char)) ∧
      ∃ bytes, c.assembler = .collecting bytes ∧ bytes.length = 8
    (∀ (body : List Byte) (new : ChannelSettings),
      CommandAllowed 0x08 tag body .service s → body.length = 7 → channelSet? body = some (ch, new) →
      ∃ t, exec (.channelSet tag body) s = .next t ∧ AnswersWith (replyFrame 0x08 tag .done []) s t ∧
        (new.enable = true → completing →
          delivered t 0x08 { acquiring with settings := new, assembler := c.assembler }) ∧
        (new.enable = true → ¬completing → delivered t 0x08 { acquiring with settings := new }) ∧
        (new.enable = false → delivered t 0x08 { emptiedOut with settings := new, health := .off }) ∧
        t.rs = (if new = c.settings then s.rs else Rs.mark s.rs) ∧
        t = { s with scu := t.scu, mlu := t.mlu, ps := t.ps, zt := t.zt, sl := t.sl, ct := t.ct, rs := t.rs, lc := t.lc
                     choices := t.choices }) ∧
    let body : List Byte := [BitVec.ofNat 8 ch.val]
    CommandAllowed 0x0A tag body .operator s →
    (c.settings.enable = true →
      ∃ t, exec (.channelRestart tag body) s = .next t ∧ AnswersWith (replyFrame 0x0A tag .done []) s t ∧
        delivered t 0x0A acquiring ∧
        t = { s with scu := t.scu, mlu := t.mlu, ps := t.ps, zt := t.zt, sl := t.sl, ct := t.ct, lc := t.lc
                     choices := t.choices }) ∧
    (c.settings.enable = false →
      exec (.channelRestart tag body) s = .next { s with lc := answered s.lc (replyFrame 0x0A tag .state []) })

/-- The reads with a clear flag: CHANNEL STATUS (R21), ZONE READ (R71) and COUNTERS READ (R136), taken. The reply carries the
fields as they stood; with the clear flag set, the channel's statistics, its two latched flags and its accumulated set are then
cleared, the entry's two statistics, or the eight histogram buckets and GAPS, the store being marked when a bucket held a
count; nothing else changes. The layout of the fields is R180's, with assumption log 12. -/
def Obligations.ReadsReturnAndThenClear : Prop :=
  ∀ (tag : Byte) (clear : Bool) (s : State),
    (∀ ch : Fin 6,
      let body : List Byte := [BitVec.ofNat 8 ch.val, BitVec.ofNat 8 clear.toNat]
      CommandAllowed 0x09 tag body .operator s →
      exec (.channelStatus tag body) s = .next { s with
        scu := if clear then s.scu.set ch { s.scu[ch] with
            stats := {}, chatterLatch := false, overrunLatch := false, accumulated := {} } else s.scu
        lc := answered s.lc (replyFrame 0x09 tag .done (channelFields ch s.scu[ch])) }) ∧
    (∀ k : Fin 16,
      let body : List Byte := [BitVec.ofNat 8 k.val, BitVec.ofNat 8 clear.toNat]
      CommandAllowed 0x1A tag body .operator s →
      exec (.zoneRead tag body) s = .next { s with
        zt := { s.zt with
          zones := if clear then s.zt.zones.set k { s.zt.zones[k] with intrusions := 0, cuts := 0 } else s.zt.zones }
        lc := answered s.lc (replyFrame 0x1A tag .done (zoneFields k s.zt.zones[k])) }) ∧
    (let body : List Byte := [BitVec.ofNat 8 clear.toNat]
     CommandAllowed 0x2A tag body .operator s →
      exec (.countersRead tag body) s = .next { s with
        em := if clear then { s.em with histogram := Vector.replicate 8 0, gaps := 0 } else s.em
        rs := if clear ∧ ∃ b : Fin 8, s.em.histogram[b] ≠ 0 then Rs.mark s.rs else s.rs
        lc := answered s.lc (replyFrame 0x2A tag .done (countersFields s)) })

/-! ## Machine lines and authority (spec 02) -/

/-- A reading that accepts no level change, and a cadence period that ends (R24, R33): every last sample becomes the sample read
and the next reading is 2 ms later; the sounder switches after 250 ms of PULSE, and after 60 ms on or 1940 ms off of CHIRP; and
nothing else changes. The moment of the next reading is the model's field (assumption log 3). -/
def Obligations.QuietReadingAndCadence : Prop :=
  ∀ (x : InputSamples) (len : Nat) (s : State), s.powered = true →
    ((s.lc.time - s.mlu.nextReading).toNat < 2147483648 →
      PerInput.any (PerInput.map₂ (fun (d : Debouncer) v => d.last == some v && v != d.level) s.mlu.inputs x) = false →
      exec (.inputReading x) s = .next { s with
        mlu := { s.mlu with
          inputs := PerInput.map₂ (fun (d : Debouncer) v => { d with last := some v }) s.mlu.inputs x
          nextReading := s.mlu.nextReading + 2 } }) ∧
    ((s.mlu.driven = .pulse ∧ len = 250 ∨ s.mlu.driven = .chirp ∧ len = (if s.mlu.sounder then 60 else 1940)) →
      len ≤ (s.lc.time - s.mlu.periodStart).toNat →
      exec .alarmCadence s = .next { s with
        mlu := { s.mlu with
          sounder := !s.mlu.sounder
          periodStart := s.mlu.periodStart + BitVec.ofNat 32 len } })

/-- A reading that accepts a level change (R24, R26 to R29, R64, R65, R72, R139 to R142, R144, R145): each input read the same
twice takes its sample as its level, every other keeps its level; and with the authority that of the keyed inputs before, it is
so after. A change of authority is noticed with both levels, and none is noticed otherwise; every SUSPENDED zone whose suspend
level is above the new level becomes ARMED with its RE_ARMED of cause AUTHORITY, and no other is noticed so; a TRAVEL accepted
as ACTIVE unanchors the SITE sector zones, with the state before or after that re-arming as the prior state; and every other
zone stays. An activity input that becomes ACTIVE restarts the idle timer in WORK and ECO, and makes AUTO_IDLE, SHUTDOWN_PENDING
and SHUTDOWN_ADVISED WORK, the timers and marks following and the cancel mark set after SHUTDOWN_ADVISED; a change of SEAT whose
delay has run out makes WORK and ECO AUTO_IDLE; a change of phase, which a reading makes to UNKNOWN or DIGGING alone, makes ECO
WORK; and STOPPED stays. A changed advice is handed over as ENGINE ADVICE, and none when nothing differs. (The moment of the
next reading is the model's field, assumption log 3; the events come in a free order, assumption log 7, so an activity and a
SEAT delay that has run out may change the advice and change it back. The premise that the seat-empty delay is not 0 is its
range, R137.) -/
def Obligations.LevelChangeTakesTwiceReadSamples : Prop :=
  ∀ (x : InputSamples) (s : State), s.powered = true → (s.lc.time - s.mlu.nextReading).toNat < 2147483648 →
    PerInput.any (PerInput.map₂ (fun (d : Debouncer) v => d.last == some v && v != d.level) s.mlu.inputs x) = true →
    let now := s.lc.time
    let rises (d : Debouncer) (v : Bool) : Prop := v = true ∧ d.last = some true ∧ d.level = false
    let travels := rises s.mlu.inputs.travel x.travel
    let active := rises s.mlu.inputs.pilotEnable x.pilotEnable ∨ rises s.mlu.inputs.joyLeft x.joyLeft ∨
      rises s.mlu.inputs.joyRight x.joyRight ∨ travels
    let seated := s.mlu.inputs.seat.last = some x.seat ∧ x.seat ≠ s.mlu.inputs.seat.level
    let runsOut := seated ∧ ¬(x.seat = true ∧ s.em.settings.idleDelay = 0) ∧ ∃ start ∈ s.em.idleTimer,
      (if x.seat then s.em.settings.idleDelay else s.em.settings.seatDelay) * 1000 ≤ (now - start).toNat
    ∃ t, exec (.inputLevelChange x) s = .next t ∧
      t.mlu.inputs = PerInput.map₂
        (fun (d : Debouncer) v => { level := if d.last = some v then v else d.level, last := some v }) s.mlu.inputs x ∧
      t.mlu.nextReading = s.mlu.nextReading + 2 ∧
      (s.mlu.authority = authorityOf s.mlu.inputs → t.mlu.authority = authorityOf t.mlu.inputs) ∧
      (t.mlu.authority ≠ s.mlu.authority →
        handedWithRoom (.authority s.mlu.authority t.mlu.authority s.lc.time) t.lc) ∧
      (t.mlu.authority = s.mlu.authority → NoneHanded 0x42 s.lc t.lc) ∧
      (let rearmed (z : Zone) : Prop := t.mlu.authority ≠ s.mlu.authority ∧ z.state = .suspended ∧
        t.mlu.authority.rank < z.record.suspendLevel.rank
       let reArmed (k : Fin 16) : Notice := .zoneEvent (.reArmed .authority) k (some .armed) s.lc.time
       (∀ k : Fin 16, s.zt.zones[k].held = none → t.zt.zones[k].held = none) ∧
       (∀ k : Fin 16, ∀ z ∈ s.zt.zones[k].held,
        let armed : Zone := { z with state := .armed }
        (¬travels → ¬rearmed z → t.zt.zones[k].held = some z) ∧
        (¬travels → rearmed z → t.zt.zones[k].held = some armed ∧ handedWithRoom (reArmed k) t.lc) ∧
        (travels → ¬rearmed z → t.zt.zones[k].held = some (travelledZone z)) ∧
        (travels → rearmed z → t.zt.zones[k].held = some (travelledZone z) ∨ t.zt.zones[k].held = some (travelledZone armed)) ∧
        (travels → rearmed z → t.zt.zones[k].held = some (travelledZone armed) → handedWithRoom (reArmed k) t.lc)) ∧
       ∀ (k : Fin 16) (state : Option ZoneState) (time : Stamp),
        let n : Notice := .zoneEvent (.reArmed .authority) k state time
        noticeHanded n t.lc → noticeHanded n s.lc ∨ (n = reArmed k ∧ ∃ z ∈ s.zt.zones[k].held, rearmed z)) ∧
      (AdviceStands s.em s.em.lastAdvice → AdviceStands t.em t.em.lastAdvice) ∧ AdviceHanded s t ∧
      (AdviceStands s.em s.em.lastAdvice → s.em.settings.seatDelay ≠ 0 → ¬(active ∧ runsOut) →
        t.em.lastAdvice = s.em.lastAdvice → NoneHanded 0x4A s.lc t.lc) ∧
      t.ps = s.ps ∧ t.scu = s.scu ∧ t.st = s.st ∧ t.em.settings = s.em.settings ∧ t.powered = true ∧
      (¬active → ¬seated → t.ct.phase = s.ct.phase → t.em = s.em) ∧
      (s.em.mode = .stopped → t.em = { s.em with lastAdvice := t.em.lastAdvice }) ∧
      (s.em.mode = .autoIdle ∨ s.em.mode = .shutdownPending ∨ s.em.mode = .shutdownAdvised →
        (¬active → t.em = { s.em with lastAdvice := t.em.lastAdvice }) ∧
        (active → s.em.settings.seatDelay ≠ 0 → t.em = { s.em with
          mode := .work, idleTimer := some now, shutdownTimer := .stopped, deferred := false, wait := .none
          cancel := decide (s.em.mode = .shutdownAdvised), failed := decide (s.em.mode ≠ .shutdownAdvised) && s.em.failed
          lastAdvice := t.em.lastAdvice })) ∧
      (s.em.mode = .work ∨ s.em.mode = .eco →
        let carriedOn := t.em.mode = if t.ct.phase = s.ct.phase then s.em.mode else .work
        (active → s.em.settings.seatDelay ≠ 0 → t.em.idleTimer = some now ∧ (t.em.mode = .work ∨ t.em.mode = .eco) ∧
          (¬runsOut → carriedOn) ∧ (s.em.mode = .work → t.em.mode = .work)) ∧
        (¬active → ¬runsOut → t.em.idleTimer = s.em.idleTimer ∧ carriedOn) ∧
        (¬active → runsOut → t.em.mode = .autoIdle ∧ t.em.idleTimer = none ∧ t.em.shutdownTimer = .running now ∧
          t.em.deferred = false))

/-- A reading that accepts TRAVEL alone as ACTIVE (R27, R65, R69, R72, R98, R127, R129): every SITE sector zone not yet
UNANCHORED becomes so with its state as the prior state, with a ZONE EVENT UNANCHORED that carries it, and every other zone
stays and is not noticed; the statistics of the entries stay, but for what the evaluation counts (R68, R70); the phase becomes
UNKNOWN and the weigh window is discarded; and the open load is closed as CLOSED_TRAVEL, with its LOAD EVENT CLOSED. (Where a
pass that came at the same moment was taken with the TRAVEL event before it, the event has closed its load already and only the
model's mark of that is cleared: assumption log 27.) -/
def Obligations.TravelUnanchorsAndCloses : Prop :=
  ∀ (x : InputSamples) (s : State), s.powered = true → (s.lc.time - s.mlu.nextReading).toNat < 2147483648 →
    PerInput.map₂ Debouncer.accepts s.mlu.inputs x =
      { pilotEnable := false, seat := false, joyLeft := false, joyRight := false, travel := true, supervisorKey := false
        servicePlug := false } →
    x.travel = true →
    ∃ t, exec (.inputLevelChange x) s = .next t ∧
      (∀ k : Fin 16, t.zt.zones[k].held = s.zt.zones[k].held.map travelledZone) ∧ (∀ k : Fin 16, StatisticsKept k s t) ∧
      (∀ k : Fin 16, ∀ z ∈ s.zt.zones[k].held, ∀ p : PriorState,
        z.state ≠ .unanchored p → (travelledZone z).state = .unanchored p → s.lc.notices.length ≤ 14 →
        noticeHanded (.zoneEvent (.unanchored p) k (some (.unanchored p)) s.lc.time) t.lc) ∧
      (∀ (k : Fin 16) (p : PriorState) (state : Option ZoneState) (time : Stamp),
        let n : Notice := .zoneEvent (.unanchored p) k state time
        noticeHanded n t.lc → noticeHanded n s.lc ∨ ∃ z ∈ s.zt.zones[k].held,
          z.state ≠ .unanchored p ∧ (travelledZone z).state = .unanchored p) ∧
      t.ct.phase = .unknown ∧ t.ct.window = none ∧ t.ct.run = s.ct.run ∧
      (s.lr.travelTaken = false → t.lr = withLoadClosed .closedTravel s.lc.time s.lr ∧
        ∀ n ∈ closedNotices .closedTravel s.lc.time s.lr, handedWithRoom n t.lc) ∧
      (s.lr.travelTaken = true → t.lr = { s.lr with travelTaken := false }) ∧
      t.mlu.authority = s.mlu.authority ∧ t.scu = s.scu ∧ t.ps = s.ps ∧ t.st = s.st ∧ t.rs = s.rs

/-! ## Geometry, pose and grade (spec 03) -/

/-- The stages of a pose stay in range: the rounding step is to nearest with an exact half upward and keeps a bound (R39); the
tilt of the boom plane is within 2897, the pitch at angle 0 and the roll at angle 16 384 (R43); the foot pin turned by 0 stays
and never leaves |Fx| + |Fz| (R44); and the tip of every computed pose lies within 30 000 mm (R45). -/
def Obligations.PoseStagesStayInRange : Prop :=
  (∀ x : Int, 16384 * round14 x ≤ x + 8192 ∧ x + 8192 < 16384 * (round14 x + 1)) ∧
  (∀ (m : Nat) (v : Int), v.natAbs ≤ m * 16384 → (round14 v).natAbs ≤ m) ∧
  (∀ (a : Angle) (pitch roll : Int), pitch.natAbs ≤ 2048 → roll.natAbs ≤ 2048 →
    boomPlaneTilt a pitch roll = round14 (pitch * cosine a + roll * sine a) ∧ (boomPlaneTilt a pitch roll).natAbs ≤ 2897 ∧
      boomPlaneTilt 0 pitch roll = pitch ∧ boomPlaneTilt 16384 pitch roll = roll) ∧
  (∀ (g : Geometry) (t : Int),
    footPin g t = (round14 (g.fx * cosine (angleOf t) - g.fz * sine (angleOf t)),
      round14 (g.fx * sine (angleOf t) + g.fz * cosine (angleOf t))) ∧
      footPin g 0 = (g.fx, g.fz) ∧ (footPin g t).1.natAbs ≤ g.fx.natAbs + g.fz.natAbs ∧
      (footPin g t).2.natAbs ≤ g.fx.natAbs + g.fz.natAbs) ∧
  ∀ (g : Geometry) (t boom stick bucket : Int),
    tipOf g t boom stick bucket =
      ((footPin g t).1 + round14 (g.lb * cosine (angleOf boom)) + round14 (g.ls * cosine (angleOf stick)) +
          round14 (g.lk * cosine (angleOf bucket)),
        (footPin g t).2 + round14 (g.lb * sine (angleOf boom)) + round14 (g.ls * sine (angleOf stick)) +
          round14 (g.lk * sine (angleOf bucket))) ∧
      (geometryValid g = true →
        (tipOf g t boom stick bucket).1.natAbs ≤ 30000 ∧ (tipOf g t boom stick bucket).2.natAbs ≤ 30000)

/-- POSE_COMPLETION (R40, R46 to R48, R50, R51, R53, R98 to R100, R102 to R104, R107, R111, R115, R139 to R142, R144). The pose
record takes the tip of the values used, the quality of the healths copied at the start, the grade error, part time and the next
count. The over-dig state is the one the pose gives, with a GRADE EVENT and the PS alarm slot moved at a change; a TIP REPORT
that is due is handed over and its stamp kept. The Slew Limiter and the Cycle Tracker hold that same pose; the phase makes the
one move its table gives, and the weigh window follows it; a dump counts one pass, none during a calibration run; and a pending
computation begins on the samples, healths and held values as they stand, emptying the FIFOs (R9, R41, R42), none otherwise. An
INVALID pose ends an active run FAILED as HARD with cause POSE: the step is READY, the waiting list empty, and the pressure
samples that waited are taken. Any other pose leaves the run, its step, its waiting list and those samples, but that the dump
hands the step an OPEN window of the run, closed with its weighed result. The Economy Manager takes the activity of the pose and
then its change of phase: an activity restarts the idle timer and wakes the mode to WORK; DUMPING and RETURNING make WORK ECO
while eco is enabled, any other phase makes ECO WORK; its marks and timers follow a change of mode; and a changed advice is
handed over (R145). (Which samples count under SUPERSEDED where a computation begins: assumption log 33.) -/
def Obligations.PoseCompletionHandsPose : Prop :=
  ∀ (c : Computation) (s : State), s.powered = true → s.ps.inFlight = some c →
    let pitch := clampTilt s.ps.held[4].a
    let roll := clampTilt s.ps.held[4].b
    let tilt := boomPlaneTilt (angleOf s.ps.held[3].a) pitch roll
    let tip := tipOf c.geometry tilt s.ps.held[0].a s.ps.held[1].a s.ps.held[2].a
    let clamped := decide (pitch ≠ s.ps.held[4].a ∨ roll ≠ s.ps.held[4].b)
    let g := s.ps.grade
    let target := -(g.depth : Int) + ((tip.1 - g.refReach) * g.slope).tdiv 1000
    let p : Pose :=
      { reach := tip.1, height := tip.2, slewAngle := angleOf s.ps.held[3].a, slewRate := s.ps.held[3].b
        boomAngle := s.ps.held[0].a, stickAngle := s.ps.held[1].a, bucketAngle := s.ps.held[2].a
        boomRate := s.ps.held[0].b, stickRate := s.ps.held[1].b, bucketRate := s.ps.held[2].b
        curl := (angleOf s.ps.held[1].a - angleOf s.ps.held[2].a).toInt, tilt := tilt
        gradeError := if g.on then some (max (-30000) (min 30000 (tip.2 - target))) else none
        quality :=
          if c.health[0] ≠ .live ∨ c.health[1] ≠ .live ∨ c.health[2] ≠ .live then .invalid
          else if c.health[3] ≠ .live ∨ c.health[4] ≠ .live ∨ c.usedDegraded = true ∨ clamped = true then .degraded
          else .good
        slewValid := decide (c.health[3] = .live), tiltClamped := clamped, stamp := s.lc.time, count := s.ps.pose.count + 1 }
    let overdigs := decide (p.quality ≠ .invalid ∧ ∃ e ∈ p.gradeError, e < -(g.tolerance : Int))
    let ended : Option OverdigEndCause :=
      if overdigs then none
      else if g.on = false then some .gradeOff else if p.quality = .invalid then some .invalid else some .risen
    let tipDue := s.ps.tipInterval ≠ 0 ∧
      s.ps.tipLast.all (fun l => decide (s.ps.tipInterval ≤ (s.lc.time - l).toNat)) = true
    let set := s.ct.settings
    let loaded := set.curlClosed ≤ p.curl ∧ (s.ct.run = none → (set.boomRise : Int) ≤ p.boomRate ∧
      ∃ f ∈ s.ct.force, (set.minLoadForce : Int) ≤ f - s.ct.fempty[reachBand s.ps.geometry p.reach])
    let swings := s.sl.settings.swingThreshold ≤ p.slewRate.natAbs
    let phase : Phase :=
      if p.quality = .invalid ∨ s.mlu.inputs.travel.level = true then .unknown
      else match s.ct.phase with
        | .unknown => .digging
        | .digging => if loaded then .loaded else .digging
        | .loaded => if p.curl ≤ set.curlOpen then .dumping else if swings then .swingLoaded else .loaded
        | .swingLoaded => if p.curl ≤ set.curlOpen then .dumping else .swingLoaded
        | .dumping => if p.height < set.digHeight then .digging else if swings then .returning else .dumping
        | .returning => if p.height < set.digHeight then .digging else .returning
    let active := swings ∨ 364 ≤ p.boomRate.natAbs ∨ 364 ≤ p.stickRate.natAbs ∨ 364 ≤ p.bucketRate.natAbs
    let woken : EngineMode :=
      if active ∧ (s.em.mode = .autoIdle ∨ s.em.mode = .shutdownPending ∨ s.em.mode = .shutdownAdvised) then .work
      else s.em.mode
    let unloads := phase = .dumping ∨ phase = .returning
    let mode : EngineMode :=
      if phase = s.ct.phase then woken
      else if woken = .work ∧ unloads ∧ s.em.settings.ecoEnable = true then .eco
      else if woken = .eco ∧ ¬unloads then .work
      else woken
    let idle : Ps := { s.ps with
      pose := p, inFlight := none, pendingStart := false, overdig := overdigs
      tipLast := if tipDue then some s.lc.time else s.ps.tipLast }
    ∃ t, exec .poseCompletion s = .next t ∧ t.ps = (if s.ps.pendingStart then begun s.scu idle else idle) ∧
      (∀ ch : Fin 6, ch ≠ 5 → t.scu[ch] = if s.ps.pendingStart then emptied s.scu[ch] else s.scu[ch]) ∧
      t.sl.pose = some p ∧ t.ct.pose = some p ∧
      t.mlu.slots.ps = (if overdigs = s.ps.overdig then s.mlu.slots.ps else if overdigs then .pulse else .off) ∧
      (overdigs ≠ s.ps.overdig → s.lc.notices.length ≤ 31 →
        noticeHanded (.gradeEvent ended p.reach p.height p.gradeError p.quality p.count p.stamp) t.lc) ∧
      (tipDue → s.lc.notices.length ≤ 30 →
        noticeHanded (.tipReport p.reach p.height p.slewAngle p.gradeError p.quality p.count) t.lc) ∧
      t.ct.phase = phase ∧
      t.ct.window = (if phase = .unknown ∨ (phase = .dumping ∧ s.ct.phase ≠ .dumping) then none
        else if phase = .swingLoaded ∧ s.ct.phase = .loaded then some {
          band := reachBand s.ps.geometry p.reach, length := set.windowLength, steadiness := set.steadiness, sum := 0, count := 0
          least := none, most := none, forRun := s.ct.run.isSome, result := none }
        else s.ct.window) ∧
      (let ends := p.quality = .invalid ∧ s.ct.run.isSome
       let handed : Option Window := s.ct.window.bind fun w =>
        if phase = .dumping ∧ s.ct.phase ≠ .dumping ∧ s.ct.run.isSome ∧ w.forRun = true ∧ w.result = none then
          some { w with result := some (weighedBy s.ct.fempty s.ct.gain w) }
        else none
       let moved : Ct := { s.ct with pose := some p, phase := phase, window := t.ct.window }
       let ended : State := withPressureTaken (endedRun moved) s
       (ends → t.ct = ended.ct ∧ t.ct.run = none ∧ t.ct.step = none ∧ t.ct.waiting = [] ∧
        t.scu[(5 : Fin 6)] = ended.scu[(5 : Fin 6)] ∧ t.scu[(5 : Fin 6)].fifo = []) ∧
       (¬ends → t.ct = { moved with
          step := s.ct.step.or handed
          waiting := if s.ct.step.isSome then s.ct.waiting ++ handed.toList else s.ct.waiting } ∧
        t.scu[(5 : Fin 6)] = s.scu[(5 : Fin 6)]) ∧
       (ends → s.lc.notices.length ≤ 11 → ∀ r ∈ s.ct.run,
        noticeHanded (.calibrationResult (RunKind.isGain r.kind) (.failed .hardPose) r.soft s.lc.time) t.lc)) ∧
      t.lr.passTotal = s.lr.passTotal + (if phase = .dumping ∧ s.ct.phase ≠ .dumping ∧ s.ct.run = none then 1 else 0) ∧
      t.em.mode = mode ∧ t.em.idleTimer = (if active ∧ s.em.mode ≠ .stopped then some s.lc.time else s.em.idleTimer) ∧
      (mode = s.em.mode → t.em.shutdownTimer = s.em.shutdownTimer ∧ t.em.deferred = s.em.deferred ∧ t.em.wait = s.em.wait ∧
        t.em.cancel = s.em.cancel ∧ t.em.failed = s.em.failed) ∧
      (mode ≠ s.em.mode → t.em.shutdownTimer = .stopped ∧ t.em.deferred = false ∧ t.em.wait = .none ∧
        t.em.cancel = decide (s.em.mode = .shutdownAdvised ∧ mode = .work) ∧
        t.em.failed = (decide (s.em.mode ≠ .shutdownAdvised) && s.em.failed)) ∧
      t.em.settings = s.em.settings ∧ t.em.copy = s.em.copy ∧
      (AdviceStands s.em s.em.lastAdvice → AdviceStands t.em t.em.lastAdvice) ∧ AdviceHanded s t ∧
      t.mlu.inputs = s.mlu.inputs ∧
      t.mlu.authority = s.mlu.authority ∧
      (∀ ch : Fin 6, t.scu[ch].health = s.scu[ch].health ∧ t.scu[ch].settings = s.scu[ch].settings) ∧
      (∀ k : Fin 16, t.zt.zones[k].held = s.zt.zones[k].held)

/-- GEOMETRY GET (R37): at any authority and with no field, the nine fields of the record as it stands, and nothing else. -/
def Obligations.GeometryGetReturnsRecord : Prop :=
  ∀ (tag : Byte) (s : State), CommandAllowed 0x11 tag [] .operator s →
    exec (.geometryGet tag []) s = .next { s with
      lc := answered s.lc (replyFrame 0x11 tag .done (beInt 2 s.ps.geometry.fx ++ beInt 2 s.ps.geometry.fz ++
        be 2 s.ps.geometry.lb ++ be 2 s.ps.geometry.ls ++ be 2 s.ps.geometry.lk ++ be 2 s.ps.geometry.ah ++
        be 2 s.ps.geometry.ar ++ be 2 s.ps.geometry.bandOrigin ++ be 2 s.ps.geometry.bandWidth)) }

/-- GEOMETRY SET taken (R9, R36, R40 to R42, R111, R115, R117): the record is replaced, the store marked when it differs, and a
computation pending, or begun with the new record and the values and healths of the channels, whose FIFOs it empties; the reply is
DONE. An active calibration run ends FAILED as HARD with cause SETTINGS: its CALIBRATION RESULT is handed over, the step is READY
and the waiting list empty, a window opened during the run counts for none, and the pressure samples that waited are taken. With no
run active the Cycle Tracker and the pressure channel stay as they are, and no notice is handed over. (Whether the record is
replaced before the end of the run lets waiting pressure samples be taken is free, assumption log 32; which samples count under
SUPERSEDED, assumption log 33.) -/
def Obligations.GeometrySetReplacesRecord : Prop :=
  ∀ (tag : Byte) (body : List Byte) (g : Geometry) (s : State), CommandAllowed 0x10 tag body .service s →
    body.length = 18 → geometrySet? body = some g →
    let done := replyFrame 0x10 tag .done []
    ∃ t, exec (.geometrySet tag body) s = .next t ∧ AnswersWith done s t ∧
      t.ps.geometry = g ∧ t.ct.run = none ∧ t.ct.fempty = s.ct.fempty ∧ t.ct.gain = s.ct.gain ∧
      (s.ct.run = none → t.ct = s.ct ∧ t.scu[(5 : Fin 6)] = s.scu[(5 : Fin 6)] ∧ t.lc = answered s.lc done ∧
        t.choices = s.choices) ∧
      (∀ r, s.ct.run = some r → t.ct.step = none ∧ t.ct.waiting = [] ∧
        (∃ record, (record = g ∨ record = s.ps.geometry) ∧
          let ended : State := withPressureTaken (endedRun s.ct) { s with ps := { s.ps with geometry := record } }
          t.ct = ended.ct ∧ t.scu[(5 : Fin 6)] = ended.scu[(5 : Fin 6)]) ∧
        t.lc = answered
          (queueNotice (.calibrationResult (RunKind.isGain r.kind) (.failed .hardSettings) r.soft s.lc.time) s).lc done) ∧
      t.rs = (if g = s.ps.geometry then s.rs else Rs.mark s.rs) ∧
      t.ps = (if s.ps.inFlight.isSome then { s.ps with geometry := g, pendingStart := true }
        else begun s.scu { s.ps with geometry := g }) ∧
      (∀ ch : Fin 6, ch ≠ 5 → t.scu[ch] = if s.ps.inFlight.isSome then s.scu[ch] else emptied s.scu[ch]) ∧
      (∀ ch : Fin 6, t.scu[ch].health = s.scu[ch].health ∧ t.scu[ch].settings = s.scu[ch].settings) ∧
      t = { s with scu := t.scu, ps := t.ps, ct := t.ct, rs := t.rs, lc := t.lc, choices := t.choices }

/-- GRADE SET and TIP SUBSCRIBE taken (R9, R40 to R42, R49, R52): the grade record is stored, and read by the computation in flight
or by one begun at once, which takes the values and healths of the channels and empties their FIFOs (which samples count under
SUPERSEDED: assumption log 33); the tip interval is 0 for 0, else the request brought into 20..1000, the stamp of the last report is
cleared, and the reply carries the interval. -/
def Obligations.GradeAndTipIntervalStored : Prop :=
  (∀ (tag : Byte) (body : List Byte) (g : Grade) (s : State), CommandAllowed 0x12 tag body .operator s →
    body.length = 9 → gradeSet? body = some g →
    (s.ps.inFlight.isSome → exec (.gradeSet tag body) s = .next { s with
      ps := { s.ps with grade := g }
      lc := answered s.lc (replyFrame 0x12 tag .done []) }) ∧
    (s.ps.inFlight = none → exec (.gradeSet tag body) s = .next { s with
      scu := fifosEmptied s.scu
      ps := begun s.scu { s.ps with grade := g }
      lc := answered s.lc (replyFrame 0x12 tag .done []) })) ∧
  ∀ (tag hi lo : Byte) (s : State), CommandAllowed 0x13 tag [hi, lo] .operator s →
    let request := hi.toNat * 256 + lo.toNat
    let interval := if request = 0 then 0 else if request < 20 then 20 else if 1000 < request then 1000 else request
    exec (.tipSubscribe tag [hi, lo]) s = .next { s with
      ps := { s.ps with tipInterval := interval, tipLast := none }
      lc := answered s.lc (replyFrame 0x13 tag .done (be 2 interval)) }

/-! ## The zone table (spec 04) -/

/-- Sector and reach band of a zone (R58): an angle lies in the sector when the extent is 0 or its distance from the start,
mod 65 536, is less than the extent; the start and the end angle lie in it; an extent of 65 535 covers every angle but the one
before the start; the reach band is closed, and a reach below 0 lies in none; and the height band is closed, widened by the
height margin where the Slew Limiter judges whether a KEEP_OUT zone applies (R80). -/
def Obligations.SectorHoldsItsAngles : Prop :=
  ∀ (z : ZoneRecord) (a : Angle) (r : Int), z.extent ≤ 65535 →
    (z.inSector a = true ↔ z.extent = 0 ∨ (a - z.start).toNat < z.extent) ∧
      z.inSector z.start = true ∧ z.inSector (z.start + BitVec.ofNat 16 z.extent - 1) = true ∧
      (z.extent = 65535 → (z.inSector a = false ↔ a = z.start - 1)) ∧
      (z.inReachBand r = true ↔ 0 ≤ r ∧ z.rmin ≤ r ∧ r ≤ z.rmax) ∧
      (z.kind = .keepOut → ∀ p : Pose, p.quality ≠ .invalid →
        (zoneApplies z p = true ↔
          (0 ≤ p.reach ∧ z.rmin ≤ p.reach ∧ p.reach ≤ z.rmax) ∧
            z.hmin - z.heightMargin ≤ p.height ∧ p.height ≤ z.hmax + z.heightMargin))

/-- ZONE WRITE and ZONE CLEAR taken (R59 to R61, R69, R70): the entry holds the record in the state its flag gives, or is EMPTY,
with both statistics 0 and the zone new to the Slew Limiter, whose evaluation of the new content (R68, R91) then counts an
intrusion that begins and the lines newly cut; every other entry holds what it held, with its statistics but for what that
evaluation counts; the store is marked when the record differs; the reply carries the index and the state. A protected entry
below SERVICE is refused with AUTHORITY, a SITE sector zone while TRAVEL reads ACTIVE with STATE, and a clearing of an EMPTY
entry changes nothing. A ZONE WRITE of kind EMPTY is a ZONE CLEAR in all of this. -/
def Obligations.ZoneWriteAndClearReplaceEntry : Prop :=
  ∀ (tag : Byte) (body : List Byte) (k : Fin 16) (s : State),
    let protectedEntry := s.mlu.authority ≠ .service ∧
      ∃ z ∈ s.zt.zones[k].held, z.record.suspendLevel = .service ∨ z.record.suspendLevel = .never
    (∀ z, CommandAllowed 0x18 tag body .supervisor s → zoneWriteLength body = true →
      zoneWrite? body = some (k, some z) →
      (protectedEntry → exec (.zoneWrite tag body) s = .next { s with
        lc := answered s.lc (replyFrame 0x18 tag .authority []) }) ∧
      (¬protectedEntry → z.anchor = .site → z.extent ≠ 0 → s.mlu.inputs.travel.level = true →
        exec (.zoneWrite tag body) s = .next { s with lc := answered s.lc (replyFrame 0x18 tag .state []) }) ∧
      (¬protectedEntry → ¬(z.anchor = .site ∧ z.extent ≠ 0 ∧ s.mlu.inputs.travel.level = true) →
        ∃ t, exec (.zoneWrite tag body) s = .next t ∧
          AnswersWith (replyFrame 0x18 tag .done (be 1 k.val ++ be 1 (if z.armAtStart then 2 else 1))) s t ∧
          t.zt.zones[k].held = some { record := z, state := if z.armAtStart then .armed else .dormant } ∧
          ZoneCounted k false 0 0 s t ∧
          (∀ j : Fin 16, j ≠ k → t.zt.zones[j].held = s.zt.zones[j].held ∧ StatisticsKept j s t) ∧
          t.rs = (if s.zt.zones[k].held.map Zone.record = some z then s.rs else Rs.mark s.rs) ∧
          t.mlu.inputs = s.mlu.inputs ∧ t.mlu.authority = s.mlu.authority ∧
          t = { s with mlu := t.mlu, zt := t.zt, sl := t.sl, rs := t.rs, lc := t.lc, choices := t.choices })) ∧
    let clears (c : Instr) (kind : Byte) : Prop :=
      (protectedEntry → exec c s = .next { s with lc := answered s.lc (replyFrame kind tag .authority []) }) ∧
      (s.zt.zones[k].held = none → exec c s = .next { s with
        lc := answered s.lc (replyFrame kind tag .done (be 1 k.val ++ be 1 0)) }) ∧
      (¬protectedEntry → s.zt.zones[k].held.isSome →
        ∃ t, exec c s = .next t ∧
          AnswersWith (replyFrame kind tag .done (be 1 k.val ++ be 1 0)) s t ∧
          t.zt.zones[k] = { held := none, intrusions := 0, cuts := 0 } ∧
          (∀ j : Fin 16, j ≠ k → t.zt.zones[j].held = s.zt.zones[j].held ∧ StatisticsKept j s t) ∧ t.rs = Rs.mark s.rs ∧
          t.mlu.inputs = s.mlu.inputs ∧ t.mlu.authority = s.mlu.authority ∧
          t = { s with mlu := t.mlu, zt := t.zt, sl := t.sl, rs := t.rs, lc := t.lc, choices := t.choices })
    (let index : List Byte := [BitVec.ofNat 8 k.val]
     CommandAllowed 0x19 tag index .supervisor s → clears (.zoneClear tag index) 0x19) ∧
    (CommandAllowed 0x18 tag body .supervisor s → zoneWriteLength body = true → u8 body 0 = k.val → u8 body 1 = 0 →
      clears (.zoneWrite tag body) 0x18)

/-- ZONE SUSPEND and ZONE RESUME (R62, R63): an ARMED zone is suspended at or above its level, a DORMANT or SUSPENDED zone armed
at or above its level (SERVICE for NEVER), with the entries' contents otherwise as they were, and their statistics but for what
the evaluation counts (R68, R70); below the level AUTHORITY, in the other states STATE; and a zone already there is answered
DONE with nothing changed. (That this last DONE carries the index and the state is the model's choice, assumption log 28: R62
and R63 name those fields for the zone that changes.) -/
def Obligations.SuspendAndResumeMoveZone : Prop :=
  ∀ (tag : Byte) (k : Fin 16) (s : State),
    let body : List Byte := [BitVec.ofNat 8 k.val]
    (CommandAllowed 0x1B tag body .operator s →
      ((∀ z ∈ s.zt.zones[k].held, z.state = .dormant ∨ ∃ p, z.state = .unanchored p) →
        exec (.zoneSuspend tag body) s = .next { s with lc := answered s.lc (replyFrame 0x1B tag .state []) }) ∧
      ∀ z ∈ s.zt.zones[k].held,
        (z.state = .suspended → exec (.zoneSuspend tag body) s = .next { s with
          lc := answered s.lc (replyFrame 0x1B tag .done (be 1 k.val ++ be 1 3)) }) ∧
        (z.state = .armed → s.mlu.authority.rank < z.record.suspendLevel.rank →
          exec (.zoneSuspend tag body) s = .next { s with lc := answered s.lc (replyFrame 0x1B tag .authority []) }) ∧
        (z.state = .armed → z.record.suspendLevel.rank ≤ s.mlu.authority.rank →
          ∃ t, exec (.zoneSuspend tag body) s = .next t ∧
            AnswersWith (replyFrame 0x1B tag .done (be 1 k.val ++ be 1 3)) s t ∧
            t.zt.zones[k].held = some { z with state := .suspended } ∧
            (∀ j : Fin 16, j ≠ k → t.zt.zones[j].held = s.zt.zones[j].held) ∧ (∀ j : Fin 16, StatisticsKept j s t) ∧
            t.mlu.inputs = s.mlu.inputs ∧ t.mlu.authority = s.mlu.authority ∧
            t = { s with mlu := t.mlu, zt := t.zt, sl := t.sl, lc := t.lc, choices := t.choices })) ∧
    (CommandAllowed 0x1C tag body .operator s →
      ((∀ z ∈ s.zt.zones[k].held, ∃ p, z.state = .unanchored p) →
        exec (.zoneResume tag body) s = .next { s with lc := answered s.lc (replyFrame 0x1C tag .state []) }) ∧
      ∀ z ∈ s.zt.zones[k].held,
        (z.state = .armed → exec (.zoneResume tag body) s = .next { s with
          lc := answered s.lc (replyFrame 0x1C tag .done (be 1 k.val ++ be 1 2)) }) ∧
        ((z.state = .dormant ∨ z.state = .suspended) → s.mlu.authority.rank < min 2 z.record.suspendLevel.rank →
          exec (.zoneResume tag body) s = .next { s with lc := answered s.lc (replyFrame 0x1C tag .authority []) }) ∧
        ((z.state = .dormant ∨ z.state = .suspended) → min 2 z.record.suspendLevel.rank ≤ s.mlu.authority.rank →
          ∃ t, exec (.zoneResume tag body) s = .next t ∧
            AnswersWith (replyFrame 0x1C tag .done (be 1 k.val ++ be 1 2)) s t ∧
            t.zt.zones[k].held = some { z with state := .armed } ∧
            (∀ j : Fin 16, j ≠ k → t.zt.zones[j].held = s.zt.zones[j].held) ∧ (∀ j : Fin 16, StatisticsKept j s t) ∧
            t.mlu.inputs = s.mlu.inputs ∧ t.mlu.authority = s.mlu.authority ∧
            t = { s with mlu := t.mlu, zt := t.zt, sl := t.sl, lc := t.lc, choices := t.choices }))

/-- REANCHOR (R66, R67, R69, R72): refused with STATE while TRAVEL reads ACTIVE; otherwise every UNANCHORED zone has its start
turned by the offset and takes its prior state back, a SUSPENDED one only at or below the authority and ARMED otherwise, with a
ZONE EVENT RE_ARMED of cause REANCHOR for that one and for no other; no other entry's zone changes, none is left UNANCHORED, the
statistics stay but for what the evaluation counts (R68, R70), and the store is marked when a start angle changed. -/
def Obligations.ReanchorRestoresZones : Prop :=
  ∀ (tag hi lo : Byte) (s : State), CommandAllowed 0x1D tag [hi, lo] .supervisor s →
    let delta : Angle := BitVec.ofNat 16 (hi.toNat * 256 + lo.toNat)
    let count := s.zt.zones.toList.countP ZoneEntry.isUnanchored
    (s.mlu.inputs.travel.level = true → exec (.reanchor tag [hi, lo]) s = .next { s with
      lc := answered s.lc (replyFrame 0x1D tag .state []) }) ∧
    (s.mlu.inputs.travel.level = false → ∃ t, exec (.reanchor tag [hi, lo]) s = .next t ∧
      AnswersWith (replyFrame 0x1D tag .done (be 2 delta.toNat ++ be 1 count)) s t ∧
      (∀ k : Fin 16, t.zt.zones[k].held = s.zt.zones[k].held.map fun z =>
        match z.state with
        | .unanchored p =>
          { record := { z.record with start := z.record.start + delta }
            state := match p with
              | .dormant => .dormant
              | .armed => .armed
              | .suspended => if z.record.suspendLevel.rank ≤ s.mlu.authority.rank then .suspended else .armed }
        | _ => z) ∧
      (let arms (z : Zone) : Prop := z.state = .unanchored .suspended ∧ s.mlu.authority.rank < z.record.suspendLevel.rank
       let reArmed (k : Fin 16) : Notice := .zoneEvent (.reArmed .reanchor) k (some .armed) s.lc.time
       (s.lc.notices.length ≤ 16 → ∀ k : Fin 16, ∀ z ∈ s.zt.zones[k].held, arms z → noticeHanded (reArmed k) t.lc) ∧
       ∀ (k : Fin 16) (state : Option ZoneState) (time : Stamp),
        let n : Notice := .zoneEvent (.reArmed .reanchor) k state time
        noticeHanded n t.lc → noticeHanded n s.lc ∨ (n = reArmed k ∧ ∃ z ∈ s.zt.zones[k].held, arms z)) ∧
      (0 < count → t.zt.unanchored = 0) ∧ (∀ k : Fin 16, StatisticsKept k s t) ∧
      t.rs = (if count = 0 ∨ delta = 0 then s.rs else Rs.mark s.rs) ∧
      t.mlu.inputs = s.mlu.inputs ∧ t.mlu.authority = s.mlu.authority ∧
      t = { s with mlu := t.mlu, zt := t.zt, sl := t.sl, rs := t.rs, lc := t.lc, choices := t.choices })

/-! ## Slew and envelope limiting (spec 05) -/

/-- SLEW SETTINGS taken (R76 to R91): the three values are stored and returned, the store is marked when one differs, and the
Slew Limiter evaluates on the pose in use, if any. The evaluation holds a slew cut of a zone that takes part when it is called
for, or was held, is called for with the release hysteresis added, and the motion has not reversed; it leaves the Slew Limiter
settled. An intrusion that begins is counted and both its ends are noticed; a line newly in the cut set counts one cut against
each zone among its causes; and a change of the slew state or the cut set is noticed, none queued otherwise. The pose in use,
the zones held, the inputs and the authority stay. (The order of the notices of several zones is free, assumption log 8.) -/
def Obligations.SlewSettingsStored : Prop :=
  ∀ (tag : Byte) (body : List Byte) (new : SlewSettings) (s : State), CommandAllowed 0x1E tag body .service s →
    body.length = 6 → slewSettings? body = some new →
    ∃ t, exec (.slewSettings tag body) s = .next t ∧
      AnswersWith (replyFrame 0x1E tag .done
        (be 2 new.deceleration ++ be 2 new.hysteresis ++ be 2 new.swingThreshold)) s t ∧
      t.sl.settings = new ∧ t.sl.pose = s.sl.pose ∧ t.sl.health = s.sl.health ∧ t.sl.turns = s.sl.turns ∧
      t.sl.travel = s.sl.travel ∧ t.rs = (if new = s.sl.settings then s.rs else Rs.mark s.rs) ∧
      (∀ k : Fin 16, t.zt.zones[k].held = s.zt.zones[k].held) ∧
      t.mlu.inputs = s.mlu.inputs ∧ t.mlu.authority = s.mlu.authority ∧
      t = { s with mlu := t.mlu, zt := t.zt, sl := t.sl, rs := t.rs, lc := t.lc, choices := t.choices } ∧
      (s.sl.pose = none → t.mlu = s.mlu ∧ t.zt = s.zt ∧ t.sl = { s.sl with settings := new }) ∧
      ∀ p, s.sl.pose = some p →
        let lead := leadOf t.sl p
        SlewSettled t p ∧
        (∀ k : Fin 16, ∀ z ∈ s.zt.zones[k].takingPart, ∀ d : Side,
          (heldMark t.sl.marks[k] d = true ↔
            CutCalled t.sl p z lead d ∨
              (heldMark s.sl.marks[k] d = true ∧ CutCalled t.sl p z (lead + new.hysteresis) d ∧
                match d with
                | .left => 0 ≤ p.slewRate
                | .right => p.slewRate ≤ 0))) ∧
        (∀ k : Fin 16,
          let before := s.sl.marks[k].intrusion
          let now := t.sl.marks[k].intrusion
          StatisticsKept k s t ∧
          (s.lc.notices.length ≤ 15 →
            (now = true → before = false → ∀ z ∈ s.zt.zones[k].held, noticeHanded
              (.zoneEvent (.intrusion z.record.kind p.slewAngle p.reach p.height p.count) k (some z.state) s.lc.time) t.lc) ∧
            (now = false → before = true → noticeHanded
              (.zoneEvent (.intrusionEnd (
                  if (s.zt.zones[k].held.map Zone.state) ≠ some .armed then .disarmed
                  else if p.quality = .invalid ∨ s.sl.health ≠ .live ∨ p.slewValid = false then .unknown
                  else .cleared) p.count)
                k (s.zt.zones[k].held.map Zone.state) s.lc.time) t.lc))) ∧
        (t.sl.state ≠ s.sl.state ∨ t.sl.cutSet ≠ s.sl.cutSet → s.lc.notices.length ≤ 15 →
          noticeHanded (.slewState {
            previous := s.sl.state, new := t.sl.state, cutSet := t.sl.cutSet, causes := t.sl.causes
            lead := lead, angle := p.slewAngle, rate := p.slewRate
            valid := decide (s.sl.health = .live ∧ p.slewValid = true), poseCount := p.count, stamp := s.lc.time }) t.lc) ∧
        (t.sl.state = s.sl.state → t.sl.cutSet = s.sl.cutSet → noticesOfKind 0x44 t.lc ≤ noticesOfKind 0x44 s.lc)

/-! ## The dig cycle and payload weighing (spec 06) -/

/-- CYCLE SETTINGS (R95, R111, R115, R117): READ returns the settings and the tables and changes nothing; WRITE stores the
settings, marks the store when one differs, and writes no table. A WRITE ends an active run FAILED as HARD with cause SETTINGS: its
CALIBRATION RESULT is handed over, the step is READY and the waiting list empty, a window opened during the run counts for none,
and the pressure samples that waited are taken. With no run active nothing else changes. The layout of the reply is R180's, with
assumption log 12. -/
def Obligations.CycleSettingsReadAndWrite : Prop :=
  ∀ (tag : Byte) (body : List Byte) (s : State), CommandAllowed 0x20 tag body .service s →
    (body = [0] → exec (.cycleSettings tag body) s = .next { s with
      lc := answered s.lc (replyFrame 0x20 tag .done
        (cycleSettingsBytes s.ct.settings ++ calibrationBytes s.ct.fempty s.ct.gain)) }) ∧
    ∀ c, body.length = 19 → cycleSettings? body = some (.write c) →
      let done := replyFrame 0x20 tag .done (cycleSettingsBytes c ++ calibrationBytes s.ct.fempty s.ct.gain)
      let written : Ct := { s.ct with settings := c }
      let marked : Rs := if c = s.ct.settings then s.rs else Rs.mark s.rs
      (s.ct.run = none → exec (.cycleSettings tag body) s = .next { s with
        ct := written, rs := marked, lc := answered s.lc done }) ∧
      ∀ r, s.ct.run = some r →
        let ended : State := withRunEnded r (.failed .hardSettings) written s
        exec (.cycleSettings tag body) s = .next { ended with rs := marked, lc := answered ended.lc done } ∧
          ended.ct.settings = c ∧ ended.ct.run = none ∧ ended.ct.step = none ∧ ended.ct.waiting = [] ∧
          ended.ct.fempty = s.ct.fempty ∧ ended.ct.gain = s.ct.gain ∧ ended.ct.phase = s.ct.phase ∧ ended.ct.pose = s.ct.pose

/-- CALIBRATE EMPTY, CALIBRATE GAIN and CALIBRATE CANCEL (R109, R110, R116): a run begins with no soft error, refused with STATE
while one is active or the pressure channel is not LIVE; a cancel ends the active run as CANCELLED, handing over its CALIBRATION
RESULT, with no table written, its step abandoned, no window waiting and the pressure samples that waited taken (R111, R117), and is
refused with STATE when none is active. -/
def Obligations.CalibrationRunsStartAndCancel : Prop :=
  ∀ (tag : Byte) (s : State),
    (∀ bands : Byte, bands ≠ 0 → CommandAllowed 0x21 tag [bands] .supervisor s →
      (s.ct.run = none ∧ s.ct.health = .live → exec (.calibrateEmpty tag [bands]) s = .next { s with
        ct := { s.ct with run := some { kind := .empty bands (Vector.replicate 8 []), soft := 0 } }
        lc := answered s.lc (replyFrame 0x21 tag .accepted []) }) ∧
      (s.ct.run ≠ none ∨ s.ct.health ≠ .live → exec (.calibrateEmpty tag [bands]) s = .next { s with
        lc := answered s.lc (replyFrame 0x21 tag .state []) })) ∧
    (∀ hi lo : Byte, 1000 ≤ hi.toNat * 256 + lo.toNat → hi.toNat * 256 + lo.toNat ≤ 65000 →
      CommandAllowed 0x22 tag [hi, lo] .supervisor s →
      (s.ct.run = none ∧ s.ct.health = .live → exec (.calibrateGain tag [hi, lo]) s = .next { s with
        ct := { s.ct with run := some { kind := .gain (hi.toNat * 256 + lo.toNat), soft := 0 } }
        lc := answered s.lc (replyFrame 0x22 tag .accepted []) }) ∧
      (s.ct.run ≠ none ∨ s.ct.health ≠ .live → exec (.calibrateGain tag [hi, lo]) s = .next { s with
        lc := answered s.lc (replyFrame 0x22 tag .state []) })) ∧
    (CommandAllowed 0x23 tag [] .operator s →
      (s.ct.run = none → exec (.calibrateCancel tag []) s = .next { s with
        lc := answered s.lc (replyFrame 0x23 tag .state []) }) ∧
      ∀ r, s.ct.run = some r →
        let ended : State := withRunEnded r .cancelled s.ct s
        exec (.calibrateCancel tag []) s = .next { ended with
          lc := answered (queueNotice (.calibrationResult (RunKind.isGain r.kind) .cancelled r.soft s.lc.time) s).lc
            (replyFrame 0x23 tag .done []) } ∧
          ended.ct.run = none ∧ ended.ct.step = none ∧ ended.ct.waiting = [] ∧ ended.ct.fempty = s.ct.fempty ∧
          ended.ct.gain = s.ct.gain ∧ ended.ct.settings = s.ct.settings ∧ ended.ct.phase = s.ct.phase)

/-- A soft error at the end of a calibration step (R114): the count goes up by one; with stop-on-soft the run ends FAILED with
SOFT_STOP, else the seventh ends it FAILED with SOFT_LIMIT, each with its CALIBRATION RESULT, and the run goes on with the new count
before; no table entry is written. Where the run ends, the step is READY, the waiting list empty and the pressure samples that
waited are taken; where it goes on, the next waiting window begins a step, or with none the step is READY and those samples are
taken (R111, R117). A soft error is a window the run's kind does not find GOOD: in a band of the set for EMPTY (R112), in any band
for GAIN, where a lifted force not above 0 is one too (R113). -/
def Obligations.SoftErrorsEndRun : Prop :=
  ∀ (r : Run) (w : Window) (s : State), s.powered = true → s.ct.run = some r → s.ct.step = some w →
    (match r.kind with
      | .empty bands _ => bands.getLsbD w.band.val = true ∧ Window.emptyQuality w ≠ .good
      | .gain _ => ∀ x ∈ w.result, x.quality = .good → ∀ d ∈ x.lifted, d ≤ 0) →
    let counted : Run := { r with soft := r.soft + 1 }
    let gone : Ct := { s.ct with run := some counted }
    ∃ t, exec .calibrationStepEnd s = .next t ∧ t.ct.fempty = s.ct.fempty ∧ t.ct.gain = s.ct.gain ∧
      (s.ct.settings.stopOnSoft = true → t = withRunEnded counted (.failed .softStop) s.ct s ∧
        t.ct.run = none ∧ t.ct.step = none ∧ t.ct.waiting = []) ∧
      (s.ct.settings.stopOnSoft = false → 7 ≤ r.soft + 1 → t = withRunEnded counted (.failed .softLimit) s.ct s ∧
        t.ct.run = none ∧ t.ct.step = none ∧ t.ct.waiting = []) ∧
      (s.ct.settings.stopOnSoft = false → r.soft + 1 < 7 →
        (∀ next rest, s.ct.waiting = next :: rest →
          t = { s with ct := { gone with step := some next, waiting := rest } }) ∧
        (s.ct.waiting = [] → t = withPressureTaken { gone with step := none } s ∧ t.ct.run = some counted))

/-- A GOOD window at the end of a calibration step (R108, R111 to R113, R117). With a lifted force above 0 it ends a GAIN run: the
band's gain becomes the known load × 65 536 over the lifted force, rounded to nearest with an exact half up and clamped to
1..65 535, and the run ends DONE with a notice that carries the band and that gain. In an EMPTY run it adds its mean force to the
collection of its band, one of the set with fewer than two; when every band of the set has two, each one's Fempty becomes their sum
over 2, truncated toward zero, and the run ends DONE with a notice that carries the set and the new entries, ascending; else the run
goes on and no table is written. No other entry changes, and the store is marked when one differs. A window of a band outside the
set, and a GOOD one of a band with two, leave an EMPTY run as it is. Where the run ends, the step is READY, the waiting list empty
and the pressure samples that waited are taken; where it goes on, the next waiting window begins a step, or with none the step is
READY and those samples are taken. -/
def Obligations.GoodWindowWritesGain : Prop :=
  (∀ (soft load : Nat) (d : Int) (w : Window) (x : Weighed) (s : State), s.powered = true →
    s.ct.run = some { kind := .gain load, soft := soft } → s.ct.step = some w → w.result = some x → x.quality = .good →
    x.lifted = some d → 0 < d →
    ∃ t, exec .calibrationStepEnd s = .next t ∧
      (t.ct.gain[w.band] : Int) = max 1 (min 65535 ((2 * (load * 65536) + d) / (2 * d))) ∧
      (∀ b : Fin 8, b ≠ w.band → t.ct.gain[b] = s.ct.gain[b]) ∧ t.ct.fempty = s.ct.fempty ∧ t.ct.run = none ∧
      t.ct.step = none ∧ t.ct.waiting = [] ∧
      t = { (withRunEnded { kind := .gain load, soft := soft } (.done (1 <<< w.band.val) [(t.ct.gain[w.band] : Int)])
          { s.ct with gain := t.ct.gain } s) with
        rs := if t.ct.gain = s.ct.gain then s.rs else Rs.mark s.rs }) ∧
  ∀ (soft : Nat) (bands : Byte) (collected : Vector (List Int) 8) (w : Window) (s : State), s.powered = true →
    s.ct.run = some { kind := .empty bands collected, soft := soft } → s.ct.step = some w →
    let inSet (b : Fin 8) : Prop := bands.getLsbD b.val = true
    let good := 4 ≤ w.count ∧ w.most.getD 0 - w.least.getD 0 ≤ w.steadiness ∧ w.length ≤ w.count
    let grown := collected.set w.band (collected[w.band] ++ [w.sum.tdiv w.count])
    let whole := ∀ b : Fin 8, inSet b → grown[b].length = 2
    (inSet w.band → good → collected[w.band].length < 2 → whole → ∃ t, exec .calibrationStepEnd s = .next t ∧
      (∀ b : Fin 8, inSet b → t.ct.fempty[b] = grown[b].sum.tdiv 2) ∧
      (∀ b : Fin 8, ¬inSet b → t.ct.fempty[b] = s.ct.fempty[b]) ∧ t.ct.gain = s.ct.gain ∧ t.ct.run = none ∧
      t.ct.step = none ∧ t.ct.waiting = [] ∧
      t = { (withRunEnded { kind := .empty bands grown, soft := soft }
          (.done bands (((List.finRange 8).filter fun b => bands.getLsbD b.val).map fun b => t.ct.fempty[b]))
          { s.ct with fempty := t.ct.fempty } s) with
        rs := if t.ct.fempty = s.ct.fempty then s.rs else Rs.mark s.rs }) ∧
    (¬inSet w.band ∨ (good ∧ ¬(collected[w.band].length < 2 ∧ whole)) →
      let left : Run :=
        { kind := .empty bands (if inSet w.band ∧ collected[w.band].length < 2 then grown else collected), soft := soft }
      let gone : Ct := { s.ct with run := some left }
      (∀ next rest, s.ct.waiting = next :: rest →
        exec .calibrationStepEnd s = .next { s with ct := { gone with step := some next, waiting := rest } }) ∧
      (s.ct.waiting = [] → exec .calibrationStepEnd s = .next (withPressureTaken { gone with step := none } s)))

/-- The reach band (R97): the floored quotient of the reach less the band origin by the band width, clamped to 0..7; with the
default record reaches below 4500 give band 0, from 13 500 band 7, and 7893 band 3; below the origin the band is 0. A window
takes the band of the pose at its opening (R102), and the force test that of the pose being tested (R100). -/
def Obligations.ReachBandIsFlooredQuotient : Prop :=
  ∀ (g : Geometry) (r : Int), 0 < g.bandWidth →
    ((reachBand g r).val : Int) = max 0 (min 7 ((r - g.bandOrigin).fdiv g.bandWidth)) ∧
      (r < g.bandOrigin → reachBand g r = 0) ∧
      (r < 4500 → reachBand Geometry.default r = 0) ∧ (13500 ≤ r → reachBand Geometry.default r = 7) ∧
      reachBand Geometry.default 7893 = 3 ∧
      ∀ (s : State) (p : Pose), (newWindow s p).band = reachBand s.ps.geometry p.reach ∧
        (loadTest s p = true ↔ s.ct.settings.curlClosed ≤ p.curl ∧
          (s.ct.run = none → (s.ct.settings.boomRise : Int) ≤ p.boomRate ∧
            ∃ f ∈ s.ct.force, (s.ct.settings.minLoadForce : Int) ≤
              f - s.ct.fempty[reachBand s.ps.geometry p.reach]))

/-! ## Truck loads (spec 07) -/

/-- TRUCK CLASS SET and LOAD NEXT taken (R119, R120): READ returns the table; WRITE stores one entry and marks the store when it
differs, refused with STATE where it would unset the next class; LOAD NEXT of an unused class is refused with BAD_FIELD, and
otherwise sets the next class, and with the re-class flag gives an open load the class, its figures and its two flags settled
afresh, and hands over the LOAD EVENT RECLASSED, then AT_TARGET and OVERLOADED for a flag it sets. (That RECLASSED carries the
two flags as they stood, and AT_TARGET the OVERLOADED flag already cleared, is the model's choice, assumption log 35.) The
layout of the reply is R180's, with assumption log 12. -/
def Obligations.ClassesAndNextClassStored : Prop :=
  (∀ (tag : Byte) (body : List Byte) (s : State), CommandAllowed 0x24 tag body .supervisor s →
    (body = [0] → exec (.truckClassSet tag body) s = .next { s with
      lc := answered s.lc (replyFrame 0x24 tag .done (classesBytes s.lr.classes)) }) ∧
    ∀ (i : Fin 16) (c : TruckClass), body.length = 8 → truckClassSet? body = some (.write (i, c)) →
      (c.target = 0 ∧ i = s.lr.nextClass → exec (.truckClassSet tag body) s = .next { s with
        lc := answered s.lc (replyFrame 0x24 tag .state []) }) ∧
      (¬(c.target = 0 ∧ i = s.lr.nextClass) → exec (.truckClassSet tag body) s = .next { s with
        lr := { s.lr with classes := s.lr.classes.set i c }
        rs := if c = s.lr.classes[i] then s.rs else Rs.mark s.rs
        lc := answered s.lc (replyFrame 0x24 tag .done (classesBytes (s.lr.classes.set i c))) })) ∧
  ∀ (tag : Byte) (i : Fin 16) (flag : Bool) (s : State),
    let body : List Byte := [BitVec.ofNat 8 i.val, BitVec.ofNat 8 flag.toNat]
    CommandAllowed 0x25 tag body .operator s →
    (s.lr.classes[i].target = 0 → exec (.loadNext tag body) s = .next { s with
      lc := answered s.lc (replyFrame 0x25 tag .badField []) }) ∧
    (s.lr.classes[i].target ≠ 0 → flag = false ∨ s.lr.openLoad = none → exec (.loadNext tag body) s = .next { s with
      lr := { s.lr with nextClass := i }
      lc := answered s.lc (replyFrame 0x25 tag .done (be 1 i.val ++ be 1 0)) }) ∧
    (s.lr.classes[i].target ≠ 0 → flag = true → ∀ l ∈ s.lr.openLoad,
      let figured : Load := { l with
        cls := i, target := s.lr.classes[i].target, tolerance := s.lr.classes[i].tolerance }
      let reaches := decide (figured.target - figured.tolerance ≤ l.total)
      let exceeds := decide (figured.target + figured.tolerance < l.total)
      let settled : Load := { figured with atTarget := reaches, overloaded := exceeds }
      let events : List Notice := [.loadEvent .reclassed figured s.lc.time] ++
        (if reaches = true ∧ l.atTarget = false then
          [.loadEvent .atTarget { settled with overloaded := l.overloaded && exceeds } s.lc.time] else []) ++
        if exceeds = true ∧ l.overloaded = false then [.loadEvent .overloaded settled s.lc.time] else []
      exec (.loadNext tag body) s = .next { s with
        lr := { s.lr with nextClass := i, openLoad := some settled }
        lc := answered (queueNotices events s).lc (replyFrame 0x25 tag .done (be 1 i.val ++ be 1 1)) })

/-- A dump outside a calibration run (R104 to R107, R121 to R125, R129). The pass has the payload, quality and band of its
window, weighed now if it was still OPEN, or none and NO_WEIGHT where no window was opened, and the bay of the lowest ARMED
TRUCK_BAY zone that holds the pose, none without a valid slew angle. The pass and payload totals count it and the store is
marked. A CAST leaves the load; else the pass is filed in its bay's load, opened for it where there is none, a load of another
bay being closed as CLOSED_NEW_BAY; total and flags follow, and the twelfth pass closes the load as CLOSED_FULL. PASS RECORDED
and the LOAD EVENT notices of all this are handed over, each where there is room and in that order. Where the reading that waits
next accepts TRAVEL, the TRAVEL event may come first, closing the open load, and the pass then opens a new one (which of the two
is free: assumption logs 7 and 27). -/
def Obligations.PassFiledInLoad : Prop :=
  ∀ (c : Computation) (s : State), s.powered = true → s.ps.inFlight = some c →
    c.health[0] = .live → c.health[1] = .live → c.health[2] = .live → s.mlu.inputs.travel.level = false →
    s.ct.run = none → s.ct.phase = .loaded ∨ s.ct.phase = .swingLoaded →
    (angleOf s.ps.held[1].a - angleOf s.ps.held[2].a).toInt ≤ s.ct.settings.curlOpen →
    let tip := tipOf c.geometry (boomPlaneTilt (angleOf s.ps.held[3].a) (clampTilt s.ps.held[4].a) (clampTilt s.ps.held[4].b))
      s.ps.held[0].a s.ps.held[1].a s.ps.held[2].a
    let holds (k : Fin 16) : Bool := match s.zt.zones[k].held with
      | none => false
      | some z => decide (z.state = .armed ∧ z.record.kind = .truckBay ∧
          z.record.inSector (angleOf s.ps.held[3].a) = true ∧ z.record.inReachBand tip.1 = true)
    let weighed : Weighed := match s.ct.window with
      | none =>
        { band := reachBand s.ps.geometry tip.1, count := 0, mean := none, spread := none, lifted := none, payload := none
          quality := .noWeight }
      | some w => match w.result with
        | some r => r
        | none => weighedBy s.ct.fempty s.ct.gain w
    let pass : Pass :=
      { payload := weighed.payload, quality := weighed.quality, band := weighed.band
        dumpAngle := angleOf s.ps.held[3].a, stamp := s.lc.time
        bay := if c.health[3] = .live then (List.finRange 16).find? holds else none }
    let travelNext := ∃ x ∈ s.pending.head?, ∃ samples, x = Instr.inputLevelChange samples ∧ samples.travel = true ∧
      s.mlu.inputs.travel.last = some true ∧ (s.lc.time - s.mlu.nextReading).toNat < 2147483648
    let closed : Lr := { withLoadClosed .closedTravel s.lc.time s.lr with travelTaken := true }
    let events := passNotices pass s.lc.time s.lr
    let eventsAfterTravel := closedNotices .closedTravel s.lc.time s.lr ++ passNotices pass s.lc.time closed
    ∃ t, exec .poseCompletion s = .next t ∧ t.ct.phase = .dumping ∧ t.rs = Rs.mark s.rs ∧
      (let handed (ns : List Notice) : Prop := (∀ n ∈ ns, handedWithRoom n t.lc) ∧
        (s.rs.restartPending = false → t.lc.notices.length ≤ 30 → ns.Sublist (noticesIn t.lc))
       (¬travelNext → t.lr = withPassFiled pass s.lc.time s.lr ∧ handed events) ∧
       (travelNext → (t.lr = withPassFiled pass s.lc.time s.lr ∧ handed events) ∨
        (t.lr = withPassFiled pass s.lc.time closed ∧ handed eventsAfterTravel))) ∧
      (∀ i : Fin 24, t.st.entries[i] = s.st.entries[i].map fun e => incremented
        (if e.item.definition.basis = .passes then 1
        else if e.item.definition.basis = .tonnes then pass.payload.getD 0 else 0) e) ∧
      (∀ ch : Fin 6, t.scu[ch].settings = s.scu[ch].settings ∧ t.scu[ch].health = s.scu[ch].health) ∧
      (∀ k : Fin 16, t.zt.zones[k].held = s.zt.zones[k].held) ∧ t.mlu.inputs = s.mlu.inputs ∧ t.pending = s.pending

/-- LOAD CLOSE and LOAD READ (R126 to R128, R130): the open load is closed as CLOSED_HOST, its fuel per tonne fixed, and enters
the history of at most sixteen as the newest, with a LOAD EVENT CLOSED that carries the closed record, or the command is refused
with STATE; a read returns the next class and the record of the selector, or is refused with NOT_FOUND, and changes nothing. The
layout of the reply is R180's, with assumption log 12, and its fuel per tonne takes the six bytes of assumption log 13. -/
def Obligations.LoadCloseAndRead : Prop :=
  ∀ (tag : Byte) (s : State),
    (CommandAllowed 0x26 tag [] .operator s →
      (s.lr.openLoad = none → exec (.loadClose tag []) s = .next { s with
        lc := answered s.lc (replyFrame 0x26 tag .state []) }) ∧
      ∀ l ∈ s.lr.openLoad,
        let record : Load := { l with
          state := .closedHost
          closed := some s.lc.time
          fuelPerTonne := if l.total = 0 then none else some (l.fuel.toNat * 1000 / l.total) }
        exec (.loadClose tag []) s = .next { s with
          lr := { s.lr with openLoad := none, history := (record :: s.lr.history).take 16 }
          lc := answered (queueNotice (.loadEvent .closed record s.lc.time) s).lc
            (replyFrame 0x26 tag .done (be 2 l.number)) }) ∧
    ∀ sel : Byte, CommandAllowed 0x27 tag [sel] .operator s → sel.toNat < 16 ∨ sel = 0xFF →
      let chosen := if sel = 0xFF then s.lr.openLoad else s.lr.history[sel.toNat]?
      (chosen = none → exec (.loadRead tag [sel]) s = .next { s with
        lc := answered s.lc (replyFrame 0x27 tag .notFound []) }) ∧
      ∀ l ∈ chosen, exec (.loadRead tag [sel]) s = .next { s with
        lc := answered s.lc (replyFrame 0x27 tag .done
          (be 1 ((if l.reportedFuelPerTonne.isSome then 1 else 0) + (if l.closed.isSome then 2 else 0)) ++
            be 1 s.lr.nextClass.val ++ loadBytes l)) }

/-! ## Engine economy and fuel accounting (spec 08) -/

/-- ENGINE REPORT (R126, R132 to R134, R138, R142, R143, R145, R151 to R154): the interval since the copy, at most 1000 ms of
it, is integrated at the copy's fuel rate into the accumulator, the total and the open load, and, if the copy had RUNNING set,
into the engine seconds, the weighted seconds by the weight of the copy's bucket, and that bucket; the millilitres, engine
seconds and weighted seconds completed are delivered to the service items of their basis, one that advances with a SERVICE
ATTENTION notice; the store is marked when a retained count changes or an amount reaches an item; the copy becomes the clamped
report with its stamp. RUNNING clear makes the mode STOPPED, with both timers stopped, the marks cleared and no commit waited
for; RUNNING set makes STOPPED WORK, the idle timer running from the report, and changes no other mode, timer or mark, but that
AUTO_IDLE with the deferred mark tests the shutdown permission again on this copy: granted, a CLEAN store makes the mode
SHUTDOWN_ADVISED, a DIRTY or FAILED one SHUTDOWN_PENDING with a commit begun, and a commit in flight SHUTDOWN_PENDING with that
one waited for; refused, the mark stays. The advice is settled: a changed one is handed over as ENGINE ADVICE, given room for it
and a SERVICE ATTENTION of each item, and none where the cap and the advice end as they were, with the invariant of the service
items (StepKeepsServiceSettled) before. The reply says whether a value was clamped. Without a copy nothing is integrated or
delivered. The sensors, the lines, the zones and the cycle stay. -/
def Obligations.EngineReportIntegratesInterval : Prop :=
  ∀ (tag : Byte) (body : List Byte) (s : State), CommandAllowed 0x28 tag body .operator s → body.length = 9 →
    let sent := engineReportOf body
    let report : EngineReport := { sent with
      rpm := min sent.rpm 4000, load := min sent.load 125, fuelRate := min sent.fuelRate 6000
      coolant := sent.coolant.map fun v => max (-40) (min 150 v) }
    let steady (t : State) : Prop :=
      t.em.mode = s.em.mode ∧ t.em.idleTimer = s.em.idleTimer ∧ t.em.shutdownTimer = s.em.shutdownTimer ∧
        t.em.deferred = s.em.deferred ∧ t.em.cancel = s.em.cancel ∧ t.em.failed = s.em.failed ∧ t.em.wait = s.em.wait
    let granted := report.regenActive = false ∧ s.mlu.inputs.pilotEnable.level = false ∧
      ∃ v ∈ report.coolant, v ≤ s.em.settings.coolantLimit
    let tested := report.running = true ∧ s.em.mode = .autoIdle ∧ s.em.deferred = true
    let modeFollows (marked : Rs) (t : State) : Prop :=
      (report.running = false → t.em.mode = .stopped ∧ t.em.idleTimer = none ∧ t.em.shutdownTimer = .stopped ∧
        t.em.deferred = false ∧ t.em.cancel = false ∧ t.em.failed = false ∧ t.em.wait = .none ∧ t.rs = marked) ∧
      (report.running = true → s.em.mode = .stopped → t.em.mode = .work ∧ t.em.idleTimer = some s.lc.time ∧
        t.em.shutdownTimer = .stopped ∧ t.em.deferred = false ∧ t.em.cancel = false ∧ t.em.failed = s.em.failed ∧
        t.em.wait = .none ∧ t.rs = marked) ∧
      (report.running = true → s.em.mode ≠ .stopped → ¬tested → steady t ∧ t.rs = marked) ∧
      (tested → ShutdownTested granted { t.em with
        mode := .autoIdle, idleTimer := s.em.idleTimer, shutdownTimer := s.em.shutdownTimer, deferred := true
        cancel := s.em.cancel, failed := s.em.failed, wait := s.em.wait } marked t)
    ∃ t, exec (.engineReport tag body) s = .next t ∧
      AnswersWith (replyFrame 0x28 tag .done (be 1 (if report = sent then 0 else 1))) s t ∧
      t.em.copy = some { report := report, stamp := s.lc.time } ∧
      (s.em.copy = none → t.em.fuelTotal = s.em.fuelTotal ∧ t.em.fuelAcc = s.em.fuelAcc ∧
        t.em.engineSeconds = s.em.engineSeconds ∧ t.em.engineMs = s.em.engineMs ∧
        t.em.weightedSeconds = s.em.weightedSeconds ∧ t.em.weightedAcc = s.em.weightedAcc ∧
        t.em.histogram = s.em.histogram ∧ t.em.bucketMs = s.em.bucketMs ∧ t.em.gaps = s.em.gaps ∧ t.em.cap = s.em.cap ∧
        t.lr = s.lr ∧ t.st = s.st ∧ modeFollows s.rs t) ∧
      (∀ c ∈ s.em.copy,
        let interval := (s.lc.time - c.stamp).toNat
        let dt := min interval 1000
        let acc := s.em.fuelAcc + c.report.fuelRate * dt
        let bucket : Fin 8 := ⟨min (c.report.load / 16) 7, by omega⟩
        let weighted := s.em.weightedAcc + dt * #v[1, 1, 2, 2, 3, 4, 6, 8][bucket]
        let amount (b : Basis) : Nat := match b with
          | .fuelLitres => acc / 36000
          | .engineHours => if c.report.running then (s.em.engineMs + dt) / 1000 else 0
          | .weightedHours => if c.report.running then weighted / 4000 else 0
          | .slewTurns | .passes | .tonnes => 0
        t.em.fuelAcc = acc % 36000 ∧ t.em.fuelTotal = s.em.fuelTotal + BitVec.ofNat 48 (acc / 36000) ∧
          t.em.gaps = (if 1000 < interval then min 65535 (s.em.gaps + 1) else s.em.gaps) ∧
          t.lr = { s.lr with
            openLoad := s.lr.openLoad.map fun l => { l with fuel := l.fuel + BitVec.ofNat 48 (acc / 36000) } } ∧
          (c.report.running = true →
            t.em.engineSeconds = min 4294967295 (s.em.engineSeconds + (s.em.engineMs + dt) / 1000) ∧
            t.em.engineMs = (s.em.engineMs + dt) % 1000 ∧
            t.em.weightedSeconds = min 4294967295 (s.em.weightedSeconds + weighted / 4000) ∧
            t.em.weightedAcc = weighted % 4000 ∧
            t.em.histogram = s.em.histogram.set bucket
              (min 4294967295 (s.em.histogram[bucket] + (s.em.bucketMs[bucket] + dt) / 1000)) ∧
            t.em.bucketMs = s.em.bucketMs.set bucket ((s.em.bucketMs[bucket] + dt) % 1000)) ∧
          (c.report.running = false →
            t.em.engineSeconds = s.em.engineSeconds ∧ t.em.engineMs = s.em.engineMs ∧
            t.em.weightedSeconds = s.em.weightedSeconds ∧ t.em.weightedAcc = s.em.weightedAcc ∧
            t.em.histogram = s.em.histogram ∧ t.em.bucketMs = s.em.bucketMs) ∧
          (∀ i : Fin 24, t.st.entries[i] =
            s.st.entries[i].map fun e => incremented (amount e.item.definition.basis) e) ∧
          (IsLowestCap s.st.entries s.st.reportedCap → IsLowestCap t.st.entries t.st.reportedCap) ∧
          (t.st.reportedCap ≠ s.st.reportedCap → t.em.cap = t.st.reportedCap) ∧ AttentionNoticed s t ∧
          modeFollows (if t.em.fuelTotal ≠ s.em.fuelTotal ∨ t.em.engineSeconds ≠ s.em.engineSeconds ∨
              t.em.weightedSeconds ≠ s.em.weightedSeconds ∨ t.em.histogram ≠ s.em.histogram ∨
              (s.st.entries.any fun entry => entry.any fun e =>
                !e.item.suspended && amount e.item.definition.basis != 0) = true
            then Rs.mark s.rs else s.rs) t) ∧
      t.em.settings = s.em.settings ∧ AdviceStands t.em t.em.lastAdvice ∧
      (t.em.lastAdvice ≠ s.em.lastAdvice → s.lc.notices.length ≤ 6 →
        noticeHanded (.engineAdvice t.em.lastAdvice s.lc.time) t.lc) ∧
      (ServiceSettled s → t.st.reportedCap = s.st.reportedCap → t.em.lastAdvice = s.em.lastAdvice →
        NoneHanded 0x4A s.lc t.lc) ∧
      t = { s with lr := t.lr, em := t.em, st := t.st, rs := t.rs, lc := t.lc, choices := t.choices }

/-- ECONOMY SET (R137, R139, R142, R143, R145): READ returns the settings and changes nothing. WRITE stores them, marks the
store when a value differs, and acts at once. In WORK or ECO the idle timer is worked out afresh from its start: run out, the
mode becomes AUTO_IDLE and the shutdown timer starts; else ECO becomes WORK with eco enable off. In AUTO_IDLE the shutdown timer
is worked out afresh from its start: run out, the permission is tested, as at its expiry; else it runs on, and a delay of 0
clears the deferred mark. In every other mode nothing more happens. In each the advice is settled, one ENGINE ADVICE being
handed over when it differs from the last and none when it does not; and every other field of the Economy Manager, and
everything outside it, the store and the notices, stays. (That a shutdown timer that has expired keeps its start for this is
assumption log 15.) -/
def Obligations.EconomySetReadAndWrite : Prop :=
  ∀ (tag : Byte) (body : List Byte) (s : State), CommandAllowed 0x29 tag body .supervisor s →
    (body = [0] → exec (.economySet tag body) s = .next { s with
      lc := answered s.lc (replyFrame 0x29 tag .done (economySettingsBytes s.em.settings)) }) ∧
    ∀ e, body.length = 13 → economySet? body = some (.write e) →
      let marked := if e = s.em.settings then s.rs else Rs.mark s.rs
      let passed (start : Stamp) (seconds : Nat) : Prop := seconds * 1000 ≤ (s.lc.time - start).toNat
      let seated := s.mlu.inputs.seat.level = true
      let written : Em := { s.em with settings := e }
      ∃ t, exec (.economySet tag body) s = .next t ∧ AdviceStands t.em t.em.lastAdvice ∧
        (let stays : Em := { written with lastAdvice := t.em.lastAdvice }
         let left : Em := { stays with shutdownTimer := .stopped, deferred := false, cancel := false, wait := .none }
         (s.em.mode ≠ .work → s.em.mode ≠ .eco → s.em.mode ≠ .autoIdle → t.em = stays ∧ t.rs = marked) ∧
         (s.em.mode = .work ∨ s.em.mode = .eco → t.rs = marked ∧
          let runsOut := ¬(seated ∧ e.idleDelay = 0) ∧
            ∃ start ∈ s.em.idleTimer, passed start (if seated then e.idleDelay else e.seatDelay)
          (runsOut → t.em = { left with
            mode := .autoIdle, idleTimer := none, shutdownTimer := .running s.lc.time }) ∧
          (¬runsOut → s.em.mode = .eco → e.ecoEnable = false → t.em = { left with mode := .work }) ∧
          (¬runsOut → ¬(s.em.mode = .eco ∧ e.ecoEnable = false) → t.em = stays)) ∧
         (s.em.mode = .autoIdle → s.em.shutdownTimer = .stopped → t.em = stays ∧ t.rs = marked) ∧
         ∀ start, s.em.mode = .autoIdle → s.em.shutdownTimer = .running start ∨ s.em.shutdownTimer = .expired start →
          (¬(e.shutdownDelay ≠ 0 ∧ passed start e.shutdownDelay) → t.rs = marked ∧ t.em = { stays with
            shutdownTimer := .running start, deferred := if e.shutdownDelay = 0 then false else s.em.deferred }) ∧
          (e.shutdownDelay ≠ 0 → passed start e.shutdownDelay →
            ShutdownTested (∃ c ∈ s.em.copy, c.report.regenActive = false ∧ s.mlu.inputs.pilotEnable.level = false ∧
                ∃ v ∈ c.report.coolant, v ≤ e.coolantLimit)
              { written with shutdownTimer := .expired start } marked t)) ∧
        t = { s with
          em := t.em
          rs := t.rs
          lc := answered (lcWithAdvice t.em.lastAdvice s) (replyFrame 0x29 tag .done (economySettingsBytes e)) }

/-- The timers of the Economy Manager (R139, R142, R143): an idle timer that has run its delay makes the mode AUTO_IDLE and
starts the shutdown timer; a shutdown timer that has run its delay tests the permission: refused, the deferred mark is set;
granted, a CLEAN store makes the mode SHUTDOWN_ADVISED, a DIRTY or FAILED one SHUTDOWN_PENDING with a commit begun, and a commit
in flight SHUTDOWN_PENDING with that one waited for. The advice is settled, one ENGINE ADVICE being handed over when it differs
from the last and none when it does not (R145); every other field of the Economy Manager, and everything outside it, the store
and the notices, stays. (With a RESTART pending the wait is OWN with no commit begun, assumption log 23; an expiry taken later
than its moment acts all the same, assumption log 3.) -/
def Obligations.EconomyTimersExpire : Prop :=
  ∀ (start : Stamp) (s : State), s.powered = true →
    ((s.em.mode = .work ∨ s.em.mode = .eco) → s.em.idleTimer = some start →
      ¬(s.mlu.inputs.seat.level = true ∧ s.em.settings.idleDelay = 0) →
      (if s.mlu.inputs.seat.level then s.em.settings.idleDelay else s.em.settings.seatDelay) * 1000 ≤
        (s.lc.time - start).toNat →
      ∃ t, exec .idleTimerExpiry s = .next t ∧ AdviceStands t.em t.em.lastAdvice ∧
        t.em = { s.em with
          mode := .autoIdle, idleTimer := none, shutdownTimer := .running s.lc.time, deferred := false, cancel := false
          wait := .none, lastAdvice := t.em.lastAdvice } ∧
        t = { s with em := t.em, lc := lcWithAdvice t.em.lastAdvice s }) ∧
    (s.em.mode = .autoIdle → s.em.shutdownTimer = .running start → s.em.settings.shutdownDelay ≠ 0 →
      s.em.settings.shutdownDelay * 1000 ≤ (s.lc.time - start).toNat →
      ∃ t, exec .shutdownTimerExpiry s = .next t ∧ AdviceStands t.em t.em.lastAdvice ∧
        ShutdownTested (∃ c ∈ s.em.copy, c.report.regenActive = false ∧ s.mlu.inputs.pilotEnable.level = false ∧
            ∃ v ∈ c.report.coolant, v ≤ s.em.settings.coolantLimit)
          { s.em with shutdownTimer := .expired start } s.rs t ∧
        t = { s with em := t.em, rs := t.rs, lc := lcWithAdvice t.em.lastAdvice s })

/-! ## Service reminders (spec 09) -/

/-- SERVICE ITEM SET, SERVICE DONE and SERVICE SUSPEND taken (R150, R154, R155, R158, R159): one entry takes a new item, none, a
count of 0 with attention cleared, or a changed suspended mark, in the state that follows; every other entry stays; the store is
marked when the entry's content differs; the cap is the lowest derate cap, and a changed one makes the Economy Manager settle
its advice, one ENGINE ADVICE being handed over when that differs (R145, R146); the reply carries the index and the state. DONE
and SUSPEND on an EMPTY entry are refused with STATE. The layout of the replies, and the state byte 5 of an EMPTY entry, are
assumption log 12. -/
def Obligations.ServiceCommandsSettleEntry : Prop :=
  ∀ (tag : Byte) (i : Fin 24) (s : State),
    let settled (e : Option ServiceEntry) (fields : List Byte) (kind : Byte) (t : State) : Prop :=
      t.st.entries = s.st.entries.set i e ∧ IsLowestCap t.st.entries t.st.reportedCap ∧
        t.rs = (if s.st.entries[i].map ServiceEntry.item = e.map ServiceEntry.item then s.rs else Rs.mark s.rs) ∧
        (t.st.reportedCap = s.st.reportedCap → t.em = s.em) ∧
        (t.st.reportedCap ≠ s.st.reportedCap → AdviceStands t.em t.em.lastAdvice ∧
          t.em = { s.em with cap := t.st.reportedCap, lastAdvice := t.em.lastAdvice }) ∧
        t = { s with
          em := t.em
          st := t.st
          rs := t.rs
          lc := answered (lcWithAdvice t.em.lastAdvice s) (replyFrame kind tag .done fields) }
    (∀ body d, CommandAllowed 0x30 tag body .service s → body.length = 12 → serviceItemSet? body = some (i, some d) →
      ∃ t, exec (.serviceItemSet tag body) s = .next t ∧
        settled (some { item := { definition := d, consumed := 0, attention := false, suspended := false }, state := .ok })
          ([7] ++ be 1 i.val ++ [0] ++ be 4 d.warnPoint ++ be 4 d.duePoint ++ be 4 d.overduePoint) 0x30 t) ∧
    (let body : List Byte := [1, BitVec.ofNat 8 i.val]
     CommandAllowed 0x30 tag body .service s →
      ∃ t, exec (.serviceItemSet tag body) s = .next t ∧
        settled none ([0] ++ be 1 i.val ++ [5] ++ List.replicate 12 0) 0x30 t) ∧
    (let body : List Byte := [BitVec.ofNat 8 i.val]
     CommandAllowed 0x33 tag body .service s →
      (s.st.entries[i] = none → exec (.serviceDone tag body) s = .next { s with
        lc := answered s.lc (replyFrame 0x33 tag .state []) }) ∧
      ∀ e ∈ s.st.entries[i], 0 < e.item.definition.warnPoint →
        ∃ t, exec (.serviceDone tag body) s = .next t ∧
          settled (some { item := { e.item with consumed := 0, attention := false }
                          state := if e.item.suspended then .suspended else .ok })
            (be 1 i.val ++ be 1 (if e.item.suspended then 4 else 0) ++ be 4 e.item.consumed) 0x33 t) ∧
    (∀ on : Bool,
      let body : List Byte := [BitVec.ofNat 8 i.val, BitVec.ofNat 8 on.toNat]
      CommandAllowed 0x34 tag body .service s →
      (s.st.entries[i] = none → exec (.serviceSuspend tag body) s = .next { s with
        lc := answered s.lc (replyFrame 0x34 tag .state []) }) ∧
      ∀ e ∈ s.st.entries[i],
        (e.item.suspended = on → exec (.serviceSuspend tag body) s = .next { s with
          lc := answered s.lc (replyFrame 0x34 tag .done (be 1 i.val ++ be 1 e.state.code)) }) ∧
        (e.item.suspended ≠ on → ∃ t, exec (.serviceSuspend tag body) s = .next t ∧
          let state := if on then .suspended else stateByCount e.item.definition e.item.consumed
          settled (some { item := { e.item with suspended := on }, state := state }) (be 1 i.val ++ be 1 state.code) 0x34 t))

/-- SERVICE READ and SERVICE ACK taken (R156, R157): a read returns the cap, the number of items with attention, the number
OVERDUE and a run of entries, and changes nothing; an acknowledgement clears the attention of the listed entries and nothing
else, marks the store when it cleared any, and returns their number. The layout of an entry, its presence byte and the state
byte 5 of an EMPTY one among it, is assumption log 12. -/
def Obligations.ServiceReadAndAck : Prop :=
  ∀ (tag : Byte) (s : State),
    (∀ first count : Byte, first.toNat ≤ 23 → 1 ≤ count.toNat → count.toNat ≤ 6 → first.toNat + count.toNat ≤ 24 →
      CommandAllowed 0x31 tag [first, count] .operator s →
      exec (.serviceRead tag [first, count]) s = .next { s with
        lc := answered s.lc (replyFrame 0x31 tag .done
          (be 1 s.st.reportedCap ++
            be 1 (s.st.entries.toList.countP fun e => (e.map fun x => x.item.attention) == some true) ++
            be 1 (s.st.entries.toList.countP fun e => (e.map ServiceEntry.state) == some .overdue) ++ [count] ++
            ((((List.finRange 24).drop first.toNat).take count.toNat).map fun i =>
              serviceEntryBytes i s.st.entries[i]).flatten)) }) ∧
    ∀ indexes : List Byte, 1 ≤ indexes.length → indexes.length ≤ 24 → (∀ x ∈ indexes, x.toNat < 24) →
      let body := BitVec.ofNat 8 indexes.length :: indexes
      let listed (i : Fin 24) : Bool := indexes.contains (BitVec.ofNat 8 i.val)
      let cleared := (List.finRange 24).countP fun i =>
        listed i && (s.st.entries[i].map fun e => e.item.attention) == some true
      CommandAllowed 0x32 tag body .operator s →
      ∃ t, exec (.serviceAck tag body) s = .next t ∧
        (∀ i : Fin 24, t.st.entries[i] = if listed i then
            s.st.entries[i].map fun e => { e with item := { e.item with attention := false } }
          else s.st.entries[i]) ∧
        t = { s with
          st := { s.st with entries := t.st.entries }
          rs := if cleared = 0 then s.rs else Rs.mark s.rs
          lc := answered s.lc (replyFrame 0x32 tag .done (be 1 cleared)) }

/-! ## The retained store (spec 10) -/

/-- COMMIT and RESTART taken (R163, R164, R167): a commit takes a snapshot of the retained content at attempt 1 for the host,
refused with BUSY while one is in flight; a RESTART sets restart pending, answered ACCEPTED with a commit in flight and DONE
without. Of the notices, those that wait then may still be sent, and each is marked so (assumption log 10). -/
def Obligations.CommitAndRestartBegin : Prop :=
  ∀ (tag : Byte) (s : State),
    (CommandAllowed 0x03 tag [] .operator s →
      (s.rs.state.isCommitting = true → exec (.commit tag []) s = .next { s with
        lc := answered s.lc (replyFrame 0x03 tag .busy []) }) ∧
      (s.rs.state.isCommitting = false → exec (.commit tag []) s = .next { s with
        rs := { s.rs with
          state := .committing { snapshot := retainedOf s, requester := .host, attempt := 1 }
          changed := false }
        lc := answered s.lc (replyFrame 0x03 tag .accepted []) })) ∧
    (CommandAllowed 0x02 tag [] .operator s →
      exec (.restart tag []) s = .next { s with
        rs := { s.rs with restartPending := true, awaited := none }
        lc := answered { s.lc with early := List.replicate s.lc.notices.length true }
          (replyFrame 0x02 tag (if s.rs.state.isCommitting then .accepted else .done) []) })

/-- The end of a commit attempt (R143, R164, R165): the image is the one read back; equal to the snapshot after a completed
write, the commit leaves the store CLEAN, or DIRTY with the changed mark; otherwise a new attempt of the same snapshot begins,
and the third failure leaves FAILED. The end is noticed with COMMIT RESULT, and then delivered to the Economy Manager. One
waiting for its own commit goes to SHUTDOWN_ADVISED, its failed mark the outcome; one waiting for a prior commit begins its own
and waits for that. Where the host's COMMIT stands ready at that moment, either may be first, and if it is the COMMIT, a commit
of the host is in flight for the Economy Manager to wait for (which of the two is free, assumption log 14); where a RESTART is
pending, no commit is begun (assumption log 23). The advice is settled (R145). The image read back is an operand (assumption log
5); that the changed mark is cleared at the end is the model's choice (assumption log 29). -/
def Obligations.CommitAttemptEnds : Prop :=
  ∀ (r : CommitRecord) (written : Bool) (image : Image) (s : State), s.powered = true → s.rs.state = .committing r →
    let good := written = true ∧ image = snapshotImage r.snapshot
    let ended : RsState := if good then (if s.rs.changed then .dirty else .clean) else .failed
    let store : Rs := { s.rs with
      image := image, state := ended, changed := false
      awaited := if s.rs.restartPending then some { done := decide good, attempts := r.attempt } else none }
    (¬good → r.attempt < 3 → exec (.commitAttemptEnd written image) s = .next { s with
      rs := { s.rs with image := image, state := .committing { r with attempt := r.attempt + 1 } } }) ∧
    (good ∨ 3 ≤ r.attempt →
      let u := queueNotice (.commitResult r.requester (decide good) r.attempt ended s.lc.time) { s with rs := store }
      let commit (requester : Requester) : Rs := { store with
        state := .committing { snapshot := retainedOf s, requester := requester, attempt := 1 } }
      let hostFirst (tag : Byte) (status : Status) : Lc := answered u.lc (replyFrame 0x03 tag status [])
      (s.em.wait = .none → exec (.commitAttemptEnd written image) s = .next u) ∧
      (s.em.wait = .own → s.em.mode = .shutdownPending → ∃ t, exec (.commitAttemptEnd written image) s = .next t ∧
        AdviceStands t.em t.em.lastAdvice ∧
        t.em = { s.em with
          mode := .shutdownAdvised, idleTimer := none, shutdownTimer := .stopped, deferred := false, cancel := false
          failed := !decide good, wait := .none, lastAdvice := t.em.lastAdvice } ∧
        t = { s with em := t.em, rs := store, lc := lcWithAdvice t.em.lastAdvice u }) ∧
      (s.em.wait = .prior → ∃ t, exec (.commitAttemptEnd written image) s = .next t ∧
        AdviceStands t.em t.em.lastAdvice ∧ t.em = { s.em with wait := .own, lastAdvice := t.em.lastAdvice } ∧
        (s.rs.restartPending = true → t = { s with em := t.em, rs := store, lc := lcWithAdvice t.em.lastAdvice u }) ∧
        (s.rs.restartPending = false → (¬∃ tag body, CommandReady 0x03 tag body u) →
          t = { s with em := t.em, rs := commit .economy, lc := lcWithAdvice t.em.lastAdvice u }) ∧
        ∀ tag body, s.rs.restartPending = false → CommandReady 0x03 tag body u →
          let either (rs : Rs) (lc : Lc) : State := { s with
            em := t.em, rs := rs, lc := lcWithAdvice t.em.lastAdvice { u with lc := lc }, choices := s.choices + 1 }
          t = either (commit .economy) u.lc ∨
            (body = [] ∧ t = either (commit .host) (hostFirst tag .accepted)) ∨
            (body ≠ [] ∧ t = either (commit .economy) (hostFirst tag .badLength))))

/-- RESTART_TAKES_EFFECT (R167, R23, R25, R28, R31, R34, R54, R55, R73, R75, R94, R118, R131, R147, R160, R177). The retained
content, the image and the store's state stay as they stand, and every block's volatile content takes its reset values: the
channels ACQUIRING or OFF; the inputs INACTIVE, the authority OPERATOR, all cut lines asserted; the reset computation in flight;
no pose in use, phase UNKNOWN, no run, window or load; the mode STOPPED with the advice of the cap; each service item in the
state its count gives; a zone UNANCHORED still, or in the state its flag gives; the inbox empty and part time 0. STARTED, with
the store's state and the awaited commit, is sent by a free transmitter, or waits alone behind the notice being sent. (The
moment of the first reading, 2 ms on: assumption log 3. The 0 of the cadence's start while no pattern is driven, and of the last
character's time: log 18. The marks of the model: logs 10 and 27.) -/
def Obligations.RestartKeepsRetainedContent : Prop :=
  ∀ s : State, s.powered = true → s.rs.restartPending = true → s.rs.state.isCommitting = false → s.lc.replySlot = none →
    (∀ r, s.lc.tx ≠ .sending (.reply r)) →
    let started : Notice := .started .restart
      (match s.rs.state with
      | .clean => .clean
      | .dirty => .dirty
      | _ => .failed) s.rs.awaited
    ∃ t, exec .restartTakesEffect s = .next t ∧ retainedOf t = retainedOf s ∧ BlocksReset t ∧
      t.rs = { image := s.rs.image, state := s.rs.state, changed := false, restartPending := false, awaited := none } ∧
      (∀ k : Fin 16, t.zt.zones[k] = { held := s.zt.zones[k].held.map fun z => { z with state :=
        match z.state with
        | .unanchored _ => .unanchored (if z.record.armAtStart then .armed else .dormant)
        | _ => if z.record.armAtStart then .armed else .dormant } }) ∧
      t.zt.unanchored = s.zt.zones.toList.countP ZoneEntry.isUnanchored ∧
      t.lc.rate = s.lc.rate ∧ t.lc.notices = (if s.lc.tx = .free then [] else [started]) ∧
      t.lc.tx = (if s.lc.tx = .free then .sending (.notice started) else s.lc.tx) ∧
      t.powered = true ∧ t.choices = s.choices ∧ t.pending = s.pending

/-- The supply (R23, R25, R28, R31, R34, R54, R55, R73, R74, R94, R118, R131, R147, R160, R161, R165, R166, R177, R178). At a
power-on a sound image, of this part's layout and with a check that agrees, gives every block its retained content and a CLEAN
store; any other gives the defaults and a DIRTY store; the image is unchanged. Every block's volatile content takes its reset
values, a SITE sector zone starts UNANCHORED and every other in the state its flag gives, the strap gives the rate of the link, and
the free transmitter sends STARTED with cause POWER_ON and LOADED or RETAINED_LOST, the only notice. So content that a CLEAN store's
image holds comes back whole after a loss of power, and a loss during a commit leaves whatever the write left. (The operand that
says what is left: assumption log 5; an unpowered part: log 6. The choices among the reset values are those of O55: logs 3, 10, 18
and 27.) -/
def Obligations.PowerCycleKeepsCommittedContent : Prop :=
  ∀ (left : Image) (strap : Bool) (s : State),
    let comesUp (off u : State) : Prop :=
      let sound := off.rs.image.layout = .ofThisPart ∧ off.rs.image.checkAgrees = true
      let started : Notice := .started .powerOn (if sound then .loaded else .retainedLost) none
      exec (.powerOn strap) off = .next u ∧ BlocksReset u ∧
        retainedOf u = (if sound then off.rs.image.content else Retained.default) ∧
        u.rs = { image := off.rs.image, state := if sound then .clean else .dirty, changed := false, restartPending := false
                 awaited := none } ∧
        (∀ k : Fin 16, u.zt.zones[k].intrusions = 0 ∧ u.zt.zones[k].cuts = 0 ∧ ∀ z ∈ u.zt.zones[k].held,
          z.state = if z.record.anchor = .site ∧ z.record.extent ≠ 0 then
              .unanchored (if z.record.armAtStart then .armed else .dormant)
            else if z.record.armAtStart then .armed else .dormant) ∧
        u.lc.rate = (if strap then .r460800 else .r115200) ∧ u.lc.notices = [] ∧ u.lc.tx = .sending (.notice started) ∧
        u.choices = off.choices ∧ u.pending = off.pending
    (s.powered = true → ∃ t, exec (.powerLoss left) s = .next t ∧ t.powered = false ∧
      t.rs.image = (if s.rs.state.isCommitting then left else s.rs.image) ∧
      t.choices = s.choices ∧ t.pending = s.pending ∧
      (s.rs.state = .clean → s.rs.image = snapshotImage (retainedOf s) →
        ∃ u, comesUp t u ∧ retainedOf u = retainedOf s ∧ u.rs.state = .clean ∧ u.rs.image = s.rs.image)) ∧
    (s.powered = false → ∃ u, comesUp s u)

/-! ## The host link (spec 11) -/

/-- Characters of the host link (R169): a start byte begins a frame and other characters are dropped while hunting; a character
of a frame is collected within 20 ms of the one before; a length character outside 2..242, a low stop bit and a gap above 20 ms
are counted and the frame is abandoned, the late character taken as a HUNTING one; and nothing else changes. (A low stop bit
later than 20 ms is counted under FRAMING alone: assumption log 16.) -/
def Obligations.HostCharactersCollect : Prop :=
  ∀ (char : Byte) (s : State), s.powered = true →
    (s.lc.assembler = .hunting → char = 0xC5 → exec (.hostCharacter char) s = .next { s with
      lc := { s.lc with assembler := .collecting [0xC5], lastChar := s.lc.time } }) ∧
    (s.lc.assembler = .hunting → char ≠ 0xC5 → exec (.hostCharacter char) s = .next s) ∧
    (exec .hostFramingError s = .next { s with
      lc := { s.lc with
        assembler := .hunting
        stats := { s.lc.stats with framing := min 65535 (s.lc.stats.framing + 1) } } }) ∧
    ∀ bytes, s.lc.assembler = .collecting bytes →
      ((s.lc.time - s.lc.lastChar).toNat ≤ 20 → bytes.length = 1 → 2 ≤ char.toNat → char.toNat ≤ 242 →
        exec (.hostCharacter char) s = .next { s with
          lc := { s.lc with assembler := .collecting (bytes ++ [char]), lastChar := s.lc.time } }) ∧
      ((s.lc.time - s.lc.lastChar).toNat ≤ 20 → 2 ≤ bytes.length → bytes.length < u8 bytes 1 + 3 →
        exec (.hostCharacter char) s = .next { s with
          lc := { s.lc with assembler := .collecting (bytes ++ [char]), lastChar := s.lc.time } }) ∧
      ((s.lc.time - s.lc.lastChar).toNat ≤ 20 → bytes.length = 1 → char.toNat < 2 ∨ 242 < char.toNat →
        exec (.hostLengthError char) s = .next { s with
          lc := { s.lc with
            assembler := .hunting
            stats := { s.lc.stats with length := min 65535 (s.lc.stats.length + 1) } } }) ∧
      (20 < (s.lc.time - s.lc.lastChar).toNat →
        exec (.hostGapTimeout char) s = .next { s with
          lc := { s.lc with
            assembler := if char = 0xC5 then .collecting [0xC5] else .hunting
            lastChar := if char = 0xC5 then s.lc.time else s.lc.lastChar
            stats := { s.lc.stats with timeout := min 65535 (s.lc.stats.timeout + 1) } } })

/-- The last CRC character of a host frame (R170, R171): with a CRC that differs, CHECK counts the frame and it is discarded;
with one that agrees, RECEIVED counts it and it enters the inbox as the newest of at most four, or is counted under INBOX FULL
and discarded; whatever its kind and tag, and nothing else changes. -/
def Obligations.HostFrameEntersInbox : Prop :=
  ∀ (kind tag hi lo : Byte) (body : List Byte) (s : State), s.powered = true → body.length ≤ 240 →
    let covered : List Byte := BitVec.ofNat 8 (body.length + 2) :: kind :: tag :: body
    s.lc.assembler = .collecting (0xC5 :: covered ++ [hi]) → (s.lc.time - s.lc.lastChar).toNat ≤ 20 →
    let hunting : Lc := { s.lc with assembler := .hunting, lastChar := s.lc.time }
    (hi ++ lo ≠ crc16 covered → exec (.hostFrameArrival lo) s = .next { s with
      lc := { hunting with stats := { s.lc.stats with check := min 65535 (s.lc.stats.check + 1) } } }) ∧
    (hi ++ lo = crc16 covered → s.lc.inbox.length < 4 → exec (.hostFrameArrival lo) s = .next { s with
      lc := { hunting with
        inbox := s.lc.inbox ++ [{ kind := kind, tag := tag, body := body }]
        stats := { s.lc.stats with received := min 65535 (s.lc.stats.received + 1) } } }) ∧
    (hi ++ lo = crc16 covered → 4 ≤ s.lc.inbox.length → exec (.hostFrameArrival lo) s = .next { s with
      lc := { hunting with
        stats := { s.lc.stats with
          received := min 65535 (s.lc.stats.received + 1)
          inboxFull := min 65535 (s.lc.stats.inboxFull + 1) } } })

/-- GET STATUS and a kind that names no command (R172, R176): GET STATUS is answered, also while a RESTART is pending, and
clears NOTICE LOSS and the six link statistics; an unknown kind is answered UNKNOWN_KIND whatever its body; nothing else
changes. The layout of the reply, its presence bytes and its codes, is R180's with assumption log 12. -/
def Obligations.GetStatusAndUnknownKind : Prop :=
  ∀ (kind tag : Byte) (body : List Byte) (s : State),
    (CommandReady 0x01 tag [] s → exec (.getStatus tag []) s = .next { s with
      lc := { answered s.lc (replyFrame 0x01 tag .done (statusFields s)) with noticeLoss := 0, stats := {} } }) ∧
    (CommandReady kind tag body s →
      kind ∉ [0x01, 0x02, 0x03, 0x08, 0x09, 0x0A, 0x10, 0x11, 0x12, 0x13, 0x18, 0x19, 0x1A, 0x1B, 0x1C, 0x1D, 0x1E, 0x20,
        0x21, 0x22, 0x23, 0x24, 0x25, 0x26, 0x27, 0x28, 0x29, 0x2A, 0x30, 0x31, 0x32, 0x33, 0x34] →
      exec (.unknownKind kind tag body) s = .next { s with
        lc := answered s.lc (replyFrame kind tag .unknownKind []) })

/-- A notice handed over (R174, R175), and TRANSMIT_END (R175, R167). A TIP REPORT or an ENGINE ADVICE takes the place of the
waiting one of its kind; another, or one of which none waits, enters at the tail of fewer than 32, and with 32 waiting it is
lost and NOTICE LOSS counts it; a transmitter that is free with nothing waiting sends it at once; and nothing else changes. At
the end of a frame a waiting reply is sent next, before any notice; else the oldest notice; else the transmitter is free;
nothing else changes. While a RESTART is pending, the oldest notice that waited when it was taken, as none queued after its
reply is sent, and none at all once the reset is due. (That the notices which waited may still leave during the commit, past
later ones that took the place of others, and that none follows the last reply: assumption log 10.) -/
def Obligations.NoticeQueueAndTransmitterOrder : Prop :=
  (∀ (n : Notice) (s : State),
    let replaces := noticeKind n = 0x45 ∨ noticeKind n = 0x4A
    let othersOnly (ns : List Notice) : Prop := ∀ m ∈ ns, noticeKind m ≠ noticeKind n
    let still := s.lc.tx ≠ .free ∨ (s.lc.replySlot = none ∧ s.rs.restartPending = true ∧
      (s.rs.state.isCommitting = false ∨ true ∉ s.lc.early))
    (still → replaces → ∀ before m after, s.lc.notices = before ++ m :: after → noticeKind m = noticeKind n →
      othersOnly before → othersOnly after → queueNotice n s = { s with
        lc := { s.lc with notices := before ++ n :: after, early := s.lc.early.set before.length false } }) ∧
    (still → ¬replaces ∨ othersOnly s.lc.notices →
      (s.lc.notices.length < 32 → queueNotice n s = { s with lc := { s.lc with notices := s.lc.notices ++ [n] } }) ∧
      (32 ≤ s.lc.notices.length → queueNotice n s = { s with
        lc := { s.lc with noticeLoss := min 65535 (s.lc.noticeLoss + 1) } })) ∧
    (s.lc.tx = .free → s.lc.replySlot = none → s.lc.notices = [] → s.rs.restartPending = false →
      queueNotice n s = { s with lc := { s.lc with tx := .sending (.notice n), early := s.lc.early.tail } })) ∧
  ∀ s : State, s.powered = true → s.lc.tx ≠ .free →
    let waits := s.rs.restartPending = true ∧ s.rs.state.isCommitting = true
    (∀ r ∈ s.lc.replySlot, exec .transmitEnd s = .next { s with
      lc := { s.lc with tx := .sending (.reply r), replySlot := none } }) ∧
    (∀ n rest, s.lc.replySlot = none → s.lc.notices = n :: rest → s.rs.restartPending = false →
      exec .transmitEnd s = .next { s with
        lc := { s.lc with tx := .sending (.notice n), notices := rest, early := s.lc.early.tail } }) ∧
    (∀ (i : Nat) (n : Notice), s.lc.replySlot = none → waits → s.lc.notices[i]? = some n → s.lc.early[i]? = some true →
      (∀ j < i, s.lc.early[j]? = some false) → exec .transmitEnd s = .next { s with
        lc := { s.lc with
          tx := .sending (.notice n), notices := s.lc.notices.eraseIdx i, early := s.lc.early.eraseIdx i } }) ∧
    (s.lc.replySlot = none →
      (s.rs.restartPending = false ∧ s.lc.notices = []) ∨ (waits ∧ true ∉ s.lc.early) ∨
        (s.rs.restartPending = true ∧ s.rs.state.isCommitting = false) →
      exec .transmitEnd s = .next { s with lc := { s.lc with tx := .free } })
end

