-- ==== Sys2Proof/Laws/State.lean ====
section
/-! SUPPORT. What each update of the state does to each of its fields. -/

namespace Sys2Proof.Machine

/-! ## `onMlu` -/

@[simp] theorem onMlu_scu (f : Mlu → Mlu) (s : State) :
    (onMlu f s).scu = s.scu := rfl
@[simp] theorem onMlu_mlu (f : Mlu → Mlu) (s : State) :
    (onMlu f s).mlu = f s.mlu := rfl
@[simp] theorem onMlu_ps (f : Mlu → Mlu) (s : State) :
    (onMlu f s).ps = s.ps := rfl
@[simp] theorem onMlu_zt (f : Mlu → Mlu) (s : State) :
    (onMlu f s).zt = s.zt := rfl
@[simp] theorem onMlu_sl (f : Mlu → Mlu) (s : State) :
    (onMlu f s).sl = s.sl := rfl
@[simp] theorem onMlu_ct (f : Mlu → Mlu) (s : State) :
    (onMlu f s).ct = s.ct := rfl
@[simp] theorem onMlu_lr (f : Mlu → Mlu) (s : State) :
    (onMlu f s).lr = s.lr := rfl
@[simp] theorem onMlu_em (f : Mlu → Mlu) (s : State) :
    (onMlu f s).em = s.em := rfl
@[simp] theorem onMlu_st (f : Mlu → Mlu) (s : State) :
    (onMlu f s).st = s.st := rfl
@[simp] theorem onMlu_rs (f : Mlu → Mlu) (s : State) :
    (onMlu f s).rs = s.rs := rfl
@[simp] theorem onMlu_lc (f : Mlu → Mlu) (s : State) :
    (onMlu f s).lc = s.lc := rfl
@[simp] theorem onMlu_powered (f : Mlu → Mlu) (s : State) :
    (onMlu f s).powered = s.powered := rfl
@[simp] theorem onMlu_choices (f : Mlu → Mlu) (s : State) :
    (onMlu f s).choices = s.choices := rfl
@[simp] theorem onMlu_pending (f : Mlu → Mlu) (s : State) :
    (onMlu f s).pending = s.pending := rfl

/-! ## `onEm` -/

@[simp] theorem onEm_scu (f : Em → Em) (s : State) :
    (onEm f s).scu = s.scu := rfl
@[simp] theorem onEm_mlu (f : Em → Em) (s : State) :
    (onEm f s).mlu = s.mlu := rfl
@[simp] theorem onEm_ps (f : Em → Em) (s : State) :
    (onEm f s).ps = s.ps := rfl
@[simp] theorem onEm_zt (f : Em → Em) (s : State) :
    (onEm f s).zt = s.zt := rfl
@[simp] theorem onEm_sl (f : Em → Em) (s : State) :
    (onEm f s).sl = s.sl := rfl
@[simp] theorem onEm_ct (f : Em → Em) (s : State) :
    (onEm f s).ct = s.ct := rfl
@[simp] theorem onEm_lr (f : Em → Em) (s : State) :
    (onEm f s).lr = s.lr := rfl
@[simp] theorem onEm_em (f : Em → Em) (s : State) :
    (onEm f s).em = f s.em := rfl
@[simp] theorem onEm_st (f : Em → Em) (s : State) :
    (onEm f s).st = s.st := rfl
@[simp] theorem onEm_rs (f : Em → Em) (s : State) :
    (onEm f s).rs = s.rs := rfl
@[simp] theorem onEm_lc (f : Em → Em) (s : State) :
    (onEm f s).lc = s.lc := rfl
@[simp] theorem onEm_powered (f : Em → Em) (s : State) :
    (onEm f s).powered = s.powered := rfl
@[simp] theorem onEm_choices (f : Em → Em) (s : State) :
    (onEm f s).choices = s.choices := rfl
@[simp] theorem onEm_pending (f : Em → Em) (s : State) :
    (onEm f s).pending = s.pending := rfl

/-! ## `onLr` -/

@[simp] theorem onLr_scu (f : Lr → Lr) (s : State) :
    (onLr f s).scu = s.scu := rfl
@[simp] theorem onLr_mlu (f : Lr → Lr) (s : State) :
    (onLr f s).mlu = s.mlu := rfl
@[simp] theorem onLr_ps (f : Lr → Lr) (s : State) :
    (onLr f s).ps = s.ps := rfl
@[simp] theorem onLr_zt (f : Lr → Lr) (s : State) :
    (onLr f s).zt = s.zt := rfl
@[simp] theorem onLr_sl (f : Lr → Lr) (s : State) :
    (onLr f s).sl = s.sl := rfl
@[simp] theorem onLr_ct (f : Lr → Lr) (s : State) :
    (onLr f s).ct = s.ct := rfl
@[simp] theorem onLr_lr (f : Lr → Lr) (s : State) :
    (onLr f s).lr = f s.lr := rfl
@[simp] theorem onLr_em (f : Lr → Lr) (s : State) :
    (onLr f s).em = s.em := rfl
@[simp] theorem onLr_st (f : Lr → Lr) (s : State) :
    (onLr f s).st = s.st := rfl
@[simp] theorem onLr_rs (f : Lr → Lr) (s : State) :
    (onLr f s).rs = s.rs := rfl
@[simp] theorem onLr_lc (f : Lr → Lr) (s : State) :
    (onLr f s).lc = s.lc := rfl
@[simp] theorem onLr_powered (f : Lr → Lr) (s : State) :
    (onLr f s).powered = s.powered := rfl
@[simp] theorem onLr_choices (f : Lr → Lr) (s : State) :
    (onLr f s).choices = s.choices := rfl
@[simp] theorem onLr_pending (f : Lr → Lr) (s : State) :
    (onLr f s).pending = s.pending := rfl

/-! ## `onSl` -/

@[simp] theorem onSl_scu (f : Sl → Sl) (s : State) :
    (onSl f s).scu = s.scu := rfl
@[simp] theorem onSl_mlu (f : Sl → Sl) (s : State) :
    (onSl f s).mlu = s.mlu := rfl
@[simp] theorem onSl_ps (f : Sl → Sl) (s : State) :
    (onSl f s).ps = s.ps := rfl
@[simp] theorem onSl_zt (f : Sl → Sl) (s : State) :
    (onSl f s).zt = s.zt := rfl
@[simp] theorem onSl_sl (f : Sl → Sl) (s : State) :
    (onSl f s).sl = f s.sl := rfl
@[simp] theorem onSl_ct (f : Sl → Sl) (s : State) :
    (onSl f s).ct = s.ct := rfl
@[simp] theorem onSl_lr (f : Sl → Sl) (s : State) :
    (onSl f s).lr = s.lr := rfl
@[simp] theorem onSl_em (f : Sl → Sl) (s : State) :
    (onSl f s).em = s.em := rfl
@[simp] theorem onSl_st (f : Sl → Sl) (s : State) :
    (onSl f s).st = s.st := rfl
@[simp] theorem onSl_rs (f : Sl → Sl) (s : State) :
    (onSl f s).rs = s.rs := rfl
@[simp] theorem onSl_lc (f : Sl → Sl) (s : State) :
    (onSl f s).lc = s.lc := rfl
@[simp] theorem onSl_powered (f : Sl → Sl) (s : State) :
    (onSl f s).powered = s.powered := rfl
@[simp] theorem onSl_choices (f : Sl → Sl) (s : State) :
    (onSl f s).choices = s.choices := rfl
@[simp] theorem onSl_pending (f : Sl → Sl) (s : State) :
    (onSl f s).pending = s.pending := rfl

/-! ## `onCt` -/

@[simp] theorem onCt_scu (f : Ct → Ct) (s : State) :
    (onCt f s).scu = s.scu := rfl
@[simp] theorem onCt_mlu (f : Ct → Ct) (s : State) :
    (onCt f s).mlu = s.mlu := rfl
@[simp] theorem onCt_ps (f : Ct → Ct) (s : State) :
    (onCt f s).ps = s.ps := rfl
@[simp] theorem onCt_zt (f : Ct → Ct) (s : State) :
    (onCt f s).zt = s.zt := rfl
@[simp] theorem onCt_sl (f : Ct → Ct) (s : State) :
    (onCt f s).sl = s.sl := rfl
@[simp] theorem onCt_ct (f : Ct → Ct) (s : State) :
    (onCt f s).ct = f s.ct := rfl
@[simp] theorem onCt_lr (f : Ct → Ct) (s : State) :
    (onCt f s).lr = s.lr := rfl
@[simp] theorem onCt_em (f : Ct → Ct) (s : State) :
    (onCt f s).em = s.em := rfl
@[simp] theorem onCt_st (f : Ct → Ct) (s : State) :
    (onCt f s).st = s.st := rfl
@[simp] theorem onCt_rs (f : Ct → Ct) (s : State) :
    (onCt f s).rs = s.rs := rfl
@[simp] theorem onCt_lc (f : Ct → Ct) (s : State) :
    (onCt f s).lc = s.lc := rfl
@[simp] theorem onCt_powered (f : Ct → Ct) (s : State) :
    (onCt f s).powered = s.powered := rfl
@[simp] theorem onCt_choices (f : Ct → Ct) (s : State) :
    (onCt f s).choices = s.choices := rfl
@[simp] theorem onCt_pending (f : Ct → Ct) (s : State) :
    (onCt f s).pending = s.pending := rfl

/-! ## `onPs` -/

@[simp] theorem onPs_scu (f : Ps → Ps) (s : State) :
    (onPs f s).scu = s.scu := rfl
@[simp] theorem onPs_mlu (f : Ps → Ps) (s : State) :
    (onPs f s).mlu = s.mlu := rfl
@[simp] theorem onPs_ps (f : Ps → Ps) (s : State) :
    (onPs f s).ps = f s.ps := rfl
@[simp] theorem onPs_zt (f : Ps → Ps) (s : State) :
    (onPs f s).zt = s.zt := rfl
@[simp] theorem onPs_sl (f : Ps → Ps) (s : State) :
    (onPs f s).sl = s.sl := rfl
@[simp] theorem onPs_ct (f : Ps → Ps) (s : State) :
    (onPs f s).ct = s.ct := rfl
@[simp] theorem onPs_lr (f : Ps → Ps) (s : State) :
    (onPs f s).lr = s.lr := rfl
@[simp] theorem onPs_em (f : Ps → Ps) (s : State) :
    (onPs f s).em = s.em := rfl
@[simp] theorem onPs_st (f : Ps → Ps) (s : State) :
    (onPs f s).st = s.st := rfl
@[simp] theorem onPs_rs (f : Ps → Ps) (s : State) :
    (onPs f s).rs = s.rs := rfl
@[simp] theorem onPs_lc (f : Ps → Ps) (s : State) :
    (onPs f s).lc = s.lc := rfl
@[simp] theorem onPs_powered (f : Ps → Ps) (s : State) :
    (onPs f s).powered = s.powered := rfl
@[simp] theorem onPs_choices (f : Ps → Ps) (s : State) :
    (onPs f s).choices = s.choices := rfl
@[simp] theorem onPs_pending (f : Ps → Ps) (s : State) :
    (onPs f s).pending = s.pending := rfl

/-! ## `onChannel` -/

@[simp] theorem onChannel_scu (ch : Fin 6) (f : Channel → Channel) (s : State) :
    (onChannel ch f s).scu = s.scu.set ch (f s.scu[ch]) := rfl
@[simp] theorem onChannel_mlu (ch : Fin 6) (f : Channel → Channel) (s : State) :
    (onChannel ch f s).mlu = s.mlu := rfl
@[simp] theorem onChannel_ps (ch : Fin 6) (f : Channel → Channel) (s : State) :
    (onChannel ch f s).ps = s.ps := rfl
@[simp] theorem onChannel_zt (ch : Fin 6) (f : Channel → Channel) (s : State) :
    (onChannel ch f s).zt = s.zt := rfl
@[simp] theorem onChannel_sl (ch : Fin 6) (f : Channel → Channel) (s : State) :
    (onChannel ch f s).sl = s.sl := rfl
@[simp] theorem onChannel_ct (ch : Fin 6) (f : Channel → Channel) (s : State) :
    (onChannel ch f s).ct = s.ct := rfl
@[simp] theorem onChannel_lr (ch : Fin 6) (f : Channel → Channel) (s : State) :
    (onChannel ch f s).lr = s.lr := rfl
@[simp] theorem onChannel_em (ch : Fin 6) (f : Channel → Channel) (s : State) :
    (onChannel ch f s).em = s.em := rfl
@[simp] theorem onChannel_st (ch : Fin 6) (f : Channel → Channel) (s : State) :
    (onChannel ch f s).st = s.st := rfl
@[simp] theorem onChannel_rs (ch : Fin 6) (f : Channel → Channel) (s : State) :
    (onChannel ch f s).rs = s.rs := rfl
@[simp] theorem onChannel_lc (ch : Fin 6) (f : Channel → Channel) (s : State) :
    (onChannel ch f s).lc = s.lc := rfl
@[simp] theorem onChannel_powered (ch : Fin 6) (f : Channel → Channel) (s : State) :
    (onChannel ch f s).powered = s.powered := rfl
@[simp] theorem onChannel_choices (ch : Fin 6) (f : Channel → Channel) (s : State) :
    (onChannel ch f s).choices = s.choices := rfl
@[simp] theorem onChannel_pending (ch : Fin 6) (f : Channel → Channel) (s : State) :
    (onChannel ch f s).pending = s.pending := rfl

/-! ## `onZone` -/

@[simp] theorem onZone_scu (i : Fin 16) (f : ZoneEntry → ZoneEntry) (s : State) :
    (onZone i f s).scu = s.scu := rfl
@[simp] theorem onZone_mlu (i : Fin 16) (f : ZoneEntry → ZoneEntry) (s : State) :
    (onZone i f s).mlu = s.mlu := rfl
@[simp] theorem onZone_ps (i : Fin 16) (f : ZoneEntry → ZoneEntry) (s : State) :
    (onZone i f s).ps = s.ps := rfl
@[simp] theorem onZone_zt (i : Fin 16) (f : ZoneEntry → ZoneEntry) (s : State) :
    (onZone i f s).zt = { s.zt with zones := s.zt.zones.set i (f s.zt.zones[i]) } := rfl
@[simp] theorem onZone_sl (i : Fin 16) (f : ZoneEntry → ZoneEntry) (s : State) :
    (onZone i f s).sl = s.sl := rfl
@[simp] theorem onZone_ct (i : Fin 16) (f : ZoneEntry → ZoneEntry) (s : State) :
    (onZone i f s).ct = s.ct := rfl
@[simp] theorem onZone_lr (i : Fin 16) (f : ZoneEntry → ZoneEntry) (s : State) :
    (onZone i f s).lr = s.lr := rfl
@[simp] theorem onZone_em (i : Fin 16) (f : ZoneEntry → ZoneEntry) (s : State) :
    (onZone i f s).em = s.em := rfl
@[simp] theorem onZone_st (i : Fin 16) (f : ZoneEntry → ZoneEntry) (s : State) :
    (onZone i f s).st = s.st := rfl
@[simp] theorem onZone_rs (i : Fin 16) (f : ZoneEntry → ZoneEntry) (s : State) :
    (onZone i f s).rs = s.rs := rfl
@[simp] theorem onZone_lc (i : Fin 16) (f : ZoneEntry → ZoneEntry) (s : State) :
    (onZone i f s).lc = s.lc := rfl
@[simp] theorem onZone_powered (i : Fin 16) (f : ZoneEntry → ZoneEntry) (s : State) :
    (onZone i f s).powered = s.powered := rfl
@[simp] theorem onZone_choices (i : Fin 16) (f : ZoneEntry → ZoneEntry) (s : State) :
    (onZone i f s).choices = s.choices := rfl
@[simp] theorem onZone_pending (i : Fin 16) (f : ZoneEntry → ZoneEntry) (s : State) :
    (onZone i f s).pending = s.pending := rfl

/-! ## `setEntry` -/

@[simp] theorem setEntry_scu (i : Fin 24) (e : Option ServiceEntry) (s : State) :
    (setEntry i e s).scu = s.scu := rfl
@[simp] theorem setEntry_mlu (i : Fin 24) (e : Option ServiceEntry) (s : State) :
    (setEntry i e s).mlu = s.mlu := rfl
@[simp] theorem setEntry_ps (i : Fin 24) (e : Option ServiceEntry) (s : State) :
    (setEntry i e s).ps = s.ps := rfl
@[simp] theorem setEntry_zt (i : Fin 24) (e : Option ServiceEntry) (s : State) :
    (setEntry i e s).zt = s.zt := rfl
@[simp] theorem setEntry_sl (i : Fin 24) (e : Option ServiceEntry) (s : State) :
    (setEntry i e s).sl = s.sl := rfl
@[simp] theorem setEntry_ct (i : Fin 24) (e : Option ServiceEntry) (s : State) :
    (setEntry i e s).ct = s.ct := rfl
@[simp] theorem setEntry_lr (i : Fin 24) (e : Option ServiceEntry) (s : State) :
    (setEntry i e s).lr = s.lr := rfl
@[simp] theorem setEntry_em (i : Fin 24) (e : Option ServiceEntry) (s : State) :
    (setEntry i e s).em = s.em := rfl
@[simp] theorem setEntry_st (i : Fin 24) (e : Option ServiceEntry) (s : State) :
    (setEntry i e s).st = { s.st with entries := s.st.entries.set i e } := rfl
@[simp] theorem setEntry_rs (i : Fin 24) (e : Option ServiceEntry) (s : State) :
    (setEntry i e s).rs = s.rs := rfl
@[simp] theorem setEntry_lc (i : Fin 24) (e : Option ServiceEntry) (s : State) :
    (setEntry i e s).lc = s.lc := rfl
@[simp] theorem setEntry_powered (i : Fin 24) (e : Option ServiceEntry) (s : State) :
    (setEntry i e s).powered = s.powered := rfl
@[simp] theorem setEntry_choices (i : Fin 24) (e : Option ServiceEntry) (s : State) :
    (setEntry i e s).choices = s.choices := rfl
@[simp] theorem setEntry_pending (i : Fin 24) (e : Option ServiceEntry) (s : State) :
    (setEntry i e s).pending = s.pending := rfl

/-! ## `setLoad` -/

@[simp] theorem setLoad_scu (l : Load) (s : State) :
    (setLoad l s).scu = s.scu := rfl
@[simp] theorem setLoad_mlu (l : Load) (s : State) :
    (setLoad l s).mlu = s.mlu := rfl
@[simp] theorem setLoad_ps (l : Load) (s : State) :
    (setLoad l s).ps = s.ps := rfl
@[simp] theorem setLoad_zt (l : Load) (s : State) :
    (setLoad l s).zt = s.zt := rfl
@[simp] theorem setLoad_sl (l : Load) (s : State) :
    (setLoad l s).sl = s.sl := rfl
@[simp] theorem setLoad_ct (l : Load) (s : State) :
    (setLoad l s).ct = s.ct := rfl
@[simp] theorem setLoad_lr (l : Load) (s : State) :
    (setLoad l s).lr = { s.lr with openLoad := some l } := rfl
@[simp] theorem setLoad_em (l : Load) (s : State) :
    (setLoad l s).em = s.em := rfl
@[simp] theorem setLoad_st (l : Load) (s : State) :
    (setLoad l s).st = s.st := rfl
@[simp] theorem setLoad_rs (l : Load) (s : State) :
    (setLoad l s).rs = s.rs := rfl
@[simp] theorem setLoad_lc (l : Load) (s : State) :
    (setLoad l s).lc = s.lc := rfl
@[simp] theorem setLoad_powered (l : Load) (s : State) :
    (setLoad l s).powered = s.powered := rfl
@[simp] theorem setLoad_choices (l : Load) (s : State) :
    (setLoad l s).choices = s.choices := rfl
@[simp] theorem setLoad_pending (l : Load) (s : State) :
    (setLoad l s).pending = s.pending := rfl

/-! ## `markRetained` -/

@[simp] theorem markRetained_scu (s : State) :
    (markRetained s).scu = s.scu := rfl
@[simp] theorem markRetained_mlu (s : State) :
    (markRetained s).mlu = s.mlu := rfl
@[simp] theorem markRetained_ps (s : State) :
    (markRetained s).ps = s.ps := rfl
@[simp] theorem markRetained_zt (s : State) :
    (markRetained s).zt = s.zt := rfl
@[simp] theorem markRetained_sl (s : State) :
    (markRetained s).sl = s.sl := rfl
@[simp] theorem markRetained_ct (s : State) :
    (markRetained s).ct = s.ct := rfl
@[simp] theorem markRetained_lr (s : State) :
    (markRetained s).lr = s.lr := rfl
@[simp] theorem markRetained_em (s : State) :
    (markRetained s).em = s.em := rfl
@[simp] theorem markRetained_st (s : State) :
    (markRetained s).st = s.st := rfl
@[simp] theorem markRetained_rs (s : State) :
    (markRetained s).rs = Rs.mark s.rs := rfl
@[simp] theorem markRetained_lc (s : State) :
    (markRetained s).lc = s.lc := rfl
@[simp] theorem markRetained_powered (s : State) :
    (markRetained s).powered = s.powered := rfl
@[simp] theorem markRetained_choices (s : State) :
    (markRetained s).choices = s.choices := rfl
@[simp] theorem markRetained_pending (s : State) :
    (markRetained s).pending = s.pending := rfl

/-! ## `onLinkStats` -/

@[simp] theorem onLinkStats_scu (f : LinkStats → LinkStats) (s : State) :
    (onLinkStats f s).scu = s.scu := rfl
@[simp] theorem onLinkStats_mlu (f : LinkStats → LinkStats) (s : State) :
    (onLinkStats f s).mlu = s.mlu := rfl
@[simp] theorem onLinkStats_ps (f : LinkStats → LinkStats) (s : State) :
    (onLinkStats f s).ps = s.ps := rfl
@[simp] theorem onLinkStats_zt (f : LinkStats → LinkStats) (s : State) :
    (onLinkStats f s).zt = s.zt := rfl
@[simp] theorem onLinkStats_sl (f : LinkStats → LinkStats) (s : State) :
    (onLinkStats f s).sl = s.sl := rfl
@[simp] theorem onLinkStats_ct (f : LinkStats → LinkStats) (s : State) :
    (onLinkStats f s).ct = s.ct := rfl
@[simp] theorem onLinkStats_lr (f : LinkStats → LinkStats) (s : State) :
    (onLinkStats f s).lr = s.lr := rfl
@[simp] theorem onLinkStats_em (f : LinkStats → LinkStats) (s : State) :
    (onLinkStats f s).em = s.em := rfl
@[simp] theorem onLinkStats_st (f : LinkStats → LinkStats) (s : State) :
    (onLinkStats f s).st = s.st := rfl
@[simp] theorem onLinkStats_rs (f : LinkStats → LinkStats) (s : State) :
    (onLinkStats f s).rs = s.rs := rfl
@[simp] theorem onLinkStats_lc (f : LinkStats → LinkStats) (s : State) :
    (onLinkStats f s).lc = { s.lc with stats := f s.lc.stats } := rfl
@[simp] theorem onLinkStats_powered (f : LinkStats → LinkStats) (s : State) :
    (onLinkStats f s).powered = s.powered := rfl
@[simp] theorem onLinkStats_choices (f : LinkStats → LinkStats) (s : State) :
    (onLinkStats f s).choices = s.choices := rfl
@[simp] theorem onLinkStats_pending (f : LinkStats → LinkStats) (s : State) :
    (onLinkStats f s).pending = s.pending := rfl

/-! ## `takeFrame` -/

@[simp] theorem takeFrame_scu (s : State) :
    (takeFrame s).scu = s.scu := rfl
@[simp] theorem takeFrame_mlu (s : State) :
    (takeFrame s).mlu = s.mlu := rfl
@[simp] theorem takeFrame_ps (s : State) :
    (takeFrame s).ps = s.ps := rfl
@[simp] theorem takeFrame_zt (s : State) :
    (takeFrame s).zt = s.zt := rfl
@[simp] theorem takeFrame_sl (s : State) :
    (takeFrame s).sl = s.sl := rfl
@[simp] theorem takeFrame_ct (s : State) :
    (takeFrame s).ct = s.ct := rfl
@[simp] theorem takeFrame_lr (s : State) :
    (takeFrame s).lr = s.lr := rfl
@[simp] theorem takeFrame_em (s : State) :
    (takeFrame s).em = s.em := rfl
@[simp] theorem takeFrame_st (s : State) :
    (takeFrame s).st = s.st := rfl
@[simp] theorem takeFrame_rs (s : State) :
    (takeFrame s).rs = s.rs := rfl
@[simp] theorem takeFrame_lc (s : State) :
    (takeFrame s).lc = { s.lc with inbox := s.lc.inbox.tail, interpreter := .interpreting } := rfl
@[simp] theorem takeFrame_powered (s : State) :
    (takeFrame s).powered = s.powered := rfl
@[simp] theorem takeFrame_choices (s : State) :
    (takeFrame s).choices = s.choices := rfl
@[simp] theorem takeFrame_pending (s : State) :
    (takeFrame s).pending = s.pending := rfl

/-! ## `pump` -/

@[simp] theorem pump_scu (s : State) :
    (pump s).scu = s.scu := rfl
@[simp] theorem pump_mlu (s : State) :
    (pump s).mlu = s.mlu := rfl
@[simp] theorem pump_ps (s : State) :
    (pump s).ps = s.ps := rfl
@[simp] theorem pump_zt (s : State) :
    (pump s).zt = s.zt := rfl
@[simp] theorem pump_sl (s : State) :
    (pump s).sl = s.sl := rfl
@[simp] theorem pump_ct (s : State) :
    (pump s).ct = s.ct := rfl
@[simp] theorem pump_lr (s : State) :
    (pump s).lr = s.lr := rfl
@[simp] theorem pump_em (s : State) :
    (pump s).em = s.em := rfl
@[simp] theorem pump_st (s : State) :
    (pump s).st = s.st := rfl
@[simp] theorem pump_rs (s : State) :
    (pump s).rs = s.rs := rfl
@[simp] theorem pump_lc (s : State) :
    (pump s).lc = s.lc.pump (nextNotice s.rs s.lc) := rfl
@[simp] theorem pump_powered (s : State) :
    (pump s).powered = s.powered := rfl
@[simp] theorem pump_choices (s : State) :
    (pump s).choices = s.choices := rfl
@[simp] theorem pump_pending (s : State) :
    (pump s).pending = s.pending := rfl

/-! ## `queueNotice` -/

@[simp] theorem queueNotice_scu (n : Notice) (s : State) :
    (queueNotice n s).scu = s.scu := rfl
@[simp] theorem queueNotice_mlu (n : Notice) (s : State) :
    (queueNotice n s).mlu = s.mlu := rfl
@[simp] theorem queueNotice_ps (n : Notice) (s : State) :
    (queueNotice n s).ps = s.ps := rfl
@[simp] theorem queueNotice_zt (n : Notice) (s : State) :
    (queueNotice n s).zt = s.zt := rfl
@[simp] theorem queueNotice_sl (n : Notice) (s : State) :
    (queueNotice n s).sl = s.sl := rfl
@[simp] theorem queueNotice_ct (n : Notice) (s : State) :
    (queueNotice n s).ct = s.ct := rfl
@[simp] theorem queueNotice_lr (n : Notice) (s : State) :
    (queueNotice n s).lr = s.lr := rfl
@[simp] theorem queueNotice_em (n : Notice) (s : State) :
    (queueNotice n s).em = s.em := rfl
@[simp] theorem queueNotice_st (n : Notice) (s : State) :
    (queueNotice n s).st = s.st := rfl
@[simp] theorem queueNotice_rs (n : Notice) (s : State) :
    (queueNotice n s).rs = s.rs := rfl
@[simp] theorem queueNotice_lc (n : Notice) (s : State) :
    (queueNotice n s).lc = (s.lc.enqueue n).pump (nextNotice s.rs (s.lc.enqueue n)) := rfl
@[simp] theorem queueNotice_powered (n : Notice) (s : State) :
    (queueNotice n s).powered = s.powered := rfl
@[simp] theorem queueNotice_choices (n : Notice) (s : State) :
    (queueNotice n s).choices = s.choices := rfl
@[simp] theorem queueNotice_pending (n : Notice) (s : State) :
    (queueNotice n s).pending = s.pending := rfl

/-! ## `placeReply` -/

@[simp] theorem placeReply_scu (r : Reply) (s : State) :
    (placeReply r s).scu = s.scu := rfl
@[simp] theorem placeReply_mlu (r : Reply) (s : State) :
    (placeReply r s).mlu = s.mlu := rfl
@[simp] theorem placeReply_ps (r : Reply) (s : State) :
    (placeReply r s).ps = s.ps := rfl
@[simp] theorem placeReply_zt (r : Reply) (s : State) :
    (placeReply r s).zt = s.zt := rfl
@[simp] theorem placeReply_sl (r : Reply) (s : State) :
    (placeReply r s).sl = s.sl := rfl
@[simp] theorem placeReply_ct (r : Reply) (s : State) :
    (placeReply r s).ct = s.ct := rfl
@[simp] theorem placeReply_lr (r : Reply) (s : State) :
    (placeReply r s).lr = s.lr := rfl
@[simp] theorem placeReply_em (r : Reply) (s : State) :
    (placeReply r s).em = s.em := rfl
@[simp] theorem placeReply_st (r : Reply) (s : State) :
    (placeReply r s).st = s.st := rfl
@[simp] theorem placeReply_rs (r : Reply) (s : State) :
    (placeReply r s).rs = s.rs := rfl
@[simp] theorem placeReply_lc (r : Reply) (s : State) :
    (placeReply r s).lc =
      Lc.pump (nextNotice s.rs s.lc) { s.lc with replySlot := some r, interpreter := .idle } := rfl
@[simp] theorem placeReply_powered (r : Reply) (s : State) :
    (placeReply r s).powered = s.powered := rfl
@[simp] theorem placeReply_choices (r : Reply) (s : State) :
    (placeReply r s).choices = s.choices := rfl
@[simp] theorem placeReply_pending (r : Reply) (s : State) :
    (placeReply r s).pending = s.pending := rfl

/-! ## `beginCommit` -/

@[simp] theorem beginCommit_scu (r : Requester) (s : State) :
    (beginCommit r s).scu = s.scu := rfl
@[simp] theorem beginCommit_mlu (r : Requester) (s : State) :
    (beginCommit r s).mlu = s.mlu := rfl
@[simp] theorem beginCommit_ps (r : Requester) (s : State) :
    (beginCommit r s).ps = s.ps := rfl
@[simp] theorem beginCommit_zt (r : Requester) (s : State) :
    (beginCommit r s).zt = s.zt := rfl
@[simp] theorem beginCommit_sl (r : Requester) (s : State) :
    (beginCommit r s).sl = s.sl := rfl
@[simp] theorem beginCommit_ct (r : Requester) (s : State) :
    (beginCommit r s).ct = s.ct := rfl
@[simp] theorem beginCommit_lr (r : Requester) (s : State) :
    (beginCommit r s).lr = s.lr := rfl
@[simp] theorem beginCommit_em (r : Requester) (s : State) :
    (beginCommit r s).em = s.em := rfl
@[simp] theorem beginCommit_st (r : Requester) (s : State) :
    (beginCommit r s).st = s.st := rfl
@[simp] theorem beginCommit_rs (r : Requester) (s : State) :
    (beginCommit r s).rs = { s.rs with
        state := .committing { snapshot := retainedOf s, requester := r, attempt := 1 }, changed := false } := rfl
@[simp] theorem beginCommit_lc (r : Requester) (s : State) :
    (beginCommit r s).lc = s.lc := rfl
@[simp] theorem beginCommit_powered (r : Requester) (s : State) :
    (beginCommit r s).powered = s.powered := rfl
@[simp] theorem beginCommit_choices (r : Requester) (s : State) :
    (beginCommit r s).choices = s.choices := rfl
@[simp] theorem beginCommit_pending (r : Requester) (s : State) :
    (beginCommit r s).pending = s.pending := rfl

/-! ## `State.withPending` -/

@[simp] theorem withPending_scu (q : List Instr) (s : State) :
    (s.withPending q).scu = s.scu := rfl
@[simp] theorem withPending_mlu (q : List Instr) (s : State) :
    (s.withPending q).mlu = s.mlu := rfl
@[simp] theorem withPending_ps (q : List Instr) (s : State) :
    (s.withPending q).ps = s.ps := rfl
@[simp] theorem withPending_zt (q : List Instr) (s : State) :
    (s.withPending q).zt = s.zt := rfl
@[simp] theorem withPending_sl (q : List Instr) (s : State) :
    (s.withPending q).sl = s.sl := rfl
@[simp] theorem withPending_ct (q : List Instr) (s : State) :
    (s.withPending q).ct = s.ct := rfl
@[simp] theorem withPending_lr (q : List Instr) (s : State) :
    (s.withPending q).lr = s.lr := rfl
@[simp] theorem withPending_em (q : List Instr) (s : State) :
    (s.withPending q).em = s.em := rfl
@[simp] theorem withPending_st (q : List Instr) (s : State) :
    (s.withPending q).st = s.st := rfl
@[simp] theorem withPending_rs (q : List Instr) (s : State) :
    (s.withPending q).rs = s.rs := rfl
@[simp] theorem withPending_lc (q : List Instr) (s : State) :
    (s.withPending q).lc = s.lc := rfl
@[simp] theorem withPending_powered (q : List Instr) (s : State) :
    (s.withPending q).powered = s.powered := rfl
@[simp] theorem withPending_choices (q : List Instr) (s : State) :
    (s.withPending q).choices = s.choices := rfl
@[simp] theorem withPending_pending (q : List Instr) (s : State) :
    (s.withPending q).pending = q := rfl

end Sys2Proof.Machine
end

