-- ==== Sys2Proof/Laws/Frames.lean ====
section
/-! SUPPORT. What each shared operation may change: a frame names the blocks an operation may touch, says that the rest of the
state stays, and that the Link Controller differs in its notices and its transmitter alone. -/

namespace Sys2Proof.Machine

/-- The Link Controller differs only as the queueing of notices lets it: nothing but the notices, their loss count, the reply
slot and the transmitter; and an empty reply slot stays empty. A busy transmitter stays as it is, a notice that waits or is
being sent stays in the part unless one of its kind takes its place (R174), and the notices waiting with the frame being sent do
not become fewer (R175). -/
structure Queued (a b : Lc) : Prop where
  assembler   : b.assembler = a.assembler
  lastChar    : b.lastChar = a.lastChar
  inbox       : b.inbox = a.inbox
  interpreter : b.interpreter = a.interpreter
  stats       : b.stats = a.stats
  rate        : b.rate = a.rate
  time        : b.time = a.time
  replySlot   : a.replySlot = none → b.replySlot = none
  busy        : a.tx ≠ .free → b.tx = a.tx
  handed      : ∀ n : Notice, n.replacesItsKind = false → n ∈ a.notices ∨ a.tx = .sending (.notice n) →
    n ∈ b.notices ∨ b.tx = .sending (.notice n)
  number      : a.notices.length + (if a.tx = .free then 0 else 1) ≤ b.notices.length + (if b.tx = .free then 0 else 1)

/-- The blocks an operation may change, beside the notices. -/
structure Blocks where
  scu     : Bool := false
  mlu     : Bool := false
  ps      : Bool := false
  zt      : Bool := false
  sl      : Bool := false
  ct      : Bool := false
  lr      : Bool := false
  em      : Bool := false
  st      : Bool := false
  rs      : Bool := false
  choices : Bool := false
  deriving DecidableEq

/-- Every block of the first set is in the second. -/
def Blocks.within (a b : Blocks) : Bool :=
  (!a.scu || b.scu) && (!a.mlu || b.mlu) && (!a.ps || b.ps) && (!a.zt || b.zt) && (!a.sl || b.sl) && (!a.ct || b.ct) &&
    (!a.lr || b.lr) && (!a.em || b.em) && (!a.st || b.st) && (!a.rs || b.rs) && (!a.choices || b.choices)

/-- `t` differs from `s` in the blocks named and in the notices alone. -/
structure Frame (b : Blocks) (s t : State) : Prop where
  scu     : b.scu = false → t.scu = s.scu
  mlu     : b.mlu = false → t.mlu = s.mlu
  ps      : b.ps = false → t.ps = s.ps
  zt      : b.zt = false → t.zt = s.zt
  sl      : b.sl = false → t.sl = s.sl
  ct      : b.ct = false → t.ct = s.ct
  lr      : b.lr = false → t.lr = s.lr
  em      : b.em = false → t.em = s.em
  st      : b.st = false → t.st = s.st
  rs      : b.rs = false → t.rs = s.rs
  choices : b.choices = false → t.choices = s.choices
  powered : t.powered = s.powered
  pending : t.pending = s.pending
  lc      : Queued s.lc t.lc

theorem Queued.refl (a : Lc) : Queued a a := by constructor <;> simp

theorem Queued.trans {a b c : Lc} (h : Queued a b) (k : Queued b c) : Queued a c where
  assembler := k.assembler.trans h.assembler
  lastChar := k.lastChar.trans h.lastChar
  inbox := k.inbox.trans h.inbox
  interpreter := k.interpreter.trans h.interpreter
  stats := k.stats.trans h.stats
  rate := k.rate.trans h.rate
  time := k.time.trans h.time
  replySlot := fun e => k.replySlot (h.replySlot e)
  busy := fun e => (k.busy (by rw [h.busy e]; exact e)).trans (h.busy e)
  handed := fun n e m => k.handed n e (h.handed n e m)
  number := h.number.trans k.number

theorem Frame.refl (b : Blocks) (s : State) : Frame b s s := by
  constructor <;> intros <;> first | rfl | exact Queued.refl _

theorem Frame.trans {b : Blocks} {s t u : State} (h : Frame b s t) (k : Frame b t u) : Frame b s u where
  scu e := (k.scu e).trans (h.scu e)
  mlu e := (k.mlu e).trans (h.mlu e)
  ps e := (k.ps e).trans (h.ps e)
  zt e := (k.zt e).trans (h.zt e)
  sl e := (k.sl e).trans (h.sl e)
  ct e := (k.ct e).trans (h.ct e)
  lr e := (k.lr e).trans (h.lr e)
  em e := (k.em e).trans (h.em e)
  st e := (k.st e).trans (h.st e)
  rs e := (k.rs e).trans (h.rs e)
  choices e := (k.choices e).trans (h.choices e)
  powered := k.powered.trans h.powered
  pending := k.pending.trans h.pending
  lc := h.lc.trans k.lc

theorem Frame.mono {a b : Blocks} {s t : State} (h : Frame a s t) (w : Blocks.within a b = true) : Frame b s t := by
  simp only [Blocks.within, Bool.and_eq_true, Bool.or_eq_true, Bool.not_eq_true'] at w
  obtain ⟨⟨⟨⟨⟨⟨⟨⟨⟨⟨w1, w2⟩, w3⟩, w4⟩, w5⟩, w6⟩, w7⟩, w8⟩, w9⟩, w10⟩, w11⟩ := w
  constructor
  · exact fun e => h.scu (by simp_all)
  · exact fun e => h.mlu (by simp_all)
  · exact fun e => h.ps (by simp_all)
  · exact fun e => h.zt (by simp_all)
  · exact fun e => h.sl (by simp_all)
  · exact fun e => h.ct (by simp_all)
  · exact fun e => h.lr (by simp_all)
  · exact fun e => h.em (by simp_all)
  · exact fun e => h.st (by simp_all)
  · exact fun e => h.rs (by simp_all)
  · exact fun e => h.choices (by simp_all)
  · exact h.powered
  · exact h.pending
  · exact h.lc

/-! ## Updates of one block -/

theorem onMlu_frame (f : Mlu → Mlu) (s : State) : Frame { mlu := true } s (onMlu f s) := by
  constructor <;> simp [Queued.refl]
theorem onEm_frame (f : Em → Em) (s : State) : Frame { em := true } s (onEm f s) := by
  constructor <;> simp [Queued.refl]
theorem onLr_frame (f : Lr → Lr) (s : State) : Frame { lr := true } s (onLr f s) := by
  constructor <;> simp [Queued.refl]
theorem onSl_frame (f : Sl → Sl) (s : State) : Frame { sl := true } s (onSl f s) := by
  constructor <;> simp [Queued.refl]
theorem onCt_frame (f : Ct → Ct) (s : State) : Frame { ct := true } s (onCt f s) := by
  constructor <;> simp [Queued.refl]
theorem onPs_frame (f : Ps → Ps) (s : State) : Frame { ps := true } s (onPs f s) := by
  constructor <;> simp [Queued.refl]
theorem onChannel_frame (ch : Fin 6) (f : Channel → Channel) (s : State) : Frame { scu := true } s (onChannel ch f s) := by
  constructor <;> simp [Queued.refl]
theorem onZone_frame (k : Fin 16) (f : ZoneEntry → ZoneEntry) (s : State) : Frame { zt := true } s (onZone k f s) := by
  constructor <;> simp [Queued.refl]
theorem setEntry_frame (i : Fin 24) (e : Option ServiceEntry) (s : State) : Frame { st := true } s (setEntry i e s) := by
  constructor <;> simp [Queued.refl]
theorem setLoad_frame (l : Load) (s : State) : Frame { lr := true } s (setLoad l s) := by
  constructor <;> simp [Queued.refl]
theorem markRetained_frame (s : State) : Frame { rs := true } s (markRetained s) := by
  constructor <;> simp [Queued.refl]
theorem beginCommit_frame (r : Requester) (s : State) : Frame { rs := true } s (beginCommit r s) := by
  constructor <;> simp [Queued.refl]

/-! ## Notices -/

theorem enqueue_queued (n : Notice) (lc : Lc) : Queued lc (lc.enqueue n) := by
  unfold Lc.enqueue
  split_ifs with h
  · refine ⟨rfl, rfl, rfl, rfl, rfl, rfl, rfl, id, fun _ => rfl, fun m hm hp => hp.imp_left fun hin => ?_, by simp⟩
    have hk : noticeKind m ≠ noticeKind n := by
      intro e
      cases n <;> cases m <;> simp_all [Notice.replacesItsKind, noticeKind]
    exact List.mem_map.2 ⟨m, hin, by simp [hk]⟩
  · exact ⟨rfl, rfl, rfl, rfl, rfl, rfl, rfl, id, fun _ => rfl, fun m _ hp => hp.imp_left (by simp_all), by simp⟩
  · exact ⟨rfl, rfl, rfl, rfl, rfl, rfl, rfl, id, fun _ => rfl, fun _ _ hp => hp, by simp⟩

theorem pump_queued (next : Option Nat) (lc : Lc) : Queued lc (lc.pump next) := by
  unfold Lc.pump
  split
  · exact Queued.refl _
  · rename_i free
    split
    · refine ⟨rfl, rfl, rfl, rfl, rfl, rfl, rfl, fun _ => rfl, fun h => absurd free h, fun n _ hp => ?_, by simp [free]⟩
      simpa [free] using hp
    · split
      · exact Queued.refl _
      · split
        · exact Queued.refl _
        · rename_i i _ n e
          refine ⟨rfl, rfl, rfl, rfl, rfl, rfl, rfl, id, fun h => absurd free h, fun m _ hp => ?_, ?_⟩
          · simp only [free, reduceCtorEq, or_false] at hp
            by_cases hm : m = n
            · exact .inr (by simp [hm])
            · exact .inl (List.mem_eraseIdx_iff_getElem?.2 (by
                obtain ⟨j, hj⟩ := List.mem_iff_getElem?.1 hp
                exact ⟨j, by rintro rfl; simp_all, hj⟩))
          · have hi : i < lc.notices.length := by
              rw [List.getElem?_eq_some_iff] at e; exact e.1
            simp [free, List.length_eraseIdx, hi]; omega

/-- A notice changes nothing but the Link Controller's queue and transmitter (R174, R175). -/
theorem queueNotice_frame (n : Notice) (s : State) : Frame {} s (queueNotice n s) := by
  constructor <;> intros <;> first | rfl | exact (enqueue_queued n s.lc).trans (pump_queued _ _)

/-! ## Loops and interleavings -/

/-- A loop of operations of one frame has that frame. -/
theorem foldl_frame {α : Type} {b : Blocks} (f : State → α → State) (h : ∀ s a, Frame b s (f s a)) (l : List α) (s : State) :
    Frame b s (l.foldl f s) := by
  induction l generalizing s with
  | nil => exact Frame.refl _ _
  | cons a l ih => exact (h s a).trans (ih (f s a))

/-- What every action of some sequences keeps, and a free choice keeps, their interleaving keeps (assumption log 7). -/
theorem runInterleaved_keeps {P : State → Prop} (hc : ∀ s, P s → P { s with choices := s.choices + 1 }) :
    ∀ (n : Nat) (qs : List (List (State → State))) (s : State),
      (∀ q ∈ qs, ∀ f ∈ q, ∀ s, P s → P (f s)) → P s → P (runInterleaved n qs s) := by
  intro n
  induction n with
  | zero => intro qs s _ h; exact h
  | succ n ih =>
    intro qs s hq h
    have hf : ∀ q ∈ qs.filter (fun q => !q.isEmpty), ∀ f ∈ q, ∀ s, P s → P (f s) :=
      fun q m => hq q (List.mem_of_mem_filter m)
    simp only [runInterleaved]
    split
    · exact h
    · rename_i q e
      rw [e] at hf
      have hq' := hf q (by simp)
      clear e hf hq ih
      induction q generalizing s with
      | nil => exact h
      | cons f q iq =>
        exact iq (f s) (hq' f (by simp) s h) (fun g m => hq' g (by simp [m]))
    · rename_i q r rest e
      rw [e] at hf
      have hlive := hf
      generalize hL : q :: r :: rest = live at *
      have hlen : 0 < live.length := by rw [← hL]; simp
      have hk : Config.freeChoice s.choices % live.length < live.length := Nat.mod_lt _ hlen
      have hmem : live.getD (Config.freeChoice s.choices % live.length) [] ∈ live := by
        rw [List.getD_eq_getElem _ _ hk]; exact List.getElem_mem hk
      apply ih
      · intro q' m f mf
        rcases List.mem_or_eq_of_mem_set m with m | m
        · exact hlive q' m f mf
        · subst m; exact hlive _ hmem f (List.mem_of_mem_tail mf)
      · generalize hC : live.getD (Config.freeChoice s.choices % live.length) [] = c at *
        cases c with
        | nil => exact hc s h
        | cons f c => exact hlive _ hmem f (by simp) _ (hc s h)

/-- What every action keeps, and a free choice keeps, an interleaving keeps. -/
theorem interleave_keeps {P : State → Prop} (hc : ∀ s, P s → P { s with choices := s.choices + 1 })
    (qs : List (List (State → State))) (s : State) (hq : ∀ q ∈ qs, ∀ f ∈ q, ∀ s, P s → P (f s)) (h : P s) :
    P (interleave qs s) := runInterleaved_keeps hc _ qs s hq h

/-- What every action keeps, and a free choice keeps, any order of them keeps. -/
theorem anyOrder_keeps {P : State → Prop} (hc : ∀ s, P s → P { s with choices := s.choices + 1 })
    (fs : List (State → State)) (s : State) (hq : ∀ f ∈ fs, ∀ s, P s → P (f s)) (h : P s) : P (anyOrder fs s) := by
  refine interleave_keeps hc _ s ?_ h
  intro q m f mf
  obtain ⟨g, mg, rfl⟩ := List.mem_map.1 m
  obtain rfl : f = g := by simpa using mf
  exact hq f mg

/-- An interleaving of actions of one frame has that frame and may read free choices. -/
theorem interleave_frame {b : Blocks} (hb : b.choices = true) (qs : List (List (State → State))) (s : State)
    (h : ∀ q ∈ qs, ∀ f ∈ q, ∀ s, Frame b s (f s)) : Frame b s (interleave qs s) := by
  refine interleave_keeps (P := Frame b s) ?_ qs s (fun q m f mf u k => k.trans (h q m f mf u)) (Frame.refl _ _)
  intro u k
  exact k.trans (by constructor <;> simp [hb, Queued.refl])

/-- Any order of actions of one frame has that frame and may read free choices. -/
theorem anyOrder_frame {b : Blocks} (hb : b.choices = true) (fs : List (State → State)) (s : State)
    (h : ∀ f ∈ fs, ∀ s, Frame b s (f s)) : Frame b s (anyOrder fs s) := by
  refine interleave_frame hb _ s ?_
  intro q m f mf
  obtain ⟨g, mg, rfl⟩ := List.mem_map.1 m
  obtain rfl : f = g := by simpa using mf
  exact h f mg

end Sys2Proof.Machine
end

