-- ==== Sys2Proof/Laws/Operations.lean ====
section
/-! SUPPORT. The frame of each shared operation: the blocks it may change beside the notices. -/

namespace Sys2Proof.Machine

/-! ## Machine Line Unit -/

theorem requestSlAlarm_frame (p : AlarmPattern) (s : State) : Frame { mlu := true } s (requestSlAlarm p s) := onMlu_frame _ _
theorem requestPsAlarm_frame (p : AlarmPattern) (s : State) : Frame { mlu := true } s (requestPsAlarm p s) := onMlu_frame _ _
theorem requestZtAlarm_frame (p : AlarmPattern) (s : State) : Frame { mlu := true } s (requestZtAlarm p s) := onMlu_frame _ _

/-- Working the driven pattern out afresh leaves the inputs, the authority and the cut lines as they are. -/
theorem redrive_fields (now : Stamp) (m : Mlu) :
    (Mlu.redrive now m).inputs = m.inputs ∧ (Mlu.redrive now m).authority = m.authority ∧
      (Mlu.redrive now m).cutLines = m.cutLines ∧ (Mlu.redrive now m).cutCopy = m.cutCopy ∧
      (Mlu.redrive now m).slots = m.slots ∧ (Mlu.redrive now m).nextReading = m.nextReading := by
  unfold Mlu.redrive; simp only []; split_ifs <;> simp

/-! ## Economy Manager -/

theorem settleAdvice_frame (s : State) : Frame { em := true } s (settleAdvice s) := by
  unfold settleAdvice; simp only []; split_ifs
  · exact Frame.refl _ _
  · exact (onEm_frame _ _).trans ((queueNotice_frame _ _).mono rfl)

/-- Settling the advice makes the advice that stands the last one, and changes nothing else of the Economy Manager (R145). -/
theorem settleAdvice_em (s : State) : (settleAdvice s).em = { s.em with lastAdvice := Em.advice s.em } := by
  unfold settleAdvice; simp only []; split_ifs with h
  · rw [h]
  · rfl

theorem requestCommit_frame (s : State) : Frame { rs := true } s (requestCommit s) := by
  unfold requestCommit; split_ifs
  · exact Frame.refl _ _
  · exact beginCommit_frame _ _

theorem enterPending_frame (s : State) : Frame { em := true, rs := true } s (enterPending s) := by
  unfold enterPending; simp only []
  have h := (onEm_frame (Em.setMode s.now .shutdownPending) s).mono (b := { em := true, rs := true }) rfl
  split
  · exact h.trans ((onEm_frame _ _).mono rfl)
  · exact h.trans (((requestCommit_frame _).mono rfl).trans ((onEm_frame _ _).mono rfl))
  · exact h.trans (((requestCommit_frame _).mono rfl).trans ((onEm_frame _ _).mono rfl))
  · exact h.trans ((onEm_frame _ _).mono rfl)

theorem testShutdown_frame (s : State) : Frame { em := true, rs := true } s (testShutdown s) := by
  unfold testShutdown; split_ifs
  · exact enterPending_frame s
  · exact (onEm_frame _ _).mono rfl

theorem expireShutdown_frame (t : Stamp) (s : State) : Frame { em := true, rs := true } s (expireShutdown t s) :=
  ((onEm_frame _ _).mono rfl).trans (testShutdown_frame _)

theorem reworkIdle_frame (s : State) : Frame { em := true } s (reworkIdle s) := by
  unfold reworkIdle; split_ifs
  · exact onEm_frame _ _
  · exact Frame.refl _ _

theorem reworkShutdown_frame (s : State) : Frame { em := true, rs := true } s (reworkShutdown s) := by
  unfold reworkShutdown; split
  · split_ifs
    · exact expireShutdown_frame _ _
    · exact (onEm_frame _ _).mono rfl
  · exact Frame.refl _ _

theorem takeActivity_frame (s : State) : Frame { em := true } s (takeActivity s) :=
  (onEm_frame _ _).trans (settleAdvice_frame _)

theorem takeSeatChange_frame (s : State) : Frame { em := true } s (takeSeatChange s) :=
  (reworkIdle_frame _).trans (settleAdvice_frame _)

theorem takePhaseChange_frame (p : Phase) (s : State) : Frame { em := true } s (takePhaseChange p s) :=
  (onEm_frame _ _).trans (settleAdvice_frame _)

theorem takeCap_frame (cap : Nat) (s : State) : Frame { em := true } s (takeCap cap s) :=
  (onEm_frame _ _).trans (settleAdvice_frame _)

theorem takeCommitEnd_frame (failed : Bool) (s : State) : Frame { em := true, rs := true } s (takeCommitEnd failed s) := by
  unfold takeCommitEnd; split
  · exact Frame.refl _ _
  · exact ((requestCommit_frame _).mono rfl).trans (((onEm_frame _ _).mono rfl).trans ((settleAdvice_frame _).mono rfl))
  · exact ((onEm_frame _ _).mono rfl).trans ((settleAdvice_frame _).mono rfl)

theorem writeEconomy_frame (e : EconomySettings) (s : State) : Frame { em := true, rs := true } s (writeEconomy e s) := by
  unfold writeEconomy; simp only []
  refine Frame.trans ?_ (((onEm_frame _ _).mono rfl).trans ((settleAdvice_frame _).mono rfl))
  refine Frame.trans ?_ (reworkShutdown_frame _)
  refine Frame.trans ?_ ((reworkIdle_frame _).mono rfl)
  split_ifs
  · exact ((onEm_frame _ _).mono rfl).trans ((markRetained_frame _).mono rfl)
  · exact (onEm_frame _ _).mono rfl

/-! ## Service Table -/

theorem settleCap_frame (s : State) : Frame { em := true, st := true } s (settleCap s) := by
  unfold settleCap; simp only []; split_ifs
  · exact Frame.refl _ _
  · refine Frame.trans ?_ ((takeCap_frame _ _).mono rfl)
    constructor <;> simp [Queued.refl]

theorem incrementEntry_frame (b : Basis) (n : Nat) (i : Fin 24) (s : State) :
    Frame { st := true } s (incrementEntry b n i s) := by
  unfold incrementEntry; split
  · exact Frame.refl _ _
  · simp only []; split_ifs
    · exact (setEntry_frame _ _ _).trans ((queueNotice_frame _ _).mono rfl)
    · exact setEntry_frame _ _ _
    · exact Frame.refl _ _

/-- An increment changes the service items, the store's mark, and the power cap with its advice (R152, R154). -/
theorem takeIncrement_frame (b : Basis) (n : Nat) (s : State) :
    Frame { em := true, st := true, rs := true } s (takeIncrement b n s) := by
  unfold takeIncrement; simp only []; split_ifs
  · exact Frame.refl _ _
  · exact ((foldl_frame _ (fun s i => (incrementEntry_frame b n i s).mono rfl) _ _).trans
      ((markRetained_frame _).mono rfl)).trans ((settleCap_frame _).mono rfl)
  · exact (foldl_frame _ (fun s i => (incrementEntry_frame b n i s).mono rfl) _ _).trans ((settleCap_frame _).mono rfl)

theorem replaceItem_frame (i : Fin 24) (e : Option ServiceItem) (s : State) :
    Frame { st := true, rs := true } s (replaceItem i e s) := by
  unfold replaceItem; simp only []; split_ifs
  · exact ((setEntry_frame _ _ _).mono rfl).trans ((markRetained_frame _).mono rfl)
  · exact (setEntry_frame _ _ _).mono rfl

/-! ## Load Recorder -/

theorem loadNotice_frame (e : LoadEventKind) (l : Load) (s : State) : Frame {} s (loadNotice e l s) := queueNotice_frame _ _

theorem openLoadIn_frame (b : Fin 16) (s : State) : Frame { lr := true } s (openLoadIn b s) := by
  unfold openLoadIn
  refine Frame.trans ?_ (onLr_frame _ _)
  exact (setLoad_frame _ _).trans ((loadNotice_frame _ _ _).mono rfl)

/-- A closing changes the Load Recorder alone (R127). -/
theorem closeLoad_frame (how : LoadState) (s : State) : Frame { lr := true } s (closeLoad how s) := by
  unfold closeLoad; split
  · exact Frame.refl _ _
  · exact ((loadNotice_frame _ _ _).mono rfl).trans (onLr_frame _ _)

theorem readyLoad_frame (b : Fin 16) (s : State) : Frame { lr := true } s (readyLoad b s) := by
  unfold readyLoad; split
  · exact openLoadIn_frame _ _
  · split_ifs
    · exact Frame.refl _ _
    · exact (closeLoad_frame _ _).trans (openLoadIn_frame _ _)

theorem testTarget_frame (s : State) : Frame { lr := true } s (testTarget s) := by
  unfold testTarget; split
  · exact Frame.refl _ _
  · simp only []; split_ifs
    · exact (setLoad_frame _ _).trans ((loadNotice_frame _ _ _).mono rfl)
    · exact Frame.refl _ _

theorem testOverload_frame (s : State) : Frame { lr := true } s (testOverload s) := by
  unfold testOverload; split
  · exact Frame.refl _ _
  · simp only []; split_ifs
    · exact (setLoad_frame _ _).trans ((loadNotice_frame _ _ _).mono rfl)
    · exact Frame.refl _ _

theorem testLastPass_frame (s : State) : Frame { lr := true } s (testLastPass s) := by
  unfold testLastPass; split
  · exact Frame.refl _ _
  · split
    · exact (loadNotice_frame _ _ _).mono rfl
    · exact Frame.refl _ _

theorem testFull_frame (s : State) : Frame { lr := true } s (testFull s) := by
  unfold testFull; split
  · exact Frame.refl _ _
  · split_ifs
    · exact closeLoad_frame _ _
    · exact Frame.refl _ _

theorem filePass_frame (p : Pass) (b : Fin 16) (s : State) : Frame { lr := true } s (filePass p b s) := by
  unfold filePass; simp only []; split
  · exact readyLoad_frame _ _
  · exact (readyLoad_frame _ _).trans ((setLoad_frame _ _).trans (((queueNotice_frame _ _).mono rfl).trans
      ((testTarget_frame _).trans ((testOverload_frame _).trans ((testLastPass_frame _).trans (testFull_frame _))))))

theorem handlePass_frame (p : Pass) (s : State) : Frame { lr := true } s (handlePass p s) := by
  unfold handlePass; split
  · exact filePass_frame _ _ _
  · exact (queueNotice_frame _ _).mono rfl

theorem countPass_frame (p : Pass) (s : State) : Frame { lr := true, rs := true } s (countPass p s) :=
  ((onLr_frame _ _).mono rfl).trans ((markRetained_frame _).mono rfl)

/-- A pass handed over changes the loads, the totals with the store's mark, and what its increments change (R125). -/
theorem receivePass_frame (p : Pass) (s : State) :
    Frame { lr := true, em := true, st := true, rs := true, choices := true } s (receivePass p s) := by
  refine ((countPass_frame p s).mono rfl).trans (anyOrder_frame rfl _ _ ?_)
  intro f m s
  simp only [List.mem_cons, List.not_mem_nil, or_false] at m
  rcases m with rfl | rfl | rfl
  · exact (handlePass_frame _ _).mono rfl
  · exact (takeIncrement_frame _ _ _).mono rfl
  · exact (takeIncrement_frame _ _ _).mono rfl

theorem travelLoads_frame (s : State) : Frame { lr := true } s (travelLoads s) := by
  unfold travelLoads; split_ifs
  · exact onLr_frame _ _
  · exact closeLoad_frame _ _

theorem takeTravelFirst_frame (s : State) : Frame { lr := true } s (takeTravelFirst s) :=
  (closeLoad_frame _ _).trans (onLr_frame _ _)

/-- The arrival of a pass changes what its filing changes, and may read a free choice (R129). -/
theorem arrivePass_frame (p : Pass) (s : State) :
    Frame { lr := true, em := true, st := true, rs := true, choices := true } s (arrivePass p s) := by
  unfold arrivePass; simp only []; split_ifs
  · refine Frame.trans ?_ (receivePass_frame _ _)
    exact Frame.trans (t := { s with choices := s.choices + 1 }) (by constructor <;> simp [Queued.refl])
      ((takeTravelFirst_frame _).mono rfl)
  · exact Frame.trans (t := { s with choices := s.choices + 1 }) (by constructor <;> simp [Queued.refl])
      (receivePass_frame _ _)
  · exact receivePass_frame _ _

theorem chargeFuel_frame (n : Nat) (s : State) : Frame { lr := true } s (chargeFuel n s) := by
  unfold chargeFuel; split
  · exact Frame.refl _ _
  · exact setLoad_frame _ _

theorem reclass_frame (i : Fin 16) (s : State) : Frame { lr := true } s (reclass i s) := by
  unfold reclass; split
  · exact Frame.refl _ _
  · exact (setLoad_frame _ _).trans (((loadNotice_frame _ _ _).mono rfl).trans ((setLoad_frame _ _).trans
      ((testTarget_frame _).trans (testOverload_frame _))))

/-- A report's integration changes the open load's fuel, the counts with the store's mark, and what its increments change
(R133, R134). -/
theorem integrateReport_frame (s : State) :
    Frame { lr := true, em := true, st := true, rs := true, choices := true } s (integrateReport s) := by
  unfold integrateReport; split
  · exact Frame.refl _ _
  · simp only []
    refine Frame.trans ?_ (anyOrder_frame rfl _ _ ?_)
    · split_ifs <;> first
        | exact ((onEm_frame _ _).mono rfl).trans ((markRetained_frame _).mono rfl)
        | exact (onEm_frame _ _).mono rfl
    · intro f m s
      simp only [List.mem_cons, List.not_mem_nil, or_false] at m
      rcases m with rfl | rfl | rfl | rfl
      · exact (chargeFuel_frame _ _).mono rfl
      all_goals exact (takeIncrement_frame _ _ _).mono rfl

theorem reportModeSteps_frame (r : EngineReport) (s : State) :
    Frame { em := true, rs := true } s (reportModeSteps r s) := by
  unfold reportModeSteps; split
  · exact (onEm_frame _ _).mono rfl
  · split
    · exact (onEm_frame _ _).mono rfl
    · split
      · exact testShutdown_frame _
      · exact Frame.refl _ _
    · exact Frame.refl _ _

theorem takeReport_frame (r : EngineReport) (s : State) :
    Frame { lr := true, em := true, st := true, rs := true, choices := true } s (takeReport r s) :=
  (integrateReport_frame s).trans (((onEm_frame _ _).mono rfl).trans (((reportModeSteps_frame _ _).mono rfl).trans
    ((settleAdvice_frame _).mono rfl)))

/-! ## Slew Limiter -/

theorem settleIntrusion_frame (i : SlewInputs) (k : Fin 16) (b : Bool) (s : State) :
    Frame { zt := true } s (settleIntrusion i k b s) := by
  unfold settleIntrusion; simp only []; split_ifs
  · split
    · exact Frame.refl _ _
    · exact (onZone_frame _ _ _).trans ((queueNotice_frame _ _).mono rfl)
  · exact (queueNotice_frame _ _).mono rfl
  · exact Frame.refl _ _

theorem countCuts_frame (a b : Bool) (c : LineCauses) (s : State) : Frame { zt := true } s (countCuts a b c s) := by
  unfold countCuts; split_ifs
  · exact foldl_frame _ (fun s k => onZone_frame k _ s) _ _
  · exact Frame.refl _ _

/-- An evaluation changes the Slew Limiter, the lines and the alarm, and the zones' statistics (R86 to R90). -/
theorem evaluateOn_frame (p : Pose) (s : State) : Frame { mlu := true, zt := true, sl := true, choices := true } s (evaluateOn p s) := by
  unfold evaluateOn; simp only []
  have core : ∀ (c : Bool × Bool × LineCauses) (d : Bool × Bool × LineCauses) (e : Bool × Bool × LineCauses) (a : AlarmPattern)
      (set : CutSet) (f : Sl → Sl) (i : SlewInputs) (o : Vector ZoneOutcome 16),
      Frame { mlu := true, zt := true, sl := true, choices := true } s (countCuts c.1 c.2.1 c.2.2 (countCuts d.1 d.2.1 d.2.2
        (countCuts e.1 e.2.1 e.2.2 (requestSlAlarm a (onMlu (Mlu.takeCutSet set) (onSl f (settleIntrusions i o s))))))) := by
    intro c d e a set f i o
    refine Frame.trans ?_ ((countCuts_frame _ _ _ _).mono rfl)
    refine Frame.trans ?_ ((countCuts_frame _ _ _ _).mono rfl)
    refine Frame.trans ?_ ((countCuts_frame _ _ _ _).mono rfl)
    refine Frame.trans ?_ ((requestSlAlarm_frame _ _).mono rfl)
    refine Frame.trans ?_ ((onMlu_frame _ _).mono rfl)
    refine Frame.trans ?_ ((onSl_frame _ _).mono rfl)
    refine anyOrder_frame rfl _ _ fun f m s => ?_
    obtain ⟨k, -, rfl⟩ := List.mem_map.1 m
    exact (settleIntrusion_frame _ k _ s).mono rfl
  split_ifs
  · exact core (_, _, _) (_, _, _) (_, _, _) _ _ _ _ _
  · exact (core (_, _, _) (_, _, _) (_, _, _) _ _ _ _ _).trans ((queueNotice_frame _ _).mono rfl)

/-- An evaluation, or none while no pose is in use (R77). -/
theorem evaluateSlew_frame (s : State) : Frame { mlu := true, zt := true, sl := true, choices := true } s (evaluateSlew s) := by
  unfold evaluateSlew; split
  · exact Frame.refl _ _
  · exact evaluateOn_frame _ _

theorem forgetZone_frame (k : Fin 16) (s : State) : Frame { sl := true } s (forgetZone k s) := by
  unfold forgetZone; simp only []; split_ifs
  · exact (onSl_frame _ _).trans ((queueNotice_frame _ _).mono rfl)
  · exact onSl_frame _ _

theorem deliverPoseToSl_frame (p : Pose) (s : State) :
    Frame { mlu := true, zt := true, sl := true, choices := true } s (deliverPoseToSl p s) :=
  ((onSl_frame _ _).mono rfl).trans (evaluateSlew_frame _)

theorem deliverHealthToSl_frame (h : Health) (s : State) :
    Frame { mlu := true, zt := true, sl := true, choices := true } s (deliverHealthToSl h s) :=
  ((onSl_frame _ _).mono rfl).trans (evaluateSlew_frame _)

theorem countTurn_frame (s : State) : Frame { sl := true, em := true, st := true, rs := true } s (countTurn s) :=
  ((onSl_frame _ _).mono rfl).trans (((markRetained_frame _).mono rfl).trans ((takeIncrement_frame _ _ _).mono rfl))

/-- A sample of channel 3 changes slew travel and, at a whole turn, the turns count with its increments (R92, R93). -/
theorem readSlewTravel_frame (x : Sample) (s : State) :
    Frame { sl := true, em := true, st := true, rs := true } s (readSlewTravel x s) := by
  unfold readSlewTravel; simp only []; split_ifs
  · exact Frame.refl _ _
  · split
    · exact (onSl_frame _ _).mono rfl
    · split_ifs
      · exact ((onSl_frame _ _).mono rfl).trans (countTurn_frame _)
      · exact (onSl_frame _ _).mono rfl

/-! ## Zone Table -/

theorem settleUnanchored_frame (s : State) : Frame { mlu := true, zt := true } s (settleUnanchored s) := by
  unfold settleUnanchored; simp only []
  have h : Frame { mlu := true, zt := true } s
      { s with zt := { s.zt with unanchored := unanchoredCount s.zt.zones } } := by
    constructor <;> simp [Queued.refl]
  split_ifs
  · exact h
  · exact h.trans ((requestZtAlarm_frame _ _).mono rfl)

theorem zoneNotices_frame (f : Fin 16 → Option ZoneEvent) (s : State) : Frame { choices := true } s (zoneNotices f s) := by
  refine anyOrder_frame rfl _ _ fun g m s => ?_
  obtain ⟨k, -, h⟩ := List.mem_filterMap.1 m
  obtain ⟨e, -, rfl⟩ := Option.map_eq_some_iff.1 h
  exact (queueNotice_frame _ _).mono rfl

/-- A change of the zones alone. -/
theorem withZones_frame (z : Vector ZoneEntry 16) (s : State) :
    Frame { zt := true } s { s with zt := { s.zt with zones := z } } := by
  constructor <;> simp [Queued.refl]

theorem rearmZones_frame (a : Authority) (s : State) :
    Frame { mlu := true, zt := true, sl := true, choices := true } s (rearmZones a s) :=
  ((withZones_frame _ _).mono rfl).trans (((zoneNotices_frame _ _).mono rfl).trans (evaluateSlew_frame _))

theorem travelZones_frame (s : State) : Frame { mlu := true, zt := true, sl := true, choices := true } s (travelZones s) := by
  unfold travelZones; simp only []; split_ifs
  · exact ((withZones_frame _ _).mono rfl).trans (((zoneNotices_frame _ _).mono rfl).trans
      (((settleUnanchored_frame _).mono rfl).trans (evaluateSlew_frame _)))
  · exact Frame.refl _ _

theorem replaceZone_frame (k : Fin 16) (z : Option Zone) (s : State) :
    Frame { mlu := true, zt := true, sl := true, rs := true, choices := true } s (replaceZone k z s) := by
  unfold replaceZone; simp only []
  refine Frame.trans ?_ (anyOrder_frame rfl _ _ fun f m s => ?_)
  · split_ifs
    · exact ((onZone_frame _ _ _).mono rfl).trans ((markRetained_frame _).mono rfl)
    · exact (onZone_frame _ _ _).mono rfl
  · rcases List.mem_append.1 m with m | m
    · simp only [List.mem_ite_nil_left, List.mem_singleton] at m
      obtain ⟨-, rfl⟩ := m
      exact (settleUnanchored_frame _).mono rfl
    · obtain rfl : f = fun s => evaluateSlew (forgetZone k s) := by simpa using m
      exact ((forgetZone_frame _ _).mono rfl).trans ((evaluateSlew_frame _).mono rfl)

theorem clearZone_frame (k : Fin 16) (s : State) :
    Frame { mlu := true, zt := true, sl := true, rs := true, choices := true } s (clearZone k s) := by
  unfold clearZone; split
  · exact Frame.refl _ _
  · exact replaceZone_frame _ _ _

theorem moveZone_frame (k : Fin 16) (z : ZoneState) (s : State) :
    Frame { mlu := true, zt := true, sl := true, choices := true } s (moveZone k z s) :=
  ((onZone_frame _ _ _).mono rfl).trans (evaluateSlew_frame _)

theorem reanchorZones_frame (d : Angle) (s : State) :
    Frame { mlu := true, zt := true, sl := true, rs := true, choices := true } s (reanchorZones d s) := by
  unfold reanchorZones; simp only []
  refine Frame.trans ?_ ((evaluateSlew_frame _).mono rfl)
  refine Frame.trans ?_ ((settleUnanchored_frame _).mono rfl)
  refine Frame.trans ?_ ((zoneNotices_frame _ _).mono rfl)
  split_ifs
  · exact (withZones_frame _ _).mono rfl
  · exact ((withZones_frame _ _).mono rfl).trans ((markRetained_frame _).mono rfl)

/-! ## Cycle Tracker -/

theorem takePressure_frame (x : Sample) (s : State) : Frame { ct := true } s (takePressure x s) := by
  unfold takePressure; split_ifs
  · exact Frame.refl _ _
  · exact onCt_frame _ _

theorem drainPressureFor_frame (n : Nat) (s : State) : Frame { scu := true, ct := true } s (drainPressureFor n s) := by
  induction n generalizing s with
  | zero => exact Frame.refl _ _
  | succ n ih =>
    unfold drainPressureFor; split
    · exact ((onChannel_frame _ _ _).mono rfl).trans (((takePressure_frame _ _).mono rfl).trans (ih _))
    · exact Frame.refl _ _

/-- Taking the waiting pressure samples changes channel 5 and the Cycle Tracker (R96). -/
theorem drainPressure_frame (s : State) : Frame { scu := true, ct := true } s (drainPressure s) :=
  drainPressureFor_frame _ _

theorem endRun_frame (r : Run) (o : RunOutcome) (s : State) : Frame { scu := true, ct := true } s (endRun r o s) :=
  ((onCt_frame _ _).mono rfl).trans (((queueNotice_frame _ _).mono rfl).trans (drainPressure_frame _))

theorem hardFail_frame (f : RunFailure) (s : State) : Frame { scu := true, ct := true } s (hardFail f s) := by
  unfold hardFail; split
  · exact Frame.refl _ _
  · exact endRun_frame _ _ _

theorem writeTables_frame (a : Vector Int 8) (b : Vector Nat 8) (s : State) :
    Frame { ct := true, rs := true } s (writeTables a b s) := by
  unfold writeTables; simp only []; split_ifs
  · exact ((onCt_frame _ _).mono rfl).trans ((markRetained_frame _).mono rfl)
  · exact (onCt_frame _ _).mono rfl

theorem nextStep_frame (s : State) : Frame { scu := true, ct := true } s (nextStep s) := by
  unfold nextStep; split
  · exact (onCt_frame _ _).mono rfl
  · exact ((onCt_frame _ _).mono rfl).trans (drainPressure_frame _)

theorem softError_frame (r : Run) (s : State) : Frame { scu := true, ct := true } s (softError r s) := by
  unfold softError; simp only []; split_ifs
  · exact endRun_frame _ _ _
  · exact endRun_frame _ _ _
  · exact ((onCt_frame _ _).mono rfl).trans (nextStep_frame _)

/-- A step's judgement changes channel 5, the Cycle Tracker and the store's mark (R111 to R114). -/
theorem judgeStep_frame (r : Run) (w : Window) (s : State) :
    Frame { scu := true, ct := true, rs := true } s (judgeStep r w s) := by
  unfold judgeStep; split
  · unfold judgeEmpty; simp only []; split_ifs
    · exact (nextStep_frame _).mono rfl
    · exact (softError_frame _ _).mono rfl
    · exact (nextStep_frame _).mono rfl
    · exact ((writeTables_frame _ _ _).mono rfl).trans ((endRun_frame _ _ _).mono rfl)
    · exact ((onCt_frame _ _).mono rfl).trans ((nextStep_frame _).mono rfl)
  · unfold judgeGain; split
    · split_ifs
      · exact (softError_frame _ _).mono rfl
      · exact ((writeTables_frame _ _ _).mono rfl).trans ((endRun_frame _ _ _).mono rfl)
    · exact (softError_frame _ _).mono rfl

theorem setPhase_frame (p : Phase) (s : State) : Frame { ct := true, em := true } s (setPhase p s) := by
  unfold setPhase; split_ifs
  · exact Frame.refl _ _
  · exact ((onCt_frame _ _).mono rfl).trans ((takePhaseChange_frame _ _).mono rfl)

theorem toUnknown_frame (s : State) : Frame { ct := true, em := true } s (toUnknown s) :=
  ((onCt_frame _ _).mono rfl).trans (setPhase_frame _ _)

theorem travelEndedAtCt_frame (s : State) : Frame { ct := true, em := true } s (travelEndedAtCt s) := by
  unfold travelEndedAtCt; split
  · split_ifs
    · exact Frame.refl _ _
    · exact setPhase_frame _ _
  · exact Frame.refl _ _

theorem closeAtDump_frame (s : State) : Frame { ct := true } s (closeAtDump s) := by
  unfold closeAtDump; split
  · split_ifs
    · exact onCt_frame _ _
    · exact Frame.refl _ _
  · exact Frame.refl _ _

theorem moveWindow_frame (p : Pose) (s : State) : Frame { ct := true } s (moveWindow p s) := by
  unfold moveWindow; split
  · exact onCt_frame _ _
  · split_ifs
    · exact onCt_frame _ _
    · exact Frame.refl _ _
  · split_ifs
    · exact (closeAtDump_frame _).trans (onCt_frame _ _)
    · exact Frame.refl _ _
  · exact Frame.refl _ _

theorem takePoseAtCt_frame (p : Pose) (s : State) : Frame { ct := true } s (takePoseAtCt p s) :=
  (moveWindow_frame _ _).trans (onCt_frame _ _)

theorem deliverHealthToCt_frame (h : Health) (s : State) :
    Frame { scu := true, ct := true, choices := true } s (deliverHealthToCt h s) := by
  unfold deliverHealthToCt; simp only []
  refine ((onCt_frame _ _).mono rfl).trans (anyOrder_frame rfl _ _ ?_)
  intro f m u
  rw [List.mem_append] at m
  rcases m with m | m
  · split_ifs at m
    · obtain rfl : f = hardFail .hardPressure := by simpa using m
      exact (hardFail_frame _ _).mono rfl
    · simp at m
  · split_ifs at m
    · obtain rfl : f = onCt fun ct => { ct with force := none } := by simpa using m
      exact (onCt_frame _ _).mono rfl
    · simp at m

/-! ## Pose Solver -/

theorem startComputation_frame (s : State) : Frame { scu := true, ps := true } s (startComputation s) := by
  constructor <;> simp [startComputation, Queued.refl]

theorem requestComputation_frame (s : State) : Frame { scu := true, ps := true } s (requestComputation s) := by
  unfold requestComputation; split_ifs
  · exact (onPs_frame _ _).mono rfl
  · exact startComputation_frame _

theorem requestForGrade_frame (s : State) : Frame { scu := true, ps := true } s (requestForGrade s) := by
  unfold requestForGrade; split_ifs
  · exact Frame.refl _ _
  · exact startComputation_frame _

theorem replaceGeometry_frame (g : Geometry) (s : State) : Frame { ps := true, rs := true } s (replaceGeometry g s) := by
  unfold replaceGeometry; simp only []; split_ifs
  · exact ((onPs_frame _ _).mono rfl).trans ((markRetained_frame _).mono rfl)
  · exact (onPs_frame _ _).mono rfl

theorem settleOverdig_frame (p : Pose) (s : State) : Frame { mlu := true, ps := true } s (settleOverdig p s) := by
  unfold settleOverdig; simp only []; split_ifs
  · exact ((onPs_frame _ _).mono rfl).trans (((queueNotice_frame _ _).mono rfl).trans ((requestPsAlarm_frame _ _).mono rfl))
  · exact ((onPs_frame _ _).mono rfl).trans (((queueNotice_frame _ _).mono rfl).trans ((requestPsAlarm_frame _ _).mono rfl))
  · exact Frame.refl _ _

theorem serveTip_frame (p : Pose) (s : State) : Frame { ps := true } s (serveTip p s) := by
  unfold serveTip; split_ifs
  · exact (onPs_frame _ _).trans ((queueNotice_frame _ _).mono rfl)
  · exact Frame.refl _ _

/-- The deliveries of a completed pose leave the Pose Solver as it is (R48). -/
theorem deliverPose_frame (p : Pose) (s : State) :
    Frame { scu := true, mlu := true, zt := true, sl := true, ct := true, lr := true, em := true, st := true, rs := true
            choices := true } s (deliverPose p s) := by
  refine ((takePoseAtCt_frame p s).mono rfl).trans (interleave_frame rfl _ _ ?_)
  intro q m f mf u
  simp only [List.mem_cons, List.not_mem_nil, or_false] at m
  rcases m with rfl | rfl | rfl
  · obtain rfl : f = deliverPoseToSl p := by simpa using mf
    exact (deliverPoseToSl_frame _ _).mono rfl
  · unfold poseDeliveries at mf
    rw [List.mem_append] at mf
    rcases mf with mf | mf
    · split_ifs at mf
      · obtain rfl : f = hardFail .hardPose := by simpa using mf
        exact (hardFail_frame _ _).mono rfl
      · simp at mf
    · split_ifs at mf
      · obtain rfl : f = arrivePass (dumpPass s p) := by simpa using mf
        exact (arrivePass_frame _ _).mono rfl
      · simp at mf
  · unfold emDeliveries phaseDelivery at mf
    rw [List.mem_append] at mf
    rcases mf with mf | mf
    · split_ifs at mf
      · obtain rfl : f = takeActivity := by simpa using mf
        exact (takeActivity_frame _).mono rfl
      · simp at mf
    · split_ifs at mf
      · simp at mf
      · obtain rfl : f = takePhaseChange (nextPhase s p) := by simpa using mf
        exact (takePhaseChange_frame _ _).mono rfl

theorem startPending_frame (s : State) : Frame { scu := true, ps := true } s (startPending s) := by
  unfold startPending; split_ifs
  · exact ((onPs_frame _ _).mono rfl).trans (startComputation_frame _)
  · exact Frame.refl _ _

theorem completePose_frame (c : Computation) (s : State) :
    Frame { scu := true, mlu := true, ps := true, zt := true, sl := true, ct := true, lr := true, em := true, st := true
            rs := true, choices := true } s (completePose c s) :=
  ((onPs_frame _ _).mono rfl).trans (((settleOverdig_frame _ _).mono rfl).trans (((serveTip_frame _ _).mono rfl).trans
    (((deliverPose_frame _ _).mono rfl).trans ((startPending_frame _).mono rfl))))

/-! ## Sensor channels -/

/-- What a change of health delivers: a notice, a request for a computation, the Slew Limiter's or the Cycle Tracker's copy
(R18). -/
theorem healthActions_frame (ch : Fin 6) (a b : Health) (f : State → State) (m : f ∈ healthActions ch a b) (s : State) :
    Frame { scu := true, mlu := true, ps := true, zt := true, sl := true, ct := true, choices := true } s (f s) := by
  have h : f ∈ [fun s => queueNotice (.channelHealth ch a b s.now) s, requestComputation, deliverHealthToSl b,
      deliverHealthToCt b] := by
    unfold healthActions at m
    split_ifs at m <;> simp at m ⊢ <;> tauto
  simp only [List.mem_cons, List.not_mem_nil, or_false] at h
  rcases h with rfl | rfl | rfl | rfl
  · exact (queueNotice_frame _ _).mono rfl
  · exact (requestComputation_frame _).mono rfl
  · exact (deliverHealthToSl_frame _ _).mono rfl
  · exact (deliverHealthToCt_frame _ _).mono rfl

/-- What a sample delivers: a request for a computation, slew travel, or the pressure samples to the Cycle Tracker (R8, R10). -/
theorem sampleActions_frame (ch : Fin 6) (h : Health) (x : Sample) (f : State → State) (m : f ∈ sampleActions ch h x)
    (s : State) :
    Frame { scu := true, ps := true, sl := true, ct := true, em := true, st := true, rs := true } s (f s) := by
  have k : f ∈ [requestComputation, readSlewTravel x, drainPressure] := by
    unfold sampleActions at m
    split_ifs at m <;> simp at m ⊢ <;> tauto
  simp only [List.mem_cons, List.not_mem_nil, or_false] at k
  rcases k with rfl | rfl | rfl
  · exact (requestComputation_frame _).mono rfl
  · exact (readSlewTravel_frame _ _).mono rfl
  · exact (drainPressure_frame _).mono rfl

/-- A change of a channel context touches the blocks its change of health is delivered to (R18). -/
theorem changeChannel_frame (ch : Fin 6) (g : Channel → Channel) (s : State) :
    Frame { scu := true, mlu := true, ps := true, zt := true, sl := true, ct := true, choices := true } s
      (changeChannel ch g s) := by
  exact ((onChannel_frame ch g s).mono rfl).trans (anyOrder_frame rfl _ _ (healthActions_frame ch _ _))

theorem arriveFrame_frame (ch : Fin 6) (b : List Byte) (s : State) :
    Frame { scu := true, mlu := true, ps := true, zt := true, sl := true, ct := true, em := true, st := true, rs := true
            choices := true } s (arriveFrame ch b s) := by
  refine ((onChannel_frame _ _ _).mono rfl).trans (interleave_frame rfl _ _ ?_)
  intro q m f mf u
  rcases List.mem_cons.1 m with rfl | m
  · split_ifs at mf
    · exact (sampleActions_frame _ _ _ f mf u).mono rfl
    · simp at mf
  · obtain ⟨g, mg, rfl⟩ := List.mem_map.1 m
    obtain rfl : f = g := by simpa using mf
    exact (healthActions_frame _ _ _ f mg u).mono rfl

/-! ## Machine inputs -/

theorem settleAuthority_frame (s : State) : Frame { mlu := true, zt := true, sl := true, choices := true } s (settleAuthority s) := by
  unfold settleAuthority; simp only []; split_ifs
  · exact Frame.refl _ _
  · exact ((onMlu_frame _ _).mono rfl).trans (((queueNotice_frame _ _).mono rfl).trans (rearmZones_frame _ _))

/-- A reading with its events changes the lines, the zones, the Slew Limiter, the cycle, the loads and the economy (R24 to
R29). -/
theorem readInputs_frame (x : InputSamples) (s : State) :
    Frame { mlu := true, zt := true, sl := true, ct := true, lr := true, em := true, choices := true } s (readInputs x s) := by
  refine ((onMlu_frame _ _).mono rfl).trans (interleave_frame rfl _ _ ?_)
  intro q m f mf u
  have h : f ∈ [takeActivity, takeSeatChange, travelZones, toUnknown, travelLoads, travelEndedAtCt, settleAuthority] := by
    simp only [inputEvents, activityEvents, travelEvents, List.mem_append] at m
    rcases m with ((((m | m) | m) | m) | m) | m <;> split_ifs at m <;>
      simp only [List.mem_cons, List.not_mem_nil, or_false] at m <;>
      (try rcases m with rfl | rfl | rfl | rfl) <;> simp_all
  simp only [List.mem_cons, List.not_mem_nil, or_false] at h
  rcases h with rfl | rfl | rfl | rfl | rfl | rfl | rfl
  · exact (takeActivity_frame _).mono rfl
  · exact (takeSeatChange_frame _).mono rfl
  · exact (travelZones_frame _).mono rfl
  · exact (toUnknown_frame _).mono rfl
  · exact (travelLoads_frame _).mono rfl
  · exact (travelEndedAtCt_frame _).mono rfl
  · exact (settleAuthority_frame _).mono rfl

end Sys2Proof.Machine
end

