-- ==== Sys2Proof/Laws/Commands.lean ====
section
/-! SUPPORT. The taking of a host command: what `interpret` answers for a ready command, and what the reply leaves in the Link
Controller. -/

namespace Sys2Proof.Machine

/-- A frame may be taken exactly when its command is ready (R172). -/
theorem takeable_iff (kind tag : Byte) (body : List Byte) (s : State) :
    takeable kind tag body s = true ↔ CommandReady kind tag body s := by
  unfold takeable CommandReady Rs.restartDue
  cases s.powered <;> cases s.rs.restartPending <;> cases s.rs.state.isCommitting <;> simp [and_assoc]

/-- A ready command is interpreted whole (R172). -/
theorem interpret_ready {kind tag : Byte} {body : List Byte} {level : Authority} {ok : List Byte → Bool} {owner : Owner}
    {s : State} (h : CommandReady kind tag body s) :
    interpret kind level ok owner tag body s = .next (runFrame kind tag body (checkedOwner kind level ok owner) s) := by
  simp [interpret, whenDue, (takeable_iff ..).2 h]

/-- A ready command that passes the common checks goes to its owner (R172). -/
theorem interpret_allowed {kind tag : Byte} {body : List Byte} {level : Authority} {ok : List Byte → Bool} {owner : Owner}
    {s : State} (h : CommandAllowed kind tag body level s) (hl : ok body = true) :
    interpret kind level ok owner tag body s =
      .next (placeReply (replyTo kind tag (owner body (takeFrame s)).2) (owner body (takeFrame s)).1) := by
  rw [interpret_ready h.1]
  have h2 : ¬ s.mlu.authority.rank < level.rank := Nat.not_lt.2 h.2.2
  simp [runFrame, checkedOwner, hl, h.2.1, h2]

/-- The reply of an answer (R173). -/
theorem replyTo_eq (kind tag : Byte) (a : Answer) :
    replyTo kind tag a = replyFrame kind tag a.status (if statusCode a.status < 0x10 then a.fields else []) := by
  unfold replyTo replyFrame Answer.body; split_ifs <;> rfl

/-- A reply placed after a command that queued no notice (R172, R175). -/
theorem placeReply_answered {s u : State} (r : Reply) (h : u.lc = (takeFrame s).lc) (hn : s.lc.replySlot = none) :
    placeReply r u = { u with lc := answered s.lc r } := by
  have e : (placeReply r u).lc = answered s.lc r := by
    rw [placeReply_lc, h]
    cases ht : s.lc.tx <;> simp [takeFrame, answered, Lc.pump, ht, hn]
  rw [← e]; rfl

/-- A reply placed after a command that may have queued notices (R172 to R175). -/
theorem placeReply_answersWith {s u : State} (r : Reply) (h : Queued (takeFrame s).lc u.lc) (hn : s.lc.replySlot = none) :
    AnswersWith r s (placeReply r u) := by
  have hs := h.replySlot (by simp [hn])
  have h1 := h.assembler; have h2 := h.lastChar; have h3 := h.inbox; have h5 := h.stats
  have h6 := h.rate; have h7 := h.time
  simp only [takeFrame] at h1 h2 h3 h5 h6 h7
  unfold AnswersWith
  rw [placeReply_lc]
  cases ht : u.lc.tx <;> simp [Lc.pump, ht, h1, h2, h3, h5, h6, h7]

end Sys2Proof.Machine
end

