-- ==== Sys2Proof/Laws/Notices.lean ====
section
/-! SUPPORT. What handing over notices can do to the Link Controller, the settling of an advice, and what the start of a computation
takes and leaves, in the terms of the statements. -/

namespace Sys2Proof.Machine

/-! ## Notices handed over (R174, R175) -/

/-- The notice is in the part, or the queue was full when it came: the notices waiting with the frame being sent are then 32 or
more, and stay so. -/
def HandedOrFull (n : Notice) (lc : Lc) : Prop :=
  noticeHanded n lc ∨ 32 ≤ lc.notices.length + (if lc.tx = .free then 0 else 1)

/-- A notice once handed over, or lost to a full queue, is in the part at the end where there is room. -/
theorem HandedOrFull.withRoom {n : Notice} {lc : Lc} (h : HandedOrFull n lc) : handedWithRoom n lc := by
  intro room
  rcases h with h | h
  · exact h
  · split_ifs at h <;> omega

/-- A notice that none replaces stays in the part through whatever queues notices (R174). -/
theorem Queued.handedOrFull {n : Notice} {a b : Lc} (q : Queued a b) (r : n.replacesItsKind = false)
    (h : HandedOrFull n a) : HandedOrFull n b :=
  h.imp (q.handed n r) fun h => h.trans q.number

/-- The handing of a notice puts it in the queue unless that is full (R174). -/
theorem enqueue_handed (n : Notice) (lc : Lc) : n ∈ (lc.enqueue n).notices ∨ 32 ≤ (lc.enqueue n).notices.length := by
  unfold Lc.enqueue
  split_ifs with h
  · left
    simp only [Bool.and_eq_true, List.any_eq_true, beq_iff_eq] at h
    obtain ⟨-, m, hm, he⟩ := h
    exact List.mem_map.2 ⟨m, hm, by simp [he]⟩
  · left; simp
  · right; simp; omega

/-- The transmitter takes a waiting notice or leaves it (R175): no notice is lost. -/
theorem pump_handed {n : Notice} {lc : Lc} (next : Option Nat) (h : noticeHanded n lc) : noticeHanded n (lc.pump next) := by
  unfold Lc.pump
  split
  · exact h
  · rename_i free
    have hm : n ∈ lc.notices := by simpa [noticeHanded, free] using h
    split
    · exact .inl hm
    · split
      · exact h
      · split
        · exact h
        · rename_i i _ m e
          by_cases hn : n = m
          · exact .inr (by simp [hn])
          · refine .inl (List.mem_eraseIdx_iff_getElem?.2 ?_)
            obtain ⟨j, hj⟩ := List.mem_iff_getElem?.1 hm
            exact ⟨j, by rintro rfl; simp_all, hj⟩

/-- A notice handed over is in the part, or the queue was full (R174, R175). -/
theorem queueNotice_handedOrFull (n : Notice) (s : State) : HandedOrFull n (queueNotice n s).lc := by
  rcases enqueue_handed n s.lc with h | h
  · exact .inl (pump_handed _ (.inl h))
  · refine .inr (le_trans ?_ (pump_queued (nextNotice s.rs (s.lc.enqueue n)) (s.lc.enqueue n)).number)
    omega

/-- A RESTART pends on both or on neither, and then both commit or neither does: the transmitter finds the same notice next
(R167). -/
def SameRestart (a b : Rs) : Prop :=
  a.restartPending = b.restartPending ∧ (a.restartPending = true → a.state.isCommitting = b.state.isCommitting)

theorem SameRestart.next {a b : Rs} (h : SameRestart a b) (lc : Lc) : nextNotice a lc = nextNotice b lc := by
  obtain ⟨h, k⟩ := h
  unfold nextNotice
  cases hp : a.restartPending <;> simp_all

/-- What a notice finds in the part is the Link Controller and whether a RESTART pends; nothing else matters (R174, R175). -/
theorem queueNotice_congr {u v : State} (n : Notice) (lc : u.lc = v.lc) (rs : SameRestart u.rs v.rs) :
    (queueNotice n u).lc = (queueNotice n v).lc := by
  change (u.lc.enqueue n).pump (nextNotice u.rs (u.lc.enqueue n)) = (v.lc.enqueue n).pump (nextNotice v.rs (v.lc.enqueue n))
  rw [lc, rs.next]

/-! ## Notices of a command, and its reply (R172 to R175) -/

/-- The Link Controller once a frame has left the inbox (R171, R172). -/
def taken (lc : Lc) : Lc := { lc with inbox := lc.inbox.tail, interpreter := .interpreting }

/-- The transmitter does not look at the inbox or the interpreter (R175). -/
theorem pump_taken (next : Option Nat) (lc : Lc) : (taken lc).pump next = taken (lc.pump next) := by
  obtain ⟨assembler, lastChar, inbox, interpreter, slot, notices, early, tx, stats, loss, rate, time⟩ := lc
  unfold Lc.pump taken
  cases tx <;> cases slot <;> cases next <;> simp only []
  split <;> rfl

/-- A notice handed over while a frame is interpreted meets the queue and the transmitter as it would have before the frame was
taken, where the RESTART stands the same (R167, R174, R175). -/
theorem queueNotice_taken {u v : State} (n : Notice) (lc : u.lc = taken v.lc) (rs : SameRestart u.rs v.rs) :
    (queueNotice n u).lc = taken (queueNotice n v).lc := by
  have e : u.lc.enqueue n = taken (v.lc.enqueue n) := by
    rw [lc]; unfold Lc.enqueue taken; split_ifs <;> rfl
  change (u.lc.enqueue n).pump (nextNotice u.rs (u.lc.enqueue n)) = taken ((v.lc.enqueue n).pump (nextNotice v.rs (v.lc.enqueue n)))
  rw [e, rs.next, pump_taken]
  rfl

/-- Notices handed over while a frame is interpreted, likewise. -/
theorem queueNotices_taken (ns : List Notice) {u v : State} (lc : u.lc = taken v.lc) (rs : SameRestart u.rs v.rs) :
    (queueNotices ns u).lc = taken (queueNotices ns v).lc := by
  induction ns generalizing u v with
  | nil => exact lc
  | cons n ns ih => exact ih (queueNotice_taken n lc rs) rs

/-- The reply to a frame, placed once its notices have been handed over (R172, R175). -/
theorem placeReply_taken {u : State} {lc : Lc} (r : Reply) (h : u.lc = taken lc) :
    placeReply r u = { u with lc := answered lc r } := by
  have e : (placeReply r u).lc = answered lc r := by
    rw [placeReply_lc, h]
    cases ht : lc.tx <;> simp [taken, answered, Lc.pump, ht]
  rw [← e]; rfl

/-! ## The advice (R145) -/

/-- The advice worked out is the one that stands (R145). -/
theorem advice_stands (em : Em) (a : Advice) : AdviceStands { em with lastAdvice := a } (Em.advice em) := by
  unfold AdviceStands Em.advice Em.requestedRpm Em.reasons
  cases em.mode <;> simp

/-- An advice that stands is the one worked out (R145). -/
theorem advice_eq_of_stands {em : Em} {a : Advice} (h : AdviceStands em a) : a = Em.advice em := by
  obtain ⟨h1, h2, h3, h4, h5, h6, h7, h8, h9, h10⟩ := h
  rcases a with ⟨m, r, c, ⟨d, e, f, g, i, j, k⟩⟩
  have rpm : r = Em.requestedRpm em := by
    rw [show r = _ from h3]; unfold Em.requestedRpm; cases em.mode <;> rfl
  have reasons : Reasons.mk d e f g i j k = Em.reasons em := by
    unfold Em.reasons
    rw [Reasons.mk.injEq]
    simp only at h4 h5 h6 h7 h8 h9 h10
    refine ⟨Bool.eq_iff_iff.2 ?_, Bool.eq_iff_iff.2 ?_, Bool.eq_iff_iff.2 ?_, Bool.eq_iff_iff.2 ?_, Bool.eq_iff_iff.2 ?_,
      Bool.eq_iff_iff.2 ?_, Bool.eq_iff_iff.2 ?_⟩ <;> simp [*]
  unfold Em.advice
  rw [rpm, reasons, show m = _ from h1, show c = _ from h2]

/-- The settling of the advice, whole: the last advice is the one that stands, and its notice is handed over when it differs
(R145). -/
theorem settleAdvice_eq (s : State) : settleAdvice s = { s with
    em := { s.em with lastAdvice := Em.advice s.em }
    lc := lcWithAdvice (Em.advice s.em) s } := by
  unfold settleAdvice lcWithAdvice
  simp only []
  split_ifs with h
  · rw [h]
  · rfl

/-- The advice settled while a frame is interpreted hands over what it would have before the frame was taken (R145). -/
theorem lcWithAdvice_taken {u v : State} (a : Advice) (lc : u.lc = taken v.lc) (em : u.em.lastAdvice = v.em.lastAdvice)
    (rs : SameRestart u.rs v.rs) : lcWithAdvice a u = taken (lcWithAdvice a v) := by
  unfold lcWithAdvice
  have time : u.lc.time = v.lc.time := by rw [lc]; rfl
  rw [em, time]
  split_ifs
  · exact lc
  · exact queueNotice_taken _ lc rs

/-- What the settling of an advice hands over depends on the last advice and on what a notice finds (R145, R174). -/
theorem lcWithAdvice_congr {u v : State} (a : Advice) (lc : u.lc = v.lc) (em : u.em.lastAdvice = v.em.lastAdvice)
    (rs : SameRestart u.rs v.rs) : lcWithAdvice a u = lcWithAdvice a v := by
  unfold lcWithAdvice
  rw [em, lc]
  split_ifs
  · rfl
  · exact queueNotice_congr _ lc rs

/-- The test of the shutdown permission in AUTO_IDLE, the advice then settled, does what the statements say of it (R142, R143,
R145). -/
theorem testShutdown_tested {granted : Prop} (s : State) (auto : s.em.mode = .autoIdle)
    (permitted : shutdownPermitted s = true ↔ granted) :
    ∃ t, settleAdvice (testShutdown s) = t ∧ ShutdownTested granted s.em s.rs t ∧ AdviceStands t.em t.em.lastAdvice ∧
      t = { s with em := t.em, rs := t.rs, lc := lcWithAdvice t.em.lastAdvice s } := by
  refine ⟨_, rfl, ?_, ?_, ?_⟩
  · unfold ShutdownTested testShutdown
    by_cases h : shutdownPermitted s = true
    · simp only [h, if_true]
      refine ⟨fun k => absurd (permitted.1 h) k, fun _ => ?_⟩
      unfold enterPending requestCommit beginCommit
      rw [settleAdvice_eq]
      cases hs : s.rs.state <;> cases hp : s.rs.restartPending <;>
        simp [auto, Em.setMode, EngineMode.isWorking, hs, hp, RsState.isCommitting, onEm] <;> rfl
    · simp only [h]
      refine ⟨fun _ => ?_, fun k => absurd (permitted.2 k) h⟩
      rw [settleAdvice_eq]
      simp
  · rw [settleAdvice_eq]; exact advice_stands _ _
  · have f := testShutdown_frame s
    have lc : (testShutdown s).lc = s.lc ∧ (testShutdown s).em.lastAdvice = s.em.lastAdvice ∧
        SameRestart (testShutdown s).rs s.rs := by
      unfold testShutdown enterPending requestCommit beginCommit SameRestart
      split
      · cases hs : s.rs.state <;> cases hp : s.rs.restartPending <;>
          simp [auto, Em.setMode, hs, hp, RsState.isCommitting, onEm]
      · simp [onEm]
    rw [settleAdvice_eq, ← lcWithAdvice_congr _ lc.1 lc.2.1 lc.2.2]
    rw [State.mk.injEq]
    exact ⟨f.scu rfl, f.mlu rfl, f.ps rfl, f.zt rfl, f.sl rfl, f.ct rfl, f.lr rfl, rfl, f.st rfl, rfl, rfl, f.powered,
      f.choices rfl, f.pending⟩

/-! ## The start of a computation (R9, R11, R40 to R42) -/

/-- The sample a computation takes is the newest without FAULT (R9, R41). -/
theorem Channel.selected_eq (c : Channel) : c.selected = newestGood c.fifo := by
  unfold Channel.selected newestGood
  rw [← List.head?_filter, List.filter_reverse, List.head?_reverse]

/-- What the samples behind the head add to the accumulated set (R11). -/
theorem foldl_union (l : List Sample) (a : SampleFlags) :
    l.foldl (fun a (x : Sample) => a.union x.flags) a = withFlagsOf l a := by
  induction l generalizing a with
  | nil => simp [withFlagsOf]
  | cons x l ih => rw [List.foldl_cons, ih]; simp [withFlagsOf, SampleFlags.union, Bool.or_assoc]

/-- The emptying of a FIFO, as the statements say it (R9, R11). -/
theorem Channel.emptyForPose_eq (c : Channel) : c.emptyForPose = emptied c := by
  unfold Channel.emptyForPose emptied Channel.onStats
  simp [foldl_union, satAdd, max16]

/-- The values used, as the statements say them (R41, R42). -/
theorem usedValue_eq (k : Fin 5) (c : Channel) (held : HeldValue) :
    usedValue k c.health c.selected held = valueUsed k c held := by
  unfold usedValue valueUsed sampleOr Health.isDown
  rw [Channel.selected_eq]
  cases c.health <;> cases newestGood c.fifo <;> simp

/-- The start of a computation, as the statements say it (R9, R41, R42, R47). -/
theorem startComputation_eq (s : State) :
    startComputation s = { s with scu := fifosEmptied s.scu, ps := begun s.scu s.ps } := by
  have scu : (s.scu.mapFinIdx fun i c _ => if i < 5 then c.emptyForPose else c) = fifosEmptied s.scu := by
    ext i h
    interval_cases i <;> simp [fifosEmptied, Channel.emptyForPose_eq]
  have held : (Vector.ofFn fun k : Fin 5 =>
      usedValue k (poseChannel s k).health (poseChannel s k).selected s.ps.held[k]) = (begun s.scu s.ps).held := by
    ext i h
    interval_cases i <;> simp [begun, usedValue_eq, poseChannel]
  have health : (Vector.ofFn fun k : Fin 5 => (poseChannel s k).health) =
      #v[s.scu[0].health, s.scu[1].health, s.scu[2].health, s.scu[3].health, s.scu[4].health] := by
    ext i h
    interval_cases i <;> simp [poseChannel]
  have degraded : ((List.finRange 5).any fun k => usesDegraded k (poseChannel s k).health (poseChannel s k).selected) =
      ((List.finRange 5).any fun k => (k != 4 || s.scu[4].health == .live || s.scu[4].health == .acquiring) &&
        (newestGood s.scu[k.val].fifo).any fun x => x.flags.degraded) := by
    congr 1
    funext k
    unfold usesDegraded poseChannel
    rw [Channel.selected_eq]
    by_cases hk : k = 4
    · subst hk
      cases newestGood (s.scu[(4 : Fin 5).val]).fifo <;> simp [Bool.and_comm]
    · have hk' : (k != 4) = true := by simpa using hk
      cases newestGood (s.scu[k.val]).fifo <;> simp [hk']
  unfold startComputation
  simp only []
  rw [scu, held, health, degraded]
  rfl

/-- A call for a computation: one in flight leaves it pending, else it begins (R40). -/
theorem requestComputation_eq (s : State) : requestComputation s =
    if s.ps.inFlight.isSome then { s with ps := { s.ps with pendingStart := true } }
    else { s with scu := fifosEmptied s.scu, ps := begun s.scu s.ps } := by
  unfold requestComputation
  rw [startComputation_eq]
  rfl

end Sys2Proof.Machine
end

