-- ==== Sys2Proof/Laws/Calibration.lean ====
section
/-! SUPPORT. The Cycle Tracker's pressure samples and calibration runs as the statements say them: the samples it takes while its
step is READY, the end of a run with its notice, and the succession of the steps. -/

namespace Sys2Proof.Machine

/-! ## Pressure samples (R10, R96, R103 to R105) -/

/-- The weighing of a window, as the statements say it (R104, R105). -/
theorem weigh_eq (fempty : Vector Int 8) (gain : Vector Nat 8) (w : Window) : weigh fempty gain w = weighedBy fempty gain w := by
  unfold weigh weighedBy
  by_cases h : w.count < 4
  · simp only [h, if_true]; rfl
  · simp only [h, if_false]
    unfold Window.mean Window.spread rawPayload Window.steadyQuality Window.spread
    rw [Int.fdiv_eq_ediv_of_nonneg _ (by norm_num)]
    generalize ((w.sum.tdiv w.count - fempty[w.band]) * gain[w.band] + 32768) / 65536 = kg
    congr 2
    split_ifs <;> omega

/-- A net force taken while the step is READY (R96, R103, R111). -/
theorem takeForce_eq (f : Int) (ct : Ct) (ready : ct.step = none) : Ct.takeForce f ct = forceTaken f ct := by
  unfold Ct.takeForce forceTaken
  cases hw : ct.window with
  | none => rfl
  | some w =>
    have added : Window.add f w = { w with
        sum := w.sum + f
        count := w.count + 1
        least := some (min (w.least.getD f) f)
        most := some (max (w.most.getD f) f) } := by
      unfold Window.add
      cases w.least <;> cases w.most <;> simp
    simp only [added, Ct.complete, weigh_eq, Ct.hand, ready]
    by_cases hr : w.result.isSome = true
    · simp [hr]
    · by_cases hc : w.count + 1 = w.length
      · by_cases hrun : (ct.run.isSome && w.forRun) = true
        · have h2 : ct.run.isSome = true ∧ w.forRun = true := by simpa using hrun
          simp [hr, hc, h2]
        · have h2 : ¬(ct.run.isSome = true ∧ w.forRun = true) := by simpa using hrun
          simp [hr, hc, hrun, h2]
      · simp [hr, hc]

/-- A FIFO from which nothing is taken leaves its context as it is. -/
theorem drained_self {c : Channel} {left : List Sample} (h : c.fifo = left) : drained left c = c := by
  subst h
  have e : (c.fifo.take (c.fifo.length - c.fifo.length + 1)).tail = [] := by cases c.fifo <;> simp
  unfold drained
  rw [e]
  simp [withFlagsOf]

/-- A sample that leaves the head makes the one behind it the head (R10, R11). -/
theorem drained_dropHead {c : Channel} {x : Sample} {rest : List Sample} (left : List Sample) (h : c.fifo = x :: rest)
    (le : left.length ≤ rest.length) : drained left (Channel.dropHead c) = drained left c := by
  have n : rest.length + 1 - left.length = rest.length - left.length + 1 := by omega
  unfold Channel.dropHead Channel.noteHead drained
  simp only [h, List.tail_cons, List.length_cons, n, List.take_succ_cons]
  cases rest with
  | nil => simp
  | cons y ys => simp [withFlagsOf, SampleFlags.union, Bool.or_assoc]

/-- The samples that still wait are the newest of those that waited (R10). -/
theorem pressureTaken_length (g : Geometry) (ct : Ct) (fifo : List Sample) :
    (pressureTaken g ct fifo).2.length ≤ fifo.length := by
  induction fifo generalizing ct with
  | nil => exact le_rfl
  | cons x rest ih =>
    unfold pressureTaken
    split_ifs <;> first | exact le_rfl | exact (ih _).trans (by simp)

/-- Where the Cycle Tracker can take no sample, nothing changes but what it stands at. -/
theorem withPressureTaken_none {s : State} {ct : Ct}
    (h : pressureTaken s.ps.geometry ct s.scu[(5 : Fin 6)].fifo = (ct, s.scu[(5 : Fin 6)].fifo)) :
    withPressureTaken ct s = { s with ct := ct } := by
  unfold withPressureTaken
  simp only [h, drained_self rfl]
  congr 1
  exact Vector.set_getElem_self ..

/-- The taking of the pressure samples that wait, whole (R10, R11, R96, R111). -/
theorem drainPressure_eq (s : State) : drainPressure s = withPressureTaken s.ct s := by
  unfold drainPressure
  generalize hf : s.scu[(5 : Fin 6)].fifo = fifo
  induction fifo generalizing s with
  | nil => exact (withPressureTaken_none (by rw [hf]; rfl)).symm
  | cons x rest ih =>
    cases hs : s.ct.step with
    | some w =>
      simp only [List.length_cons, drainPressureFor, hs, hf]
      exact (withPressureTaken_none (by rw [hf]; simp [pressureTaken, hs])).symm
    | none =>
      have dropped : (Channel.dropHead s.scu[(5 : Fin 6)]).fifo = rest := by
        unfold Channel.dropHead Channel.noteHead
        rw [hf]
        cases rest <;> rfl
      have taken : takePressure x (onChannel 5 Channel.dropHead s) = { s with
          scu := s.scu.set 5 (Channel.dropHead s.scu[(5 : Fin 6)])
          ct := if x.flags.fault then s.ct else forceTaken (x.a * s.ps.geometry.ah - x.b * s.ps.geometry.ar) s.ct } := by
        unfold takePressure
        split_ifs
        · rfl
        · rw [← takeForce_eq _ _ hs]; rfl
      have now5 : (takePressure x (onChannel 5 Channel.dropHead s)).scu[(5 : Fin 6)] =
          Channel.dropHead s.scu[(5 : Fin 6)] := by
        rw [taken]; exact Vector.getElem_set_self ..
      simp only [List.length_cons, drainPressureFor, hs, hf]
      rw [ih _ (by rw [now5, dropped])]
      unfold withPressureTaken
      rw [now5, taken, dropped, hf]
      simp only [pressureTaken, hs, Option.isSome_none, Bool.false_eq_true, if_false, Vector.set_set]
      rw [drained_dropHead _ hf (pressureTaken_length ..)]

/-- What the taking of pressure samples reads of the state is the geometry record and the channels (R10, R96). -/
theorem withPressureTaken_congr {u v : State} (ct : Ct) (scu : u.scu = v.scu) (ps : u.ps = v.ps) :
    (withPressureTaken ct u).ct = (withPressureTaken ct v).ct ∧ (withPressureTaken ct u).scu = (withPressureTaken ct v).scu := by
  unfold withPressureTaken; rw [scu, ps]; exact ⟨rfl, rfl⟩

/-- With no run active, a force taken changes the latest force and the window alone (R96, R103, R111). -/
theorem forceTaken_noRun (f : Int) {ct : Ct} (run : ct.run = none) :
    ∃ window, forceTaken f ct = { ct with force := some f, window := window } := by
  unfold forceTaken
  split
  · exact ⟨ct.window, rfl⟩
  · simp only []
    split_ifs with _ _ h
    · exact ⟨ct.window, rfl⟩
    · exact ⟨_, rfl⟩
    · simp [run] at h
    · exact ⟨_, rfl⟩

/-- With no run active and the step READY, every waiting sample is taken, which changes the latest force and the window alone (R10,
R96, R111). -/
theorem pressureTaken_noRun (g : Geometry) {ct : Ct} (fifo : List Sample) (run : ct.run = none) (ready : ct.step = none) :
    ∃ force window, pressureTaken g ct fifo = ({ ct with force := force, window := window }, []) := by
  induction fifo generalizing ct with
  | nil => exact ⟨_, _, rfl⟩
  | cons x rest ih =>
    simp only [pressureTaken, ready, Option.isSome_none, Bool.false_eq_true, if_false]
    split_ifs
    · simpa only [ready] using ih run ready
    · obtain ⟨window, e⟩ := forceTaken_noRun (x.a * g.ah - x.b * g.ar) run
      obtain ⟨force, window, h⟩ := ih (ct := forceTaken _ ct) (by rw [e]; exact run) (by rw [e]; exact ready)
      exact ⟨force, window, by rw [h, e]; simp only [ready]⟩

/-! ## The end of a run and the succession of its steps (R111, R117) -/

/-- The end of a run, whole (R111, R117). -/
theorem endRun_eq (r : Run) (outcome : RunOutcome) (s : State) : endRun r outcome s = withRunEnded r outcome s.ct s := by
  unfold endRun withRunEnded
  simp only []
  rw [drainPressure_eq]
  rfl

/-- The run goes on, the next waiting window beginning a step (R111). -/
theorem nextStep_cons {s : State} {w : Window} {rest : List Window} (h : s.ct.waiting = w :: rest) :
    nextStep s = { s with ct := { s.ct with step := some w, waiting := rest } } := by
  unfold nextStep
  rw [h]; rfl

/-- The run goes on with no window waiting: the step is READY, and the samples that wait are taken (R111). -/
theorem nextStep_nil {s : State} (h : s.ct.waiting = []) : nextStep s = withPressureTaken { s.ct with step := none } s := by
  unfold nextStep
  rw [h]
  simp only [drainPressure_eq]; rfl

/-- A hard error (R115, R117). -/
theorem hardFail_eq (cause : RunFailure) (s : State) :
    hardFail cause s = match s.ct.run with
      | none => s
      | some r => withRunEnded r (.failed cause) s.ct s := by
  cases h : s.ct.run <;> simp [hardFail, h, endRun_eq]

end Sys2Proof.Machine
end

