-- ==== Sys2Proof/Laws/Loads.lean ====
section
/-! SUPPORT. The Load Recorder as the statements say it: what a closing, an opening, the filing of a pass and a re-class leave, and
the notices each hands over, in order. -/

namespace Sys2Proof.Machine

/-- The state once notices are handed over and the Load Recorder is `lr`. -/
def told (ns : List Notice) (lr : Lr) (s : State) : State := { queueNotices ns s with lr := lr }

theorem queueNotices_append (ns ms : List Notice) (s : State) :
    queueNotices (ns ++ ms) s = queueNotices ms (queueNotices ns s) := List.foldl_append ..

/-- A notice is handed over the same whatever the Load Recorder holds. -/
theorem queueNotices_withLr (ns : List Notice) (lr : Lr) (s : State) :
    queueNotices ns { s with lr := lr } = { queueNotices ns s with lr := lr } := by
  induction ns generalizing s with
  | nil => rfl
  | cons n ns ih => exact ih (queueNotice n s)

theorem told_told (ns ms : List Notice) (a b : Lr) (s : State) : told ms b (told ns a s) = told (ns ++ ms) b s := by
  unfold told; rw [queueNotices_withLr, queueNotices_append]

theorem queueNotices_frame (ns : List Notice) (s : State) : Frame {} s (queueNotices ns s) :=
  foldl_frame _ (fun s n => queueNotice_frame n s) _ _

@[simp] theorem told_lr (ns : List Notice) (lr : Lr) (s : State) : (told ns lr s).lr = lr := rfl
@[simp] theorem told_time (ns : List Notice) (lr : Lr) (s : State) : (told ns lr s).lc.time = s.lc.time :=
  (queueNotices_frame ns s).lc.time

theorem told_nil (s : State) : told [] s.lr s = s := rfl

/-! ## Closing and opening (R121, R122, R127) -/

theorem Load.close_eq (l : Load) (how : LoadState) (now : Stamp) : Load.close l how now = closedAs how now l := by
  unfold Load.close closedAs Load.currentFuelPerTonne; rfl

/-- A closing (R127). -/
theorem closeLoad_eq (how : LoadState) (s : State) :
    closeLoad how s = told (closedNotices how s.lc.time s.lr) (withLoadClosed how s.lc.time s.lr) s := by
  unfold closeLoad closedNotices withLoadClosed
  cases h : s.lr.openLoad with
  | none => exact (told_nil s).symm
  | some l => simp only [← Load.close_eq]; rfl

/-- An opening (R121). -/
theorem openLoadIn_eq (bay : Fin 16) (s : State) :
    openLoadIn bay s = told [.loadEvent .opened (openedLoad bay s.lc.time s.lr) s.lc.time]
      { s.lr with openLoad := some (openedLoad bay s.lc.time s.lr), nextNumber := nextLoadNumber s.lr.nextNumber } s := rfl

/-! ## The tests of a pass (R123) -/

theorem testTarget_eq {s : State} {l : Load} (f : Load) (h : s.lr.openLoad = some l)
    (e : f = { l with atTarget := l.atTarget || Load.reachesTarget l }) : testTarget s =
    told (if f.atTarget = true ∧ l.atTarget = false then [.loadEvent .atTarget f s.lc.time] else [])
      { s.lr with openLoad := some f } s := by
  have same : ({ s.lr with openLoad := some l } : Lr) = s.lr := by rw [← h]
  unfold testTarget
  simp only [h]
  subst e
  cases ha : l.atTarget <;> cases hr : Load.reachesTarget l <;> simp
  · rw [show ({ l with atTarget := false } : Load) = l by rw [← ha], same]; rfl
  · rfl
  all_goals rw [show ({ l with atTarget := true } : Load) = l by rw [← ha], same]; rfl

theorem testOverload_eq {s : State} {l : Load} (f : Load) (h : s.lr.openLoad = some l)
    (e : f = { l with overloaded := l.overloaded || Load.exceedsTarget l }) : testOverload s =
    told (if f.overloaded = true ∧ l.overloaded = false then [.loadEvent .overloaded f s.lc.time] else [])
      { s.lr with openLoad := some f } s := by
  have same : ({ s.lr with openLoad := some l } : Lr) = s.lr := by rw [← h]
  unfold testOverload
  simp only [h]
  subst e
  cases ha : l.overloaded <;> cases hr : Load.exceedsTarget l <;> simp
  · rw [show ({ l with overloaded := false } : Load) = l by rw [← ha], same]; rfl
  · rfl
  all_goals rw [show ({ l with overloaded := true } : Load) = l by rw [← ha], same]; rfl

theorem testLastPass_eq {s : State} {l : Load} (h : s.lr.openLoad = some l) : testLastPass s =
    told (if l.total < l.target - l.tolerance ∧ l.passes.length < 12 ∧ l.passes.filterMap PassRecord.payload ≠ [] ∧
        l.target - l.total ≤ (l.passes.filterMap PassRecord.payload).sum / (l.passes.filterMap PassRecord.payload).length then
      [.loadEvent (.lastPass (l.target - l.total)
        ((l.passes.filterMap PassRecord.payload).sum / (l.passes.filterMap PassRecord.payload).length)) l s.lc.time] else [])
      s.lr s := by
  unfold testLastPass Load.lastPass Load.payloads
  simp only [h]
  split_ifs <;> rfl

theorem testFull_eq {s : State} {l : Load} (h : s.lr.openLoad = some l) : testFull s =
    told (if l.passes.length = 12 then [.loadEvent .closed (closedAs .closedFull s.lc.time l) s.lc.time] else [])
      (if l.passes.length = 12 then withLoadClosed .closedFull s.lc.time s.lr else s.lr) s := by
  unfold testFull
  simp only [h]
  split_ifs
  · rw [closeLoad_eq]; unfold closedNotices; simp only [h]
  · exact (told_nil s).symm

/-! ## The filing of a pass (R121 to R125) -/

/-- A load of the pass's bay stands open (R121, R122). -/
theorem readyLoad_eq (bay : Fin 16) (s : State) :
    readyLoad bay s = told (readiedLoad bay s.lc.time s.lr).1 (withBayOpen bay s.lc.time s.lr) s ∧
      (withBayOpen bay s.lc.time s.lr).openLoad = some (readiedLoad bay s.lc.time s.lr).2 ∧
      (withBayOpen bay s.lc.time s.lr).passTotal = s.lr.passTotal := by
  unfold readyLoad withBayOpen readiedLoad
  cases h : s.lr.openLoad with
  | none => refine ⟨?_, ?_, ?_⟩ <;> simp [openLoadIn_eq, withLoadClosed, h, nextLoadNumber]
  | some l =>
    by_cases hb : l.bay = bay
    · refine ⟨?_, ?_, ?_⟩ <;> simp [hb, h]
      exact (told_nil s).symm
    · refine ⟨?_, ?_, ?_⟩
      · simp only [hb, if_false, Option.map_some, Option.some.injEq, openLoadIn_eq, closeLoad_eq, told_told, told_lr, told_time]
        unfold withLoadClosed closedNotices
        simp only [h]
        rfl
      · simp [hb]
      · simp [hb, withLoadClosed, h]

/-- The filing of a pass in its bay's load, once it is counted (R122, R123). -/
theorem filePass_eq (p : Pass) (bay : Fin 16) (s : State) : filePass p bay s =
    (let old := (readiedLoad bay s.lc.time s.lr).2
     let l := withPass p bay old
     let weighed := l.passes.filterMap PassRecord.payload
     let mean := weighed.sum / weighed.length
     let lr : Lr := { withBayOpen bay s.lc.time s.lr with openLoad := some l }
     told ((readiedLoad bay s.lc.time s.lr).1 ++ [.passRecorded s.lr.passTotal (some (l.number, l.passes.length, l.total)) p] ++
        (if l.atTarget = true ∧ old.atTarget = false then [.loadEvent .atTarget { l with overloaded := old.overloaded } s.lc.time]
          else []) ++
        (if l.overloaded = true ∧ old.overloaded = false then [.loadEvent .overloaded l s.lc.time] else []) ++
        (if l.total < l.target - l.tolerance ∧ l.passes.length < 12 ∧ weighed ≠ [] ∧ l.target - l.total ≤ mean then
          [.loadEvent (.lastPass (l.target - l.total) mean) l s.lc.time] else []) ++
        (if l.passes.length = 12 then [.loadEvent .closed (closedAs .closedFull s.lc.time l) s.lc.time] else []))
      (if l.passes.length = 12 then withLoadClosed .closedFull s.lc.time lr else lr) s) := by
  obtain ⟨ready, isOpen, total⟩ := readyLoad_eq bay s
  generalize readiedLoad bay s.lc.time s.lr = r at ready isOpen ⊢
  obtain ⟨ns, old⟩ := r
  unfold filePass
  simp only [ready, told_lr, isOpen]
  have filed : queueNotice (.passRecorded s.lr.passTotal (some ((Load.append old p bay).number,
        (Load.append old p bay).passes.length, (Load.append old p bay).total)) p)
        (setLoad (Load.append old p bay) (told ns (withBayOpen bay s.lc.time s.lr) s)) =
      told (ns ++ [.passRecorded s.lr.passTotal (some ((withPass p bay old).number, (withPass p bay old).passes.length,
        (withPass p bay old).total)) p])
        { withBayOpen bay s.lc.time s.lr with openLoad := some (Load.append old p bay) } s := by
    rw [← told_told ns _ (withBayOpen bay s.lc.time s.lr)]; rfl
  rw [total, filed, testTarget_eq { withPass p bay old with overloaded := old.overloaded } rfl rfl, told_told,
    testOverload_eq (withPass p bay old) rfl rfl, told_told, testLastPass_eq rfl, told_told, testFull_eq rfl, told_told]
  simp only [told_time, told_lr, total, show (Load.append old p bay).atTarget = old.atTarget from rfl]

theorem countPass_time (p : Pass) (s : State) : (countPass p s).lc.time = s.lc.time := rfl

/-- A pass, once it is counted, leaves the Load Recorder and hands over the notices that the statements name (R121 to R125). -/
theorem handlePass_eq (p : Pass) (s : State) : handlePass p (countPass p s) =
    told (passNotices p s.lc.time s.lr) (withPassFiled p s.lc.time s.lr) (countPass p s) := by
  unfold handlePass passNotices withPassFiled
  cases hb : p.bay with
  | none => rfl
  | some bay =>
    have ready : readiedLoad bay s.lc.time (countPass p s).lr = readiedLoad bay s.lc.time s.lr := rfl
    have isOpen := (readyLoad_eq bay (countPass p s)).2.1
    simp only [filePass_eq, countPass_time, ready] at isOpen ⊢
    have counted : (countPass p s).lr = { s.lr with
        passTotal := s.lr.passTotal + 1, payloadTotal := s.lr.payloadTotal + BitVec.ofNat 48 (p.payload.getD 0) } := rfl
    rw [counted] at isOpen ⊢
    simp only [isOpen, Option.map_some, Option.some.injEq]

/-! ## A re-class (R120) -/

/-- A re-class of the open load: its figures, and its flags as they stand once settled, each event with the flags of its moment
(R120, assumption log 35). -/
theorem reclass_eq {i : Fin 16} {s : State} {l : Load} (h : s.lr.openLoad = some l) :
    let figured : Load := { l with cls := i, target := s.lr.classes[i].target, tolerance := s.lr.classes[i].tolerance }
    let cleared : Load := { figured with
      atTarget := l.atTarget && Load.reachesTarget figured, overloaded := l.overloaded && Load.exceedsTarget figured }
    let settled : Load := { figured with
      atTarget := Load.reachesTarget figured, overloaded := Load.exceedsTarget figured }
    reclass i s = told ([.loadEvent .reclassed figured s.lc.time] ++
      (if settled.atTarget = true ∧ l.atTarget = false then
        [.loadEvent .atTarget { settled with overloaded := cleared.overloaded } s.lc.time] else []) ++
      if settled.overloaded = true ∧ l.overloaded = false then [.loadEvent .overloaded settled s.lc.time] else [])
      { s.lr with openLoad := some settled } s := by
  intro figured cleared settled
  have hr : reclass i s = testOverload (testTarget (told [.loadEvent .reclassed figured s.lc.time]
      { s.lr with openLoad := some cleared } s)) := by
    unfold reclass
    simp only [h]
    rfl
  rw [hr, testTarget_eq { settled with overloaded := cleared.overloaded } rfl
    (by simp only [settled, cleared, figured]
        cases l.atTarget <;> simp [Load.reachesTarget])]
  rw [told_told, testOverload_eq settled rfl
    (by simp only [settled, cleared, figured]
        cases l.overloaded <;> simp [Load.exceedsTarget]), told_told]
  have at_iff : settled.atTarget = true ∧ cleared.atTarget = false ↔ settled.atTarget = true ∧ l.atTarget = false := by
    simp only [settled, cleared]; cases l.atTarget <;> simp
  have over_iff : settled.overloaded = true ∧ cleared.overloaded = false ↔ settled.overloaded = true ∧ l.overloaded = false := by
    simp only [settled, cleared]; cases l.overloaded <;> simp
  simp only [told_time, told_lr, at_iff, over_iff]

end Sys2Proof.Machine
end

