-- ==== Sys2Proof/Tests/Slice0.lean ====
section
/-! SUPPORT. Small checks: ill-formed commands, the spec's worked cases, one step of each command, and for each statement
with hypotheses a state that meets them. Expected values come from spec/ or from hand calculation by its rules. -/

namespace Sys2Proof.Tests

set_option Elab.async false

open Sys2Proof.Machine

/-! ## Helpers -/

/-- The state after a command. -/
def after (c : Instr) (s : State) : State :=
  match exec c s with
  | .next t => t
  | .fault _ | .refused _ => s

/-- A state with one command frame in the inbox, a free transmitter and an authority level. -/
def inboxed (kind : Byte) (body : List Byte) (level : Authority) (s : State) : State :=
  { s with
    mlu := { s.mlu with authority := level }
    lc := { s.lc with inbox := [{ kind := kind, tag := 7, body := body }], tx := .free } }

/-- The status byte of the reply being sent. -/
def statusOf (s : State) : Option Byte :=
  match s.lc.tx with
  | .sending (.reply r) => r.body.head?
  | _ => none

/-- The reset state at another part time. -/
def atTime (t : Stamp) (s : State) : State := { s with lc := { s.lc with time := t } }

/-- A state with one channel changed. -/
def withChannel (ch : Fin 6) (f : Channel → Channel) (s : State) : State := { s with scu := s.scu.set ch (f s.scu[ch]) }

/-- A state with one zone. -/
def withZone (k : Fin 16) (z : Zone) (s : State) : State :=
  { s with zt := { s.zt with zones := s.zt.zones.set k { held := some z } } }

/-- A state with one service entry. -/
def withItem (i : Fin 24) (e : ServiceEntry) (s : State) : State :=
  { s with st := { s.st with entries := s.st.entries.set i (some e) } }

/-! ## Ill-formed commands are refused (R168, R169, R172, R161) -/

theorem test_wellFormed_body_of_240 : (Instr.getStatus 1 (List.replicate 240 0)).wellFormed = true := by decide +kernel

theorem test_illFormed_body_of_241 : (Instr.getStatus 1 (List.replicate 241 0)).wellFormed = false := by decide +kernel

theorem test_illFormed_unknown_kind_that_is_known : (Instr.unknownKind 0x20 1 []).wellFormed = false := by decide +kernel

theorem test_wellFormed_unknown_kind : (Instr.unknownKind 0x40 1 []).wellFormed = true := by decide +kernel

theorem test_illFormed_unknown_kind_body : (Instr.unknownKind 0x40 1 (List.replicate 241 0)).wellFormed = false := by decide +kernel

theorem test_illFormed_length_in_range :
    (Instr.hostLengthError 2).wellFormed = false ∧ (Instr.hostLengthError 242).wellFormed = false ∧
      (Instr.hostLengthError 1).wellFormed = true ∧ (Instr.hostLengthError 243).wellFormed = true := by decide +kernel

/-- Content with a gain of 0, outside 1..65 535 (R108). -/
def badContent : Retained := { Retained.default with gain := Vector.replicate 8 0 }

theorem test_illFormed_image_of_impossible_content :
    (Instr.commitAttemptEnd true (snapshotImage badContent)).wellFormed = false ∧
      (Instr.powerLoss (snapshotImage badContent)).wellFormed = false := by decide +kernel

theorem test_wellFormed_image_that_does_not_agree :
    (Instr.powerLoss { snapshotImage badContent with checkAgrees := false }).wellFormed = true ∧
      (Instr.powerLoss (snapshotImage Retained.default)).wellFormed = true := by decide +kernel

/-! ## Shared operations against the spec's figures -/

/-- "123456789" in ASCII, the usual check string of a CRC. -/
def checkString : List Byte := [0x31, 0x32, 0x33, 0x34, 0x35, 0x36, 0x37, 0x38, 0x39]

theorem test_crc8_check_value : crc8 checkString = 0xF4 := by decide +kernel

theorem test_crc16_check_value : crc16 checkString = 0x29B1 := by decide +kernel

/-- A receiver that runs the CRC-8 over bytes 1 to 8 together obtains 0 (R2). -/
theorem test_crc8_over_its_own_crc : crc8 (checkString ++ [0xF4]) = 0 := by decide +kernel

/-- The table entries and signs of spec 03 section 3.6. -/
theorem test_trig_of_worked_case :
    sine (angleOf 5461) = 8185 ∧ cosine (angleOf 5461) = 14193 ∧ sine (angleOf (-12743)) = -15401 ∧
      cosine (angleOf (-12743)) = 5591 ∧ sine (angleOf (-20025)) = -15392 ∧ cosine (angleOf (-20025)) = -5614 := by decide +kernel

/-- The rounding of spec 03 section 3.6 and R39. -/
theorem test_round14 : round14 (-52363400) = -3196 ∧ round14 (-10666600) = -651 ∧ round14 (-52355072) = -3195 := by decide +kernel

/-- Spec 03 sections 3.6 and 3.7: the tip on level ground and pitched up, and the tilt facing left. -/
theorem test_tip_of_worked_cases :
    tipOf .default 0 5461 (-12743) (-20025) = (7893, 1716) ∧ tipOf .default 1000 5461 (-12743) (-20025) = (7614, 1779) ∧
      boomPlaneTilt 16384 1000 (-500) = -500 := by decide +kernel

/-- Spec 05 section 5.12 and R79: lead angles under the default deceleration. -/
theorem test_lead_angles :
    leadAngle 1820 2176 = 1300 ∧ leadAngle 1820 1707 = 800 ∧ leadAngle 1820 (-455) = 56 ∧ leadAngle 1820 0 = 0 := by decide +kernel

/-- The zone of the pit power line pole (spec 04, "a sector through 0"; spec 05 section 5.12). -/
def pole : ZoneRecord :=
  { kind := .keepOut, anchor := .site, start := 64000, extent := 3000, rmin := 0, rmax := 30000, hmin := -30000, hmax := 30000
    angularMargin := 300, heightMargin := 0, suspendLevel := .supervisor, armAtStart := true, label := [] }

theorem test_sector_through_zero :
    [(62500 : Angle), 63999, 64000, 65535, 0, 1463, 1464].map pole.inSector = [false, false, true, true, true, true, false] := by
  decide +kernel

/-- A pose turned and moving, with a valid slew angle. -/
def turned (a : Angle) (rate : Int) : Pose :=
  { Pose.fresh with reach := 7893, height := 1716, slewAngle := a, slewRate := rate, quality := .good, slewValid := true }

/-- The Slew Limiter with channel 3 LIVE and the default settings. -/
def liveSl : Sl := Sl.fresh .default 0 .live

/-- The rows of spec 05 section 5.12: due at 62 500, kept at 63 660, reversed at 63 600, caution at 61 500. -/
theorem test_swing_toward_the_pole :
    dueAfresh (slewInputs liveSl (turned 62500 2176)) pole .left = true ∧
      dueAfresh (slewInputs liveSl (turned 61500 2176)) pole .left = false ∧
      cautionTest (slewInputs liveSl (turned 61500 2176)) pole false .left = true ∧
      keptCut (slewInputs liveSl (turned 63660 0)) pole true .left = true ∧
      slewCutDue (slewInputs liveSl (turned 63660 0)) pole false .left = false ∧
      slewCutDue (slewInputs liveSl (turned 63600 (-455))) pole true .left = false := by decide +kernel

/-- A closed window of sixteen equal forces (spec 06, "weighing one pass"). -/
def weighed16 (f : Int) : Window :=
  { band := 3, length := 16, steadiness := 400000, sum := 16 * f, count := 16, least := some f, most := some f
    forRun := false, result := none }

/-- The tables of the same case. -/
def caseEmpty : Vector Int 8 := (Vector.replicate 8 0).set 3 2080000

/-- The gains of the same case. -/
def caseGain : Vector Nat 8 := (Vector.replicate 8 1024).set 3 1260

theorem test_weighing_one_pass :
    (weigh caseEmpty caseGain (weighed16 3641000)).payload = some 30012 ∧
      (weigh caseEmpty caseGain (weighed16 3641000)).quality = .good ∧
      (weigh caseEmpty caseGain (weighed16 2030000)).payload = some 0 ∧
      (weigh caseEmpty caseGain (weighed16 2030000)).quality = .light ∧
      (weigh caseEmpty caseGain (weighed16 6080000)).payload = some 65000 := by decide +kernel

/-- Spec 06, the same case with six samples and with three. -/
theorem test_short_and_no_weight :
    (weigh caseEmpty caseGain { weighed16 0 with
      sum := 21846000, count := 6, least := some 3600000, most := some 3700000 }).quality = .short ∧
      (weigh caseEmpty caseGain { weighed16 0 with count := 3 }).payload = none := by decide +kernel

/-- R113: a known load of 31 000 kg and a lifted force of 1 561 000 N. -/
theorem test_gain_of_known_load : gainFor 31000 1561000 = 1301 := by decide +kernel

/-- Spec 09 section 9.2: an engine oil change every 500 hours with warn 90 and grace 50. -/
theorem test_service_thresholds :
    let d : ServiceDef := { code := 1, basis := .engineHours, interval := 500, warn := 90, grace := 50, severity := .derate, cap := 60 }
    d.warnPoint = 1620000 ∧ d.duePoint = 1800000 ∧ d.overduePoint = 1980000 := by decide +kernel

/-! ## One step of each command -/

/-- Byte 1 to 7 of a stick frame with a sequence number and unit 0x12 (R2). -/
def stickFrame (seqStatus unit : Byte) : List Byte := [0xA6, 0x12, unit, seqStatus, 0x10, 0x00, 0x00, 0x05]

/-- The stick channel of spec 01 section 1.9 between its frames, its eight bytes collected. -/
def stick (f : List Byte) (health : Health) (acq : Nat) (last : LastFrame) (s : State) : State :=
  withChannel 1 (fun c => { c with
    settings := { enable := true, unit := 0x02, mask := 0x0F, window := 50, spacing := 5, mode := .latest }
    assembler := .collecting f, health := health, acqCount := acq, lastFrame := some last
    staleTimer := if health = .live then some last.stamp else none }) s

/-- 1052 ms of spec 01 section 1.9: the third good sample makes the channel LIVE. -/
theorem test_sensor_frame_acquires :
    let c := (stick [] .acquiring 2 { seq := 9, stamp := 1032 } .reset).scu[(1 : Fin 6)]
    let d := Channel.afterFrame 1 (stickFrame 0xA0 0x12 ++ [crc8 ((stickFrame 0xA0 0x12).drop 1)]) 1052 c
    d.health = .live ∧ d.staleTimer = some 1052 ∧ d.acqCount = 0 ∧ d.lastFrame = some { seq := 10, stamp := 1052 } := by
  decide +kernel

/-- 1014 ms and 1072 ms of spec 01 section 1.9: chatter, and a foreign unit. -/
theorem test_sensor_frame_chatter_and_foreign :
    let s := atTime 1014 (stick (stickFrame 0x80 0x12) .acquiring 1 { seq := 7, stamp := 1012 } .reset)
    let t := after (.sensorFrameArrival 1 (crc8 ((stickFrame 0x80 0x12).drop 1))) s
    let u := atTime 1072 (stick (stickFrame 0xB0 0x13) .live 0 { seq := 10, stamp := 1052 } .reset)
    let v := after (.sensorFrameArrival 1 (crc8 ((stickFrame 0xB0 0x13).drop 1))) u
    (t.scu[(1 : Fin 6)].chatterLatch = true ∧ t.scu[(1 : Fin 6)].lastFrame = some { seq := 7, stamp := 1012 }) ∧
      v.scu[(1 : Fin 6)].stats.foreign = 1 ∧ v.scu[(1 : Fin 6)].rejectRun = 1 := by decide +kernel

theorem test_sensor_framing_error :
    let t := after (.sensorFramingError 0) (withChannel 0 (fun c => { c with assembler := .collecting [0xA6, 1] }) .reset)
    t.scu[(0 : Fin 6)].assembler = .hunting ∧ t.scu[(0 : Fin 6)].stats.framing = 1 := by decide +kernel

theorem test_sensor_character :
    (after (.sensorCharacter 5 0xA6) .reset).scu[(5 : Fin 6)].assembler = .collecting [0xA6] ∧
      (after (.sensorCharacter 5 0xA5) .reset).scu[(5 : Fin 6)].assembler = .hunting := by decide +kernel

theorem test_break_detector_sample :
    (after (.breakDetectorSample 2 false) .reset).scu[(2 : Fin 6)].brk = { lowRun := 1, mark := false } ∧
      (after (.breakDetectorSample 2 true) (withChannel 2 (fun c => { c with brk := { lowRun := 4 } }) .reset)).scu[(2 : Fin 6)].brk =
        { lowRun := 0, mark := false } := by decide +kernel

/-- Channel 4 one low sample before a break. -/
def nearBreak : State := withChannel 4 (fun c => { c with brk := { lowRun := 4, mark := false } }) .reset

/-- R15: a break fails the channel; in FAILED(MISWIRED) it is only counted. -/
theorem test_break_detected :
    let s := withChannel 4 (fun c => { c with health := .failed .miswired }) nearBreak
    (Channel.takeBreak nearBreak.scu[(4 : Fin 6)]).health = .failed .lineBreak ∧
      (after (.breakDetected 4) s).scu[(4 : Fin 6)].stats.breaks = 1 ∧
      (after (.breakDetected 4) s).scu[(4 : Fin 6)].health = .failed .miswired := by decide +kernel

/-- Channel 4 in FAILED(BREAK), its line found high once. -/
def endingBreak : State :=
  withChannel 4 (fun c => { c with brk := { lowRun := 0, mark := true }, health := .failed .lineBreak }) .reset

theorem test_break_end :
    (Channel.endBreak endingBreak.scu[(4 : Fin 6)]).health = .acquiring ∧
      (Channel.endBreak endingBreak.scu[(4 : Fin 6)]).brk = { lowRun := 0, mark := false } := by decide +kernel

/-- The stick channel LIVE since 1092 ms, at 1142 ms (spec 01 section 1.9). -/
def windowPassed : State := atTime 1142 (stick [] .live 0 { seq := 11, stamp := 1092 } .reset)

theorem test_stale_timer_expiry :
    (Channel.goStale windowPassed.scu[(1 : Fin 6)]).silentTimer = some 1092 ∧
      (after (.staleTimerExpiry 1) (atTime 1141 windowPassed)).scu[(1 : Fin 6)].health = .live := by decide +kernel

/-- The same channel at 1592 ms, ten windows after its last sample. -/
def tenWindowsPassed : State := atTime 1592 (withChannel 1 Channel.goStale windowPassed)

theorem test_silent_timer_expiry :
    (Channel.fail .silent tenWindowsPassed.scu[(1 : Fin 6)]).health = .failed .silent ∧
      (after (.silentTimerExpiry 1) (atTime 1591 tenWindowsPassed)).scu[(1 : Fin 6)].health = .stale := by decide +kernel

/-- CHANNEL SET of spec 01 section 1.9 (R20, R180). -/
def stickSet : List Byte := [1, 1, 0x02, 0x0F, 50, 5, 0]

theorem test_channel_set :
    let t := after (.channelSet 7 stickSet) (inboxed 0x08 stickSet .service .reset)
    t.scu[(1 : Fin 6)].settings = { enable := true, unit := 0x02, mask := 0x0F, window := 50, spacing := 5, mode := .latest } ∧
      statusOf t = some 0 := by decide +kernel

theorem test_channel_set_refused_when_spacing_reaches_window :
    statusOf (after (.channelSet 7 [1, 1, 2, 15, 5, 5, 0]) (inboxed 0x08 [1, 1, 2, 15, 5, 5, 0] .service .reset)) =
      some (BitVec.ofNat 8 (statusCode .badField)) := by decide +kernel

/-- A latched flag is read and cleared (R21). -/
theorem test_channel_status_clears :
    let s := inboxed 0x09 [3, 1] .operator (withChannel 3 (fun c => { c with overrunLatch := true }) .reset)
    (after (.channelStatus 7 [3, 1]) s).scu[(3 : Fin 6)].overrunLatch = false ∧
      (after (.channelStatus 7 [3, 0]) (inboxed 0x09 [3, 0] .operator s)).scu[(3 : Fin 6)].overrunLatch = true := by decide +kernel

theorem test_channel_restart :
    let s := withChannel 0 (fun c => { c with rejectRun := 7, acqCount := 2 }) .reset
    (after (.channelRestart 7 [0]) (inboxed 0x0A [0] .operator s)).scu[(0 : Fin 6)].acqCount = 0 ∧
      (after (.channelRestart 7 [0]) (inboxed 0x0A [0] .operator s)).scu[(0 : Fin 6)].rejectRun = 0 := by decide +kernel

/-- R11: the flags of the head entered the accumulated set as it became the head; after a clear, only the samples behind it
enter when a computation empties the FIFO. -/
theorem test_emptied_fifo_accumulates_behind_the_head :
    let x (d g : Bool) : Sample := { a := 0, b := 0, stamp := 0, flags := { degraded := d, fault := false, gap := g, clamped := false } }
    let c : Channel := { settings := .default 0, health := .live, fifo := [x true false, x false true] }
    c.emptyForPose.accumulated = { degraded := false, fault := false, gap := true, clamped := false } ∧
      c.emptyForPose.stats.superseded = 1 := by decide +kernel

/-- R92: turning while channel 3 is FAILED(MISWIRED) is not read; while it is STALE it is. -/
theorem test_slew_travel_is_read_only_while_up :
    let x : Sample := { a := 0, b := 0, stamp := 0, flags := { degraded := false, fault := false, gap := false, clamped := false } }
    (sampleActions 3 (.failed .miswired) x).length = 1 ∧ (sampleActions 3 .stale x).length = 2 := by decide +kernel

/-- All seven inputs read the same. -/
def allInputs (b : Bool) : InputSamples :=
  { pilotEnable := b, seat := b, joyLeft := b, joyRight := b, travel := b, supervisorKey := b, servicePlug := b }

/-- No input ACTIVE but the supervisor key. -/
def keyOnly : InputSamples := { allInputs false with supervisorKey := true }

/-- No input ACTIVE but TRAVEL. -/
def travelOnly : InputSamples := { allInputs false with travel := true }

/-- The reset state at its first reading, with last samples. -/
def lastRead (x : InputSamples) (s : State) : State :=
  { atTime 2 s with mlu := { s.mlu with inputs := PerInput.map₂ (fun (d : Debouncer) v => { d with last := some v }) s.mlu.inputs x } }

theorem test_input_level_change_raises_authority :
    let t := after (.inputLevelChange keyOnly) (lastRead keyOnly .reset)
    t.mlu.authority = .supervisor ∧ t.mlu.inputs.supervisorKey.level = true := by decide +kernel

theorem test_input_reading_keeps_levels :
    let t := after (.inputReading keyOnly) (atTime 2 .reset)
    t.mlu.authority = .operator ∧ t.mlu.inputs.supervisorKey = { level := false, last := some true } ∧ t.mlu.nextReading = 4 := by
  decide +kernel

/-- PULSE driven and sounding since 1000 ms. -/
def pulsing : State := { atTime 1250 .reset with mlu := { (Mlu.fresh .off) with driven := .pulse, sounder := true, periodStart := 1000 } }

theorem test_alarm_cadence :
    (after .alarmCadence pulsing).mlu.sounder = false ∧ (after .alarmCadence (atTime 1249 pulsing)).mlu.sounder = true := by decide +kernel

/-- All of channels 0 to 4 LIVE in the health copy of a computation with the held values of spec 03 section 3.6. -/
def posing (pitch : Int) : State :=
  { State.reset with
    ps := { State.reset.ps with
      held := #v[{ a := 5461 }, { a := -12743 }, { a := -20025 }, {}, { a := pitch }]
      inFlight := some { geometry := .default, health := Vector.replicate 5 .live, usedDegraded := false } } }

/-- Spec 03 section 3.6. -/
theorem test_pose_of_worked_case :
    let p := assemblePose (posing 0).ps { geometry := .default, health := Vector.replicate 5 .live, usedDegraded := false } 5
    p.reach = 7893 ∧ p.height = 1716 ∧ p.curl = 7282 ∧ p.quality = .good ∧ p.slewValid = true ∧ p.count = 1 ∧ p.stamp = 5 := by
  decide +kernel

/-- The reset computation (R55): held values 0, so the tip lies at Fx + Lb + Ls + Lk and Fz, INVALID. -/
theorem test_pose_completion :
    let t := after .poseCompletion .reset
    t.ps.pose.reach = 13700 ∧ t.ps.pose.height = 2900 ∧ t.ps.pose.quality = .invalid ∧ t.sl.state = .free ∧
      t.mlu.cutLines = .empty := by decide +kernel

/-- A GAIN run at its step with a GOOD window of lifted force 1 561 000 N (R113). -/
def gainStep (load : Nat) (lifted : Int) : State :=
  { State.reset with
    ct := { State.reset.ct with
      run := some { kind := .gain load, soft := 0 }
      step := some { weighed16 0 with
        result := some { band := 3, count := 16, mean := some 0, spread := some 0, lifted := some lifted, payload := some 0
                         quality := .good } } } }

/-- R113, R117: the run ends DONE, its notice carrying band 3 and the new gain. -/
theorem test_calibration_step_end :
    let t := after .calibrationStepEnd (gainStep 31000 1561000)
    t.ct.gain[(3 : Fin 8)] = 1301 ∧ t.ct.run = none ∧ noticeHanded (.calibrationResult true (.done 0x08 [1301]) 0 0) t.lc := by
  unfold noticeHanded; decide +kernel

/-- R111, R114: a soft error is counted, and the next waiting window begins a step. -/
theorem test_calibration_step_end_soft :
    let s := gainStep 31000 0
    let t := after .calibrationStepEnd { s with ct := { s.ct with waiting := [weighed16 1, weighed16 2] } }
    t.ct.run.map Run.soft = some 1 ∧ t.ct.gain = s.ct.gain ∧ (t.ct.step, t.ct.waiting) = (some (weighed16 1), [weighed16 2]) ∧
      (after .calibrationStepEnd s).ct.step = none := by decide +kernel

/-- A geometry body: the default record with Fx −100 (R35, R180). -/
def geometryBody : List Byte :=
  [0xFF, 0x9C, 0x0B, 0x54, 0x1D, 0xB0, 0x0D, 0x48, 0x07, 0x6C, 0x06, 0x40, 0x03, 0x84, 0x0B, 0xB8, 0x05, 0xDC]

theorem test_geometry_set :
    let t := after (.geometrySet 7 geometryBody) (inboxed 0x10 geometryBody .service .reset)
    t.ps.geometry = { Geometry.default with fx := -100 } ∧ t.rs.state = .dirty := by decide +kernel

theorem test_geometry_get :
    (after (.geometryGet 7 []) (inboxed 0x11 [] .operator .reset)).lc.tx = .sending (.reply { kind := 0x91, tag := 7, body :=
      [0, 0x03, 0x20, 0x0B, 0x54, 0x1D, 0xB0, 0x0D, 0x48, 0x07, 0x6C, 0x06, 0x40, 0x03, 0x84, 0x0B, 0xB8, 0x05, 0xDC] }) := by
  decide +kernel

/-- GRADE SET: ON, depth 3000, slope −20, reference reach 6000, tolerance 50 (R49, R180). -/
def gradeBody : List Byte := [1, 0x0B, 0xB8, 0xFF, 0xEC, 0x17, 0x70, 0x00, 0x32]

theorem test_grade_set :
    (after (.gradeSet 7 gradeBody) (inboxed 0x12 gradeBody .operator .reset)).ps.grade =
      { on := true, depth := 3000, slope := -20, refReach := 6000, tolerance := 50 } := by decide +kernel

/-- R52: 1 is taken as 20, 65 535 as 1000. -/
theorem test_tip_subscribe :
    (after (.tipSubscribe 7 [0, 1]) (inboxed 0x13 [0, 1] .operator .reset)).ps.tipInterval = 20 ∧
      (after (.tipSubscribe 7 [255, 255]) (inboxed 0x13 [255, 255] .operator .reset)).ps.tipInterval = 1000 := by decide +kernel

/-- ZONE WRITE of the pole's zone at an entry (R56, R180). -/
def poleBody (index : Byte) : List Byte :=
  [index, 1, 1, 0xFA, 0x00, 0x0B, 0xB8, 0, 0, 0x75, 0x30, 0x8A, 0xD0, 0x75, 0x30, 0x01, 0x2C, 0, 0, 1, 1, 0]

/-- R59, R70: the record is stored, the entry's statistics begin at 0, and those of another entry stay. -/
theorem test_zone_write :
    let counted : ZoneEntry := { held := none, intrusions := 4, cuts := 5 }
    let s := { State.reset with zt := { State.reset.zt with zones := (State.reset.zt.zones.set 6 counted).set 2 counted } }
    let t := after (.zoneWrite 7 (poleBody 6)) (inboxed 0x18 (poleBody 6) .supervisor s)
    t.zt.zones[(6 : Fin 16)] = { held := some { record := pole, state := .armed }, intrusions := 0, cuts := 0 } ∧
      t.zt.zones[(2 : Fin 16)] = counted ∧ statusOf t = some 0 := by decide +kernel

theorem test_zone_write_refused_during_travel :
    let s := { State.reset with mlu := { State.reset.mlu with inputs := { freshInputs with travel := { level := true } } } }
    (after (.zoneWrite 7 (poleBody 6)) (inboxed 0x18 (poleBody 6) .supervisor s)).zt.zones[(6 : Fin 16)].held = none := by decide +kernel

/-- The reset state with the pole's zone at entry 6. -/
def poled (st : ZoneState) : State := withZone 6 { record := pole, state := st } .reset

theorem test_zone_clear :
    (after (.zoneClear 7 [6]) (inboxed 0x19 [6] .supervisor (poled .armed))).zt.zones[(6 : Fin 16)] = {} := by decide +kernel

theorem test_zone_read_clears_statistics :
    let s := { poled .armed with zt := { zones := (poled .armed).zt.zones.set 2 { held := none, intrusions := 4, cuts := 5 }, unanchored := 0 } }
    (after (.zoneRead 7 [2, 1]) (inboxed 0x1A [2, 1] .operator s)).zt.zones[(2 : Fin 16)] = {} := by decide +kernel

theorem test_zone_suspend :
    (after (.zoneSuspend 7 [6]) (inboxed 0x1B [6] .supervisor (poled .armed))).zt.zones[(6 : Fin 16)].state? = some .suspended ∧
      statusOf (after (.zoneSuspend 7 [6]) (inboxed 0x1B [6] .operator (poled .armed))) =
        some (BitVec.ofNat 8 (statusCode .authority)) := by decide +kernel

theorem test_zone_resume :
    (after (.zoneResume 7 [6]) (inboxed 0x1C [6] .supervisor (poled .dormant))).zt.zones[(6 : Fin 16)].state? = some .armed := by
  decide +kernel

/-- R66, R67: a turn of 2000 to the right; a SUSPENDED prior state above the authority comes back ARMED. -/
theorem test_reanchor :
    let s := withZone 3 { record := { pole with suspendLevel := .service }, state := .unanchored .suspended } (poled (.unanchored .dormant))
    let t := after (.reanchor 7 [0x07, 0xD0]) (inboxed 0x1D [0x07, 0xD0] .supervisor s)
    (t.zt.zones[(6 : Fin 16)].held.map fun z => (z.record.start, z.state)) = some (464, .dormant) ∧
      t.zt.zones[(3 : Fin 16)].state? = some .armed := by decide +kernel

/-- Deceleration 2000, hysteresis 64, swing threshold 910 (R76, R180). -/
def slewBody : List Byte := [0x07, 0xD0, 0x00, 0x40, 0x03, 0x8E]

theorem test_slew_settings :
    (after (.slewSettings 7 slewBody) (inboxed 0x1E slewBody .service .reset)).sl.settings =
      { deceleration := 2000, hysteresis := 64, swingThreshold := 910 } := by decide +kernel

/-- The default cycle settings with a window of 8 and stop-on-soft on (R95, R180). -/
def cycleBody : List Byte :=
  [1, 0x17, 0x70, 0x07, 0xD0, 0xFE, 0x0C, 0x00, 0x03, 0x0D, 0x40, 8, 0x00, 0x06, 0x1A, 0x80, 0x00, 0xB6, 1]

/-- The reset state with the pressure health copy LIVE. -/
def pressureLive : State := { State.reset with ct := { State.reset.ct with health := .live } }

/-- A state with an active GAIN run. -/
def running : State := { pressureLive with ct := { pressureLive.ct with run := some { kind := .gain 31000, soft := 2 } } }

/-- R95, R115, R117: the settings are stored, and the write ends the run FAILED as HARD with cause SETTINGS. -/
theorem test_cycle_settings :
    let t := after (.cycleSettings 7 cycleBody) (inboxed 0x20 cycleBody .service running)
    t.ct.settings = { CycleSettings.default with windowLength := 8, stopOnSoft := true } ∧ t.ct.run = none ∧
      noticeHanded (.calibrationResult true (.failed .hardSettings) 2 0) t.lc := by unfold noticeHanded; decide +kernel

theorem test_calibrate_empty :
    (after (.calibrateEmpty 7 [0x18]) (inboxed 0x21 [0x18] .supervisor pressureLive)).ct.run =
      some { kind := .empty 0x18 (Vector.replicate 8 []), soft := 0 } ∧
      statusOf (after (.calibrateEmpty 7 [0]) (inboxed 0x21 [0] .supervisor pressureLive)) =
        some (BitVec.ofNat 8 (statusCode .badField)) := by decide +kernel

theorem test_calibrate_gain :
    (after (.calibrateGain 7 [0x79, 0x18]) (inboxed 0x22 [0x79, 0x18] .supervisor pressureLive)).ct.run =
      some { kind := .gain 31000, soft := 0 } ∧
      (after (.calibrateGain 7 [0x79, 0x18]) (inboxed 0x22 [0x79, 0x18] .supervisor .reset)).ct.run = none := by decide +kernel

/-- R116, R117: the run ends with its CALIBRATION RESULT; with none active the command is refused. -/
theorem test_calibrate_cancel :
    (let t := after (.calibrateCancel 7 []) (inboxed 0x23 [] .operator running)
     t.ct.run = none ∧ noticeHanded (.calibrationResult true .cancelled 2 0) t.lc) ∧
      statusOf (after (.calibrateCancel 7 []) (inboxed 0x23 [] .operator .reset)) =
        some (BitVec.ofNat 8 (statusCode .state)) := by unfold noticeHanded; decide +kernel

/-- TRUCK CLASS SET: entry 1, target 60 000, tolerance 3000 (R119, R180). -/
def classBody : List Byte := [1, 1, 0x00, 0x00, 0xEA, 0x60, 0x0B, 0xB8]

theorem test_truck_class_set :
    (after (.truckClassSet 7 classBody) (inboxed 0x24 classBody .supervisor .reset)).lr.classes[(1 : Fin 16)] =
      { target := 60000, tolerance := 3000 } := by decide +kernel

/-- An OPEN load of one pass of 30 000 kg. -/
def oneLoad : Load :=
  { number := 5, cls := 0, target := 90000, tolerance := 5000, bay := 2, state := .isOpen
    passes := [{ position := 1, payload := some 30000, quality := .good, band := 3, dumpAngle := 0, stamp := 0, bay := 2 }]
    total := 30000, incompleteWeight := false, atTarget := false, overloaded := false, fuel := 600, fuelPerTonne := none
    opened := 0, closed := none }

/-- The reset state with that load OPEN, and class 1 in use with a target of 30 000. -/
def loading : State :=
  { State.reset with
    lr := { State.reset.lr with openLoad := some oneLoad, nextNumber := 6
                                classes := defaultClasses.set 1 { target := 30000, tolerance := 1000 } } }

theorem test_load_next_reclasses :
    let t := after (.loadNext 7 [1, 1]) (inboxed 0x25 [1, 1] .operator loading)
    t.lr.nextClass = 1 ∧ (t.lr.openLoad.map fun l => (l.target, l.atTarget, l.overloaded)) = some (30000, true, false) := by decide +kernel

/-- R126, R128: 600 ml over 30 t is 20 ml per tonne. -/
theorem test_load_close :
    let t := after (.loadClose 7 []) (inboxed 0x26 [] .operator loading)
    t.lr.openLoad = none ∧ t.lr.history.map (fun l => (l.state, l.fuelPerTonne)) = [(.closedHost, some 20)] := by decide +kernel

theorem test_load_read :
    statusOf (after (.loadRead 7 [0xFF]) (inboxed 0x27 [0xFF] .operator loading)) = some 0 ∧
      statusOf (after (.loadRead 7 [0]) (inboxed 0x27 [0] .operator loading)) =
        some (BitVec.ofNat 8 (statusCode .notFound)) := by decide +kernel

/-- The ENGINE REPORT of spec 11's worked example. -/
def reportBody : List Byte := [0x06, 0xFE, 0x46, 0x07, 0x3A, 0x01, 0x01, 0x00, 0x58]

/-- The same values as a record. -/
def report : EngineReport :=
  { rpm := 1790, load := 70, fuelRate := 1850, coolant := some 88, running := true, regenActive := false, engineFault := false }

theorem test_engine_report :
    let t := after (.engineReport 7 reportBody) (atTime 1000 (inboxed 0x28 reportBody .operator .reset))
    t.em.copy = some { report := report, stamp := 1000 } ∧ t.em.mode = .work := by decide +kernel

/-- Report 4 of the worked case of spec 08: 2500 ms after report 3, which carried rate 1900 and load 100. -/
def beforeReport4 : State :=
  { atTime 3700 .reset with
    em := { State.reset.em with
      mode := .work, idleTimer := some 1000, copy := some { report := { report with load := 100, fuelRate := 1900 }, stamp := 1200 }
      fuelTotal := 10, fuelAcc := 10000, engineMs := 200, weightedAcc := 600
      lastAdvice := { mode := .work, rpm := 1800, cap := 100, reasons := .ofCap 100 } } }

theorem test_engine_report_integrates :
    let c : EngineCopy := { report := { report with load := 100, fuelRate := 1900 }, stamp := 1200 }
    let e := Em.integrateTime c 1000 (Em.integrateFuel c 2500 beforeReport4.em)
    e.fuelTotal = 63 ∧ e.fuelAcc = 2000 ∧ e.engineSeconds = 1 ∧ e.engineMs = 200 ∧ e.weightedSeconds = 1 ∧
      e.weightedAcc = 2600 ∧ e.histogram[(6 : Fin 8)] = 1 ∧ e.gaps = 1 := by decide +kernel

theorem test_counters_read_clears :
    let s := { State.reset with em := { State.reset.em with histogram := Vector.replicate 8 3, gaps := 2 } }
    (after (.countersRead 7 [1]) (inboxed 0x2A [1] .operator s)).em.histogram = Vector.replicate 8 0 ∧
      (after (.countersRead 7 [0]) (inboxed 0x2A [0] .operator s)).em.gaps = 2 := by decide +kernel

/-- The default economy settings with eco enable off (R137, R180). -/
def economyBody : List Byte := [1, 0x07, 0x08, 0x05, 0xDC, 0x03, 0x84, 0, 5, 3, 0x02, 0x58, 95]

theorem test_economy_set :
    (after (.economySet 7 economyBody) (inboxed 0x29 economyBody .supervisor .reset)).em.settings =
      { EconomySettings.default with ecoEnable := false } := by decide +kernel

/-- WORK with the idle timer run from 100 000 ms and SEAT ACTIVE (spec 08 section 8.9). -/
def idling (t : Stamp) : State :=
  { atTime t .reset with
    mlu := { State.reset.mlu with inputs := { freshInputs with seat := { level := true } } }
    em := { State.reset.em with mode := .work, idleTimer := some 100000, copy := some { report := report, stamp := 100000 } } }

theorem test_idle_timer_expiry :
    (after .idleTimerExpiry (idling 105000)).em.mode = .autoIdle ∧ (after .idleTimerExpiry (idling 104999)).em.mode = .work := by
  decide +kernel

/-- AUTO_IDLE with the shutdown delay of 600 s run out and the shutdown permitted (R142). -/
def shuttingDown (store : RsState) : State :=
  { atTime 700000 .reset with
    rs := { State.reset.rs with state := store }
    em := { State.reset.em with mode := .autoIdle, shutdownTimer := .running 100000, copy := some { report := report, stamp := 699900 } } }

/-- AUTO_IDLE with the deferred mark set and no copy yet. -/
def deferredIdle (store : RsState) : State :=
  { shuttingDown store with em := { (shuttingDown store).em with copy := none, deferred := true } }

/-- R142: the permission is tested at the expiry, and again at a report while the deferred mark is set; a coolant of 96 °C, above
the limit of 95, refuses it. -/
theorem test_shutdown_timer_expiry :
    let told (body : List Byte) := (after (.engineReport 7 body) (inboxed 0x28 body .operator (deferredIdle .clean))).em
    (after .shutdownTimerExpiry (shuttingDown .clean)).em.mode = .shutdownAdvised ∧
      (after .shutdownTimerExpiry (shuttingDown .dirty)).em.mode = .shutdownPending ∧
      (told reportBody).mode = .shutdownAdvised ∧
      ((told (reportBody.take 8 ++ [96])).mode, (told (reportBody.take 8 ++ [96])).deferred) = (.autoIdle, true) := by
  decide +kernel

/-- SERVICE ITEM SET, WRITE of entry 2: PASSES, interval 100, warn 90, grace 20, DERATE, cap 60 (R155, R180). -/
def itemBody : List Byte := [0, 2, 0x00, 0x09, 4, 0x00, 0x64, 90, 0x00, 0x14, 1, 60]

/-- The definition it writes. -/
def itemDef : ServiceDef := { code := 9, basis := .passes, interval := 100, warn := 90, grace := 20, severity := .derate, cap := 60 }

/-- An entry of that definition with a count and its two marks. -/
def entry (consumed : Nat) (attention suspended : Bool) (state : ItemState) : ServiceEntry :=
  { item := { definition := itemDef, consumed := consumed, attention := attention, suspended := suspended }, state := state }

theorem test_service_item_set :
    (after (.serviceItemSet 7 itemBody) (inboxed 0x30 itemBody .service .reset)).st.entries[(2 : Fin 24)] =
      some (entry 0 false false .ok) := by decide +kernel

theorem test_service_read :
    statusOf (after (.serviceRead 7 [18, 6]) (inboxed 0x31 [18, 6] .operator .reset)) = some 0 ∧
      statusOf (after (.serviceRead 7 [19, 6]) (inboxed 0x31 [19, 6] .operator .reset)) =
        some (BitVec.ofNat 8 (statusCode .badField)) := by decide +kernel

/-- The reset state with an OVERDUE DERATE item at entry 23 and its cap reported. -/
def overdueState : State :=
  let s := withItem 23 (entry 120 true false .overdue) .reset
  { s with
    st := { s.st with reportedCap := 60 }
    em := { s.em with cap := 60, lastAdvice := { mode := .stopped, rpm := 0, cap := 60, reasons := .ofCap 60 } } }

theorem test_service_ack :
    (after (.serviceAck 7 [2, 23, 23]) (inboxed 0x32 [2, 23, 23] .operator overdueState)).st.entries[(23 : Fin 24)] =
      some (entry 120 false false .overdue) := by decide +kernel

theorem test_service_done_lifts_cap :
    let t := after (.serviceDone 7 [23]) (inboxed 0x33 [23] .service overdueState)
    t.st.entries[(23 : Fin 24)] = some (entry 0 false false .ok) ∧ t.em.cap = 100 := by decide +kernel

theorem test_service_suspend :
    let t := after (.serviceSuspend 7 [23, 1]) (inboxed 0x34 [23, 1] .service overdueState)
    t.st.entries[(23 : Fin 24)] = some (entry 120 true true .suspended) ∧ t.st.reportedCap = 100 := by decide +kernel

/-- The record of the commit of spec 10 section 10.6 at an attempt. -/
def commitOf (attempt : Nat) : CommitRecord := { snapshot := .default, requester := .host, attempt := attempt }

/-- The reset state with that commit in flight. -/
def committing (attempt : Nat) (changed : Bool) : State :=
  { State.reset with rs := { State.reset.rs with state := .committing (commitOf attempt), changed := changed } }

theorem test_commit :
    (after (.commit 7 []) (inboxed 0x03 [] .operator .reset)).rs.state = .committing (commitOf 1) ∧
      statusOf (after (.commit 7 []) (inboxed 0x03 [] .operator (committing 2 false))) =
        some (BitVec.ofNat 8 (statusCode .busy)) := by decide +kernel

theorem test_commit_attempt_end :
    (after (.commitAttemptEnd true (snapshotImage badContent)) (committing 1 true)).rs.state = .committing (commitOf 2) ∧
      (after (.commitAttemptEnd true (snapshotImage .default)) (committing 2 true)).rs.state = .dirty ∧
      (after (.commitAttemptEnd false (snapshotImage .default)) (committing 3 true)).rs.state = .failed := by decide +kernel

theorem test_restart :
    (after (.restart 7 []) (inboxed 0x02 [] .operator .reset)).rs.restartPending = true ∧
      statusOf (after (.restart 7 []) (inboxed 0x02 [] .operator (committing 2 false))) =
        some (BitVec.ofNat 8 (statusCode .accepted)) := by decide +kernel

/-- Spec 10 section 10.6: the awaited commit has ended DONE in two attempts and the store is DIRTY. -/
def restartWaits : State :=
  { loading with
    rs := { State.reset.rs with restartPending := true, awaited := some { done := true, attempts := 2 } }
    lc := { State.reset.lc with tx := .free, replySlot := none, time := 50470 } }

theorem test_restart_takes_effect :
    let t := after .restartTakesEffect restartWaits
    t.lc.tx = .sending (.notice (.started .restart .dirty (some { done := true, attempts := 2 }))) ∧ t.lc.time = 0 ∧
      t.lr.openLoad = none ∧ t.lr.classes = loading.lr.classes := by decide +kernel

/-- A part without supply that holds an image with a geometry of its own. -/
def unpowered : State :=
  after (.powerLoss (snapshotImage .default)) { State.reset with
    rs := { State.reset.rs with image := snapshotImage { Retained.default with geometry := { Geometry.default with fx := -100 } } } }

theorem test_power_on :
    let t := after (.powerOn true) unpowered
    t.ps.geometry.fx = -100 ∧ t.rs.state = .clean ∧ t.lc.rate = .r460800 ∧ t.mlu.cutLines = .all := by decide +kernel

theorem test_power_loss :
    unpowered.powered = false ∧
      (after (.powerLoss (snapshotImage badContent)) (committing 1 false)).rs.image = snapshotImage badContent := by decide +kernel

/-- The host link collecting a GET STATUS of tag 9, its last character to come (R168). -/
def hostFrame : State :=
  { State.reset with lc := { State.reset.lc with assembler := .collecting [0xC5, 2, 1, 9, ((crc16 [2, 1, 9]) >>> 8).setWidth 8] } }

theorem test_host_frame_arrival :
    (after (.hostFrameArrival ((crc16 [2, 1, 9]).setWidth 8)) hostFrame).lc.inbox = [{ kind := 1, tag := 9, body := [] }] := by decide +kernel

theorem test_host_framing_error :
    (after .hostFramingError hostFrame).lc.assembler = .hunting ∧ (after .hostFramingError hostFrame).lc.stats.framing = 1 := by decide +kernel

/-- The host link after a start byte at 1000 ms. -/
def started (now : Stamp) (bytes : List Byte) : State :=
  { State.reset with lc := { State.reset.lc with assembler := .collecting bytes, lastChar := 1000, time := now } }

theorem test_host_length_error :
    (after (.hostLengthError 243) (started 1001 [0xC5])).lc.stats.length = 1 ∧
      (after (.hostLengthError 243) (started 1001 [0xC5])).lc.assembler = .hunting := by decide +kernel

theorem test_host_gap_timeout :
    (after (.hostGapTimeout 0xC5) (started 1021 [0xC5, 5])).lc.assembler = .collecting [0xC5] ∧
      (after (.hostGapTimeout 0xC5) (started 1020 [0xC5, 5])).lc.assembler = .collecting [0xC5, 5] := by decide +kernel

theorem test_host_character :
    (after (.hostCharacter 242) (started 1020 [0xC5])).lc.assembler = .collecting [0xC5, 242] ∧
      (after (.hostCharacter 0xC5) .reset).lc.assembler = .collecting [0xC5] := by decide +kernel

theorem test_unknown_kind :
    (after (.unknownKind 0x41 7 [1]) (inboxed 0x41 [1] .operator .reset)).lc.tx =
      .sending (.reply { kind := 0xC1, tag := 7, body := [BitVec.ofNat 8 (statusCode .unknownKind)] }) := by decide +kernel

theorem test_get_status_clears_counts :
    let s := inboxed 0x01 [] .operator { State.reset with lc := { State.reset.lc with stats := { check := 3 }, noticeLoss := 2 } }
    (after (.getStatus 7 []) s).lc.stats = {} ∧ (after (.getStatus 7 []) s).lc.noticeLoss = 0 ∧
      statusOf (after (.getStatus 7 []) s) = some 0 := by decide +kernel

theorem test_transmit_end_takes_reply_first :
    let n := Notice.authority .operator .supervisor 5
    let s := { State.reset with lc := { State.reset.lc with replySlot := some { kind := 0x81, tag := 1, body := [0] }, notices := [n] } }
    (after .transmitEnd s).lc.tx = .sending (.reply { kind := 0x81, tag := 1, body := [0] }) ∧
      (after .transmitEnd (after .transmitEnd s)).lc.tx = .sending (.notice n) ∧
      (after .transmitEnd .reset).lc.tx = .free := by decide +kernel

/-- A commit in flight and a RESTART pending (R167). -/
def restartPends : State := { committing 2 false with rs := { (committing 2 false).rs with restartPending := true } }

/-- R167: with a RESTART pending, a notice queued before it is still sent and one queued after its reply is not. -/
theorem test_notices_after_the_restart_are_held :
    let n := Notice.authority .operator .supervisor 5
    let s (early : List Bool) := { restartPends with lc := { restartPends.lc with notices := [n], early := early } }
    (after .transmitEnd (s [true])).lc.tx = .sending (.notice n) ∧ (after .transmitEnd (s [])).lc.tx = .free ∧
      (after .transmitEnd (s [])).lc.notices = [n] := by decide +kernel

/-- R167, R174: an ENGINE ADVICE queued after the reply takes the place of one that waited and is not sent, and the notice
behind it, which waited too, is (assumption log 10). -/
theorem test_a_replacing_notice_is_held :
    let n := Notice.authority .operator .supervisor 5
    let old := Notice.engineAdvice State.reset.em.lastAdvice 1
    let new := Notice.engineAdvice State.reset.em.lastAdvice 2
    let s := { restartPends with lc := { restartPends.lc with notices := [old, n], early := [true, true] } }
    let t := queueNotice new s
    t.lc.notices = [new, n] ∧ t.lc.early = [false, true] ∧ (after .transmitEnd t).lc.tx = .sending (.notice n) ∧
      (after .transmitEnd (after .transmitEnd t)).lc.tx = .free := by decide +kernel

/-- A step on an empty queue moves part time, and a queued command runs first (R178, assumption logs 1 and 2). -/
theorem test_step :
    step .reset = .next (atTime 1 .reset) ∧
      step { State.reset with pending := [.hostCharacter 0xC5, .transmitEnd] } =
        .next { after (.hostCharacter 0xC5) .reset with pending := [.transmitEnd] } := ⟨rfl, rfl⟩

/-- No row of the table gives bits, so no word spells a command. -/
theorem test_no_word_spells_a_command : decodeTableWord 8 0xA6 = none ∧ State.reset.withFetchWord 8 0xA6 = .reset := ⟨rfl, rfl⟩

/-! ## Witnesses: states and operands that meet the hypotheses of the statements -/

/-- A frame put in the inbox of a supplied, idle part is a command allowed at its level. -/
theorem allowed (kind : Byte) (body : List Byte) (level : Authority) (s : State)
    (h : s.powered = true ∧ s.lc.interpreter = .idle ∧ s.lc.replySlot = none ∧ s.rs.restartPending = false) :
    CommandAllowed kind 7 body level (inboxed kind body level s) :=
  ⟨⟨h.1, h.2.1, h.2.2.1, fun hr => by simp [inboxed, h.2.2.2] at hr, rfl⟩, h.2.2.2, le_refl _⟩

/-- The same for a command that need only be ready. -/
theorem ready (kind : Byte) (body : List Byte) (level : Authority) (s : State)
    (h : s.powered = true ∧ s.lc.interpreter = .idle ∧ s.lc.replySlot = none ∧
      (s.rs.restartPending = true → s.rs.state.isCommitting = true)) :
    CommandReady kind 7 body (inboxed kind body level s) := ⟨h.1, h.2.1, h.2.2.1, h.2.2.2, rfl⟩

theorem witness_StepRunsFrontCommand :
    { State.reset with pending := [.alarmCadence, .transmitEnd] }.pending = .alarmCadence :: [.transmitEnd] := rfl

theorem witness_EmptyQueueTicksPartTime :
    (State.reset.pending = [] ∧ State.reset.powered = true) ∧ unpowered.pending = [] ∧ unpowered.powered = false := by
  decide +kernel

/-- A command answers a next state in which something differs. -/
def changes {α : Type} [DecidableEq α] (f : State → α) (c : Instr) (s : State) : Prop :=
  exec c s = .next (after c s) ∧ f (after c s) ≠ f s

theorem witness_EachSettingHasOneWriter :
    changes (fun s => s.mlu.authority) (.inputLevelChange keyOnly) (lastRead keyOnly .reset) ∧
    changes (fun s => s.scu[(1 : Fin 6)].settings) (.channelSet 7 stickSet) (inboxed 0x08 stickSet .service .reset) ∧
    changes (fun s => s.ps.geometry) (.geometrySet 7 geometryBody) (inboxed 0x10 geometryBody .service .reset) ∧
    changes (fun s => s.ps.grade) (.gradeSet 7 gradeBody) (inboxed 0x12 gradeBody .operator .reset) ∧
    changes (fun s => zoneRecordsOf s.zt) (.zoneWrite 7 (poleBody 15)) (inboxed 0x18 (poleBody 15) .supervisor .reset) ∧
    changes (fun s => zoneRecordsOf s.zt) (.zoneClear 7 [6]) (inboxed 0x19 [6] .supervisor (poled .armed)) ∧
    changes (fun s => zoneRecordsOf s.zt) (.reanchor 7 [0, 1])
      (inboxed 0x1D [0, 1] .supervisor (poled (.unanchored .dormant))) ∧
    changes (fun s => s.sl.settings) (.slewSettings 7 slewBody) (inboxed 0x1E slewBody .service .reset) ∧
    changes (fun s => s.ct.settings) (.cycleSettings 7 cycleBody) (inboxed 0x20 cycleBody .service .reset) ∧
    changes (fun s => s.ct.gain) .calibrationStepEnd (gainStep 31000 1561000) ∧
    changes (fun s => s.lr.classes) (.truckClassSet 7 classBody) (inboxed 0x24 classBody .supervisor .reset) ∧
    changes (fun s => s.em.settings) (.economySet 7 economyBody) (inboxed 0x29 economyBody .supervisor .reset) ∧
    changes (fun s => s.st.entries[(2 : Fin 24)].map fun e => e.item.definition) (.serviceItemSet 7 itemBody)
      (inboxed 0x30 itemBody .service .reset) :=
  ⟨⟨rfl, by decide +kernel⟩, ⟨rfl, by decide +kernel⟩, ⟨rfl, by decide +kernel⟩, ⟨rfl, by decide +kernel⟩, ⟨rfl, by decide +kernel⟩,
    ⟨rfl, by decide +kernel⟩, ⟨rfl, by decide +kernel⟩, ⟨rfl, by decide +kernel⟩, ⟨rfl, by decide +kernel⟩,
    ⟨rfl, by decide +kernel⟩, ⟨rfl, by decide +kernel⟩, ⟨rfl, by decide +kernel⟩, ⟨rfl, by decide +kernel⟩⟩

theorem witness_CommonChecksComeFirst :
    (hostFrameOf (.channelStatus 7 [0]) = some ⟨0x09, 7, [0]⟩ ∧ CommandReady 0x09 7 [0] (inboxed 0x09 [0] .operator .reset) ∧
      lengthOfKind 0x09 [0] = false) ∧
    (hostFrameOf (.zoneRead 7 [0, 0]) = some ⟨0x1A, 7, [0, 0]⟩ ∧
      CommandReady 0x1A 7 [0, 0] (inboxed 0x1A [0, 0] .operator restartPends) ∧ lengthOfKind 0x1A [0, 0] = true ∧
      (inboxed 0x1A [0, 0] .operator restartPends).rs.restartPending = true) ∧
    (hostFrameOf (.reanchor 7 [0, 1]) = some ⟨0x1D, 7, [0, 1]⟩ ∧
      CommandReady 0x1D 7 [0, 1] (inboxed 0x1D [0, 1] .operator .reset) ∧ lengthOfKind 0x1D [0, 1] = true ∧
      (inboxed 0x1D [0, 1] .operator .reset).rs.restartPending = false ∧
      (inboxed 0x1D [0, 1] .operator .reset).mlu.authority.rank < (levelOfKind 0x1D).rank) ∧
    (hostFrameOf (.channelSet 7 [1, 1, 2, 15, 50, 50, 0]) = some ⟨0x08, 7, [1, 1, 2, 15, 50, 50, 0]⟩ ∧
      CommandReady 0x08 7 [1, 1, 2, 15, 50, 50, 0] (inboxed 0x08 [1, 1, 2, 15, 50, 50, 0] .service .reset) ∧
      lengthOfKind 0x08 [1, 1, 2, 15, 50, 50, 0] = true ∧ State.reset.rs.restartPending = false ∧
      (levelOfKind 0x08).rank = Authority.service.rank ∧ fieldsInRange 0x08 [1, 1, 2, 15, 50, 50, 0] = false) :=
  ⟨⟨rfl, ready _ _ _ _ (by decide +kernel), by decide +kernel⟩, ⟨rfl, ready _ _ _ _ (by decide +kernel), by decide +kernel⟩,
    ⟨rfl, ready _ _ _ _ (by decide +kernel), by decide +kernel⟩, ⟨rfl, ready _ _ _ _ (by decide +kernel), by decide +kernel⟩⟩

/-! ### The invariants, each at a state in which it is at work -/

/-- A state with one command waiting. -/
def queued (c : Instr) (s : State) : State := { s with pending := [c] }

theorem witness_StepKeepsChannelsConsistent :
    ChannelsConsistent (queued (.staleTimerExpiry 1) windowPassed) ∧
      ∃ t, step (queued (.staleTimerExpiry 1) windowPassed) = .next t :=
  ⟨by unfold ChannelsConsistent ChannelConsistent; decide +kernel, _, rfl⟩

/-- The supervisor key ACTIVE and the pole's zone SUSPENDED, at a reading at which the key goes. -/
def suspendedByKey : State :=
  let s := poled .suspended
  { lastRead (allInputs false) s with
    mlu := { s.mlu with authority := .supervisor, inputs := { (lastRead (allInputs false) s).mlu.inputs with
      supervisorKey := { level := true, last := some false } } } }

theorem witness_StepKeepsSuspensionsAuthorised :
    SuspensionsAuthorised (queued (.inputLevelChange (allInputs false)) suspendedByKey) ∧
      (after (.inputLevelChange (allInputs false)) suspendedByKey).zt.zones[(6 : Fin 16)].state? = some .armed ∧
      ∃ t, step (queued (.inputLevelChange (allInputs false)) suspendedByKey) = .next t :=
  ⟨by unfold SuspensionsAuthorised; decide +kernel, by decide +kernel, _, rfl⟩

theorem witness_StepKeepsAlarmFollowingSlots :
    let s := queued .alarmCadence { pulsing with mlu := { pulsing.mlu with slots := { ps := .pulse, zt := .chirp } } }
    AlarmFollowsSlots s ∧ ∃ t, step s = .next t := ⟨by unfold AlarmFollowsSlots; decide +kernel, _, rfl⟩

/-- The pole's zone UNANCHORED and counted. -/
def unanchored : State :=
  let s := poled (.unanchored .armed)
  { s with
    zt := { s.zt with unanchored := 1 }
    mlu := { s.mlu with slots := { zt := .chirp }, driven := .chirp, sounder := true } }

theorem witness_StepKeepsUnanchoredCount :
    let s := queued (.reanchor 7 [0, 1]) (inboxed 0x1D [0, 1] .supervisor unanchored)
    UnanchoredCounted s ∧ ∃ t, step s = .next t := ⟨by unfold UnanchoredCounted; decide +kernel, _, rfl⟩

/-- The row at 62 500 of spec 05 section 5.12: the pole calls for the left cut. -/
def cutting : State :=
  let s := withChannel 3 (fun c => { c with health := .live }) (poled .armed)
  let cut : CutSet := { left := true, right := false, boomUp := false }
  { s with
    sl := { liveSl with
      pose := some (turned 62500 2176), cutSet := cut, state := .limiting
      marks := (Vector.replicate 16 {}).set 6 { leftHeld := true }, causes := { left := { zones := [6] } } }
    mlu := { s.mlu with cutLines := cut, cutCopy := cut, slots := { s.mlu.slots with sl := .steady } } }

def applies_decidable (z : ZoneRecord) (p : Pose) : Decidable (ZoneApplies z p) := by
  unfold ZoneApplies; split <;> infer_instance

def cutFound_decidable (z : ZoneRecord) (p : Pose) (reach : Nat) (d : Side) : Decidable (CutFound z p reach d) := by
  unfold CutFound; dsimp only; cases d <;> split <;> infer_instance

def slewValid_decidable (sl : Sl) (p : Pose) : Decidable (SlewValid sl p) := by unfold SlewValid; infer_instance

def intruded_decidable (sl : Sl) (p : Pose) (z : ZoneRecord) : Decidable (Intruded sl p z) := by
  letI := applies_decidable; letI := slewValid_decidable; unfold Intruded; cases z.kind <;> infer_instance

theorem witness_StepKeepsCutsInForce :
    let s := queued (.zoneSuspend 7 [6]) (inboxed 0x1B [6] .supervisor cutting)
    CutsInForce s ∧ ∃ t, step s = .next t := by
  let : Fintype Side := ⟨{.left, .right}, by intro x; cases x <;> decide⟩
  let := applies_decidable
  let := cutFound_decidable
  let := slewValid_decidable
  let := intruded_decidable
  refine ⟨⟨rfl, ?_⟩, _, rfl⟩
  change SlewSettled _ (turned 62500 2176) ∧ ∀ k : Fin 16, _
  unfold SlewSettled SlewHeld BoomCutCalled CutCalled
  refine ⟨⟨?_, ?_, ?_, ?_, ?_, ?_, ?_, ?_, ?_, ?_, ?_, ?_, ?_⟩, ?_⟩ <;> decide

theorem witness_StepKeepsCalibrationOrder :
    let s := queued .calibrationStepEnd { gainStep 31000 0 with ct := { (gainStep 31000 0).ct with waiting := [weighed16 0] } }
    CalibrationOrdered s ∧ ∃ t, step s = .next t := ⟨by unfold CalibrationOrdered; decide +kernel, _, rfl⟩

theorem witness_StepKeepsLoadsWhole :
    let s := queued (.loadClose 7 []) (inboxed 0x26 [] .operator loading)
    LoadsWhole s ∧ ∃ t, step s = .next t := ⟨by unfold LoadsWhole LoadWhole; decide +kernel, _, rfl⟩

theorem witness_StepKeepsEconomyFollowingMode :
    let s := queued .idleTimerExpiry { idling 105000 with em := { (idling 105000).em with lastAdvice := Em.advice (idling 105000).em } }
    EconomyFollowsMode s ∧ ∃ t, step s = .next t := ⟨by unfold EconomyFollowsMode AdviceStands; decide +kernel, _, rfl⟩

theorem witness_StepKeepsServiceSettled :
    let s := queued (.serviceDone 7 [23]) (inboxed 0x33 [23] .service overdueState)
    ServiceSettled s ∧ ∃ t, step s = .next t := ⟨by unfold ServiceSettled IsLowestCap; decide +kernel, _, rfl⟩

/-- A CLEAN store whose image holds the default content. -/
def cleanStore : State := { State.reset with rs := { State.reset.rs with state := .clean, image := snapshotImage .default } }

theorem witness_StepKeepsImageMatching :
    let s := queued (.geometrySet 7 geometryBody) (inboxed 0x10 geometryBody .service cleanStore)
    ImageMatches s ∧ ImageMatches (queued (.transmitEnd) (committing 3 false)) ∧ ∃ t, step s = .next t :=
  ⟨by change snapshotImage .default = snapshotImage (retainedOf _); decide +kernel,
    ⟨fun _ => by decide +kernel, by decide +kernel⟩, _, rfl⟩

theorem witness_StepKeepsLinkBounded :
    let n := Notice.authority .operator .supervisor 5
    let s := queued .transmitEnd { State.reset with lc := { State.reset.lc with
      notices := List.replicate 32 n, inbox := List.replicate 4 default, noticeLoss := 65535 } }
    LinkBounded s ∧ ∃ t, step s = .next t := ⟨by unfold LinkBounded noticesOfKind; decide +kernel, _, rfl⟩

/-! ### Sensor channels and machine lines -/

theorem witness_FrameChecksCountRejects :
    let good (f : List Byte) : Byte := crc8 (f.drop 1)
    let s (f : List Byte) (run : Nat) := atTime 1014 (withChannel 1 (fun c => { c with rejectRun := run })
      (stick f .live 0 { seq := 7, stamp := 1012 } .reset))
    let meets (f : List Byte) (run : Nat) : Prop := (s f run).powered = true ∧ (s f run).scu[(1 : Fin 6)].settings.enable = true ∧
      (s f run).scu[(1 : Fin 6)].assembler = .collecting f ∧ f.length = 8 ∧ (s f run).scu[(1 : Fin 6)].rejectRun = run ∧
      (s f run).scu[(1 : Fin 6)].health = .live
    (meets (stickFrame 0x80 0x12) 0 ∧ good (stickFrame 0x80 0x12) ≠ 0) ∧
      (meets [0xA6, 0x13, 0x12, 0x80, 0, 0, 0, 0] 6 ∧ [0xA6, 0x13, 0x12, 0x80, 0, 0, 0, (0 : Byte)].getD 1 0 ≠ 0x12) ∧
      meets [0xA6, 0x13, 0x12, 0x80, 0, 0, 0, 0] 7 ∧
      (meets (stickFrame 0x80 0x13) 6 ∧ (0x13 : Byte) &&& 0x0F ≠ 0x02 &&& 0x0F ∧ 6 < 8) ∧
      (let wrong := withChannel 1 (fun c => { c with health := .failed .miswired }) (s (stickFrame 0x80 0x13) 8)
       wrong.scu[(1 : Fin 6)].health = .failed .miswired ∧ wrong.scu[(1 : Fin 6)].rejectRun = 8 ∧
         wrong.scu[(1 : Fin 6)].assembler = .collecting (stickFrame 0x80 0x13)) ∧
      (meets (stickFrame 0x80 0x12) 0 ∧ (0x12 : Byte) &&& 0x0F = 0x02 &&& 0x0F ∧
        (((1014 : Stamp) - 1012).toNat < (s (stickFrame 0x80 0x12) 0).scu[(1 : Fin 6)].settings.spacing)) := by decide +kernel

/-- The stick channel in a health, with a good frame collected, at the least spacing after the one before. -/
def offered (seqStatus : Byte) (h : Health) (acq fault : Nat) (s : State) : State :=
  atTime 1057 (withChannel 1 (fun c => { c with faultRun := fault })
    (stick (stickFrame seqStatus 0x12) h acq { seq := 7, stamp := 1052 } s))

/-- A part with no computation in flight. -/
def settledPose : State := { State.reset with ps := { State.reset.ps with inFlight := none } }

/-- The hypotheses, with a computation in flight and with none, for a sample in LIVE, the third sample of an acquisition, a STALE
channel, the third FAULT sample, and the good sample that ends FAILED(SILENT). -/
theorem witness_AcceptedFrameQueuesSample :
    let meets (b : Byte) (s : State) : Prop :=
      s.powered = true ∧ s.scu[(1 : Fin 6)].settings.enable = true ∧ s.scu[(1 : Fin 6)].health ≠ .off ∧
        s.scu[(1 : Fin 6)].assembler = .collecting (stickFrame b 0x12) ∧ (stickFrame b 0x12).length = 8 ∧
        (stickFrame b 0x12).getD 1 0 = 0x12 ∧
        (stickFrame b 0x12).getD 2 0 &&& s.scu[(1 : Fin 6)].settings.mask =
          s.scu[(1 : Fin 6)].settings.unit &&& s.scu[(1 : Fin 6)].settings.mask ∧
        (∀ l ∈ s.scu[(1 : Fin 6)].lastFrame, s.scu[(1 : Fin 6)].settings.spacing ≤ (s.lc.time - l.stamp).toNat) ∧
        s.scu[(1 : Fin 6)].faultRun ≤ 3
    (meets 0x81 (offered 0x81 .live 0 0 .reset) ∧ (offered 0x81 .live 0 0 .reset).ps.inFlight.isSome = true) ∧
      (meets 0x80 (offered 0x80 .acquiring 2 0 settledPose) ∧ (offered 0x80 .acquiring 2 0 settledPose).ps.inFlight = none) ∧
      meets 0x81 (offered 0x81 .live 0 0 settledPose) ∧ meets 0x80 (offered 0x80 .stale 0 0 .reset) ∧
      meets 0x82 (offered 0x82 .live 0 2 .reset) ∧
      meets 0x80 (offered 0x80 (.failed .silent) 0 1 .reset) := by decide +kernel

/-- R9, R11, R40 to R42: a sample of the stick channel with no computation in flight begins one that takes its values, in place of
an older one that waited, with the healths of the channels as they stand. -/
theorem test_sample_begins_a_computation :
    let older : Sample := { a := 7, b := 7, stamp := 1052, flags := { degraded := false, fault := false, gap := false, clamped := false } }
    let t := after (.sensorFrameArrival 1 (crc8 ((stickFrame 0x81 0x12).drop 1)))
      (withChannel 1 (fun c => { c with fifo := [older] }) (offered 0x81 .live 0 0 settledPose))
    let c := t.scu[(1 : Fin 6)]
    (t.ps.held[1], t.ps.held[0], t.ps.pendingStart) = ({ a := 0x1000, b := 5 }, { a := 0, b := 0 }, false) ∧
      (c.fifo, c.stats.superseded, c.accumulated.degraded) = ([], 1, true) ∧
      (t.ps.inFlight.map fun r => (r.health[0], r.health[1], r.usedDegraded)) = some (.acquiring, .live, true) := by
  decide +kernel

/-- R42: a STALE CHASSIS channel leaves the held values, and a FAILED one gives 0 and 0. -/
theorem test_chassis_values_unused :
    let x : Sample := { a := 9, b := 9, stamp := 0, flags := { degraded := true, fault := false, gap := false, clamped := false } }
    let t (h : Health) := startComputation (withChannel 4 (fun c => { c with fifo := [x], health := h })
      { settledPose with ps := { settledPose.ps with held := settledPose.ps.held.set 4 { a := 5, b := 6 } } })
    ((t .live).ps.held[4] = { a := 9, b := 9 } ∧ (t .stale).ps.held[4] = { a := 5, b := 6 } ∧
      (t (.failed .silent)).ps.held[4] = { a := 0, b := 0 }) ∧
      [Health.live, .stale].map (fun h => (t h).ps.inFlight.map Computation.usedDegraded) = [some true, some false] := by
  decide +kernel

theorem witness_ReadsReturnAndThenClear :
    CommandAllowed 0x09 7 [5, 1] .operator (inboxed 0x09 [5, 1] .operator .reset) ∧
      CommandAllowed 0x1A 7 [15, 1] .operator (inboxed 0x1A [15, 1] .operator .reset) ∧
      CommandAllowed 0x2A 7 [1] .operator (inboxed 0x2A [1] .operator .reset) :=
  ⟨allowed _ _ _ _ (by decide +kernel), allowed _ _ _ _ (by decide +kernel), allowed _ _ _ _ (by decide +kernel)⟩

/-- A channel of a type LIVE since 1052 ms, with eight bytes of a good frame collected at 1057 ms. -/
def eightBytes (ch : Fin 6) (f : List Byte) (s : State) : State :=
  atTime 1057 (withChannel ch (fun c => { c with
    assembler := .collecting f, health := .live, lastFrame := some { seq := 7, stamp := 1052 }, staleTimer := some 1052 }) s)

theorem witness_SlewSampleAddsTravel :
    let f : List Byte := [0xA6, 0x21, 0, 0x80, 0x04, 0x4C, 0, 0]
    let s := eightBytes 3 f { State.reset with sl := { State.reset.sl with prevAngle := some 400, travel := 65136 } }
    let c := s.scu[(3 : Fin 6)]
    (s.powered = true ∧ c.settings.enable = true ∧ c.assembler = .collecting f ∧ f.length = 8 ∧ f.getD 1 0 = 0x21 ∧
      f.getD 2 0 &&& c.settings.mask = c.settings.unit &&& c.settings.mask ∧
      (∀ l ∈ c.lastFrame, c.settings.spacing ≤ (s.lc.time - l.stamp).toNat) ∧ c.health = .live ∧ u8 f 3 % 4 < 2) ∧
      (withChannel 3 (fun c => { c with health := .failed .miswired }) s).scu[(3 : Fin 6)].health = .failed .miswired ∧
      s.ps.inFlight.isSome = true ∧ (eightBytes 3 f settledPose).ps.inFlight = none ∧
      s.sl.prevAngle = some 400 ∧ 65536 ≤ s.sl.travel + ((1100 : Angle) - 400).toInt.natAbs ∧ State.reset.sl.prevAngle = none ∧
      (∀ n : Fin 4, (withChannel 3 (fun c => { c with faultRun := n.val }) s).scu[(3 : Fin 6)].faultRun = n.val) ∧
      c.faultRun ≤ 3 ∧ (∀ h ∈ [Health.live, .failed .miswired], h ≠ .off) ∧
      (∀ h ∈ [Health.acquiring, .live, .stale, .failed .silent, .failed .sensorFault, .failed .lineBreak],
        (withChannel 3 (fun c => { c with health := h }) s).scu[(3 : Fin 6)].health = h) ∧
      u8 [0xA6, 0x21, 0, 0x82, 0, 0, 0, 0] 3 % 4 = 2 ∧ s.lc.notices.length ≤ 6 ∧
      (let turns : ServiceEntry := { entry 0 false false .ok with
        item := { (entry 0 false false .ok).item with definition := { itemDef with basis := .slewTurns, interval := 1 } } }
       (withItem 3 turns s).st.entries[(3 : Fin 24)] = some turns ∧ turns.state.code < (incremented 65536000 turns).state.code) := by
  decide +kernel

/-- The premise on the cap that O20 and O48 share holds at reset, and so does that of O48 on the service items. -/
theorem witness_IsLowestCap :
    IsLowestCap State.reset.st.entries State.reset.st.reportedCap ∧ ServiceSettled (inboxed 0x28 [] .operator .reset) := by
  unfold ServiceSettled IsLowestCap; decide +kernel

/-- R13, R16, R17: the health a sample gives. The third good one in ACQUIRING makes LIVE; the third FAULT one in a row fails the
channel from LIVE, FAILED(SILENT) and FAILED(BREAK), not from FAILED(MISWIRED); and further FAULT ones leave
FAILED(SENSOR_FAULT). -/
theorem test_health_after_sample :
    let c (h : Health) (acq run : Nat) : Channel :=
      { State.reset.scu[(3 : Fin 6)] with health := h, acqCount := acq, faultRun := run, lastFrame := some { seq := 0, stamp := 5 } }
    let faultAt (h : Health) (run : Nat) := healthAfterSample (c h 0 run) true 9
    (healthAfterSample (c .acquiring 2 0) false 9 = .live ∧ healthAfterSample (c .acquiring 1 0) false 9 = .acquiring) ∧
      [Health.live, .failed .silent, .failed .lineBreak].map (fun h => faultAt h 2) = List.replicate 3 (.failed .sensorFault) ∧
      faultAt (.failed .miswired) 2 = .failed .miswired ∧ faultAt .live 1 = .live ∧
      faultAt (.failed .sensorFault) 3 = .failed .sensorFault ∧
      healthAfterSample (c (.failed .sensorFault) 0 3) false 9 = .acquiring := by decide +kernel

/-- R16, R92: a good slew sample in FAILED(MISWIRED) and a FAULT sample in LIVE count no travel and move no angle. -/
theorem test_slew_sample_not_counted :
    let f (status : Byte) : List Byte := [0xA6, 0x21, 0, status, 0x04, 0x4C, 0, 0]
    let t (status : Byte) (h : Health) := after (.sensorFrameArrival 3 (crc8 ((f status).drop 1)))
      (withChannel 3 (fun c => { c with health := h })
        (eightBytes 3 (f status) { State.reset with sl := { State.reset.sl with prevAngle := some 400 } }))
    ((t 0x80 (.failed .miswired)).sl.travel, (t 0x80 (.failed .miswired)).sl.prevAngle) = (0, some 400) ∧
      ((t 0x82 .live).sl.travel, (t 0x82 .live).sl.prevAngle) = (0, some 400) ∧
      (t 0x82 .live).scu[(3 : Fin 6)].faultRun = 1 := by decide +kernel

/-- A pressure frame of 2450 and 310 (spec 06, "weighing one pass"). -/
def pressureFrame : List Byte := [0xA6, 0x41, 0, 0x80, 0x09, 0x92, 0x01, 0x36]

/-- Its channel LIVE, with an OPEN window of a count. -/
def weighing (count : Nat) : State :=
  eightBytes 5 pressureFrame { State.reset with
    ct := { State.reset.ct with window := some { weighed16 3641000 with count := count, sum := count * 3641000 } } }

theorem witness_PressureSampleFeedsWindow :
    let c := (weighing 15).scu[(5 : Fin 6)]
    ((weighing 15).powered = true ∧ c.settings.enable = true ∧ c.assembler = .collecting pressureFrame ∧
      pressureFrame.length = 8 ∧ pressureFrame.getD 1 0 = 0x41 ∧
      pressureFrame.getD 2 0 &&& c.settings.mask = c.settings.unit &&& c.settings.mask ∧
      (∀ l ∈ c.lastFrame, c.settings.spacing ≤ ((weighing 15).lc.time - l.stamp).toNat) ∧ c.health = .live ∧
      u8 pressureFrame 3 % 4 < 2 ∧ (weighing 15).ct.step = none ∧ c.fifo = []) ∧
      ((weighing 15).ct.window.map fun w => (w.count + 1 == w.length, w.result.isNone)) = some (true, true) ∧
      ((weighing 14).ct.window.map fun w => (w.count + 1 == w.length, w.result.isNone)) = some (false, true) ∧
      (eightBytes 5 pressureFrame .reset).ct.window = none ∧
      (let busy := { weighing 15 with ct := { (weighing 15).ct with step := (weighing 15).ct.window } }
       busy.ct.step.isSome = true ∧ busy.scu[(5 : Fin 6)].health = .live ∧ busy.scu[(5 : Fin 6)].fifo.length < 4) ∧
      (let third := withChannel 5 (fun c => { c with health := .stale, faultRun := 2 }) (weighing 15)
       third.scu[(5 : Fin 6)].health = .stale ∧ third.scu[(5 : Fin 6)].faultRun = 2 ∧ third.ct.run = none) ∧
      (let calibrating := withChannel 5 (fun c => { c with faultRun := 2 })
        { weighing 15 with ct := { (weighing 15).ct with health := .live, run := some { kind := .gain 31000, soft := 2 } } }
       let c := calibrating.scu[(5 : Fin 6)]
       healthAfterSample c true calibrating.lc.time = .failed .sensorFault ∧ c.health = .live ∧ calibrating.ct.health = .live ∧
         calibrating.ct.run.isSome = true ∧ calibrating.ct.step = none ∧ c.fifo = [] ∧ calibrating.lc.notices.length ≤ 30) ∧
      (c.faultRun ≤ 3 ∧ c.health ≠ .off) ∧
      ((eightBytes 5 pressureFrame .reset).ct.health = .acquiring ∧
        (withChannel 5 (fun c => { c with health := .acquiring }) (eightBytes 5 pressureFrame .reset)).scu[(5 : Fin 6)].health =
          .acquiring) ∧ u8 [0xA6, 0x41, 0, 0x82, 0, 0, 0, 0] 3 % 4 = 2 := by decide +kernel

/-- R6, R7, R14, R103, R111: while the step is BUSY a pressure sample waits in the FIFO, and the window does not count it; 7000 and
−1 bar are brought into 0..6000 and CLAMPED, the number after the next is a GAP of one, and the stale timer runs from the sample. -/
theorem test_pressure_sample_waits_while_busy :
    let f : List Byte := [0xA6, 0x41, 0, 0x90, 0x1B, 0x58, 0xFF, 0xFF]
    let s := withChannel 5 (fun c => { c with assembler := .collecting f })
      { weighing 14 with ct := { (weighing 14).ct with step := (weighing 15).ct.window } }
    let t := after (.sensorFrameArrival 5 (crc8 (f.drop 1))) s
    let c := t.scu[(5 : Fin 6)]
    t.ct = s.ct ∧ c.fifo.map (fun x => (x.a, x.b, x.flags)) =
        [(6000, 0, { degraded := false, fault := false, gap := true, clamped := true })] ∧
      (c.stats.accepted, c.stats.missed, c.staleTimer, c.accumulated.clamped) = (1, 1, some 1057, true) := by decide +kernel

/-- The sixteenth sample closes the window GOOD. -/
theorem test_sensor_frame_closes_window :
    let t := after (.sensorFrameArrival 5 (crc8 (pressureFrame.drop 1))) (weighing 15)
    t.ct.force = some 3641000 ∧ ((t.ct.window.bind Window.result).map Weighed.quality) = some .good := by decide +kernel

theorem witness_LineEventsStayInContext :
    let s := State.reset
    let c := withChannel 0 (fun c => { c with assembler := .collecting [0xA6, 1, 2, 3, 4, 5, 6], brk := { lowRun := 3, mark := false } }) s
    (s.powered = true ∧ s.scu[(0 : Fin 6)].settings.enable = true ∧ s.scu[(0 : Fin 6)].assembler = .hunting) ∧
      c.scu[(0 : Fin 6)].assembler = .collecting [0xA6, 1, 2, 3, 4, 5, 6] ∧
      ¬(c.scu[(0 : Fin 6)].brk.mark = true ∧ c.scu[(0 : Fin 6)].brk.lowRun = 0) ∧
      ¬(c.scu[(0 : Fin 6)].brk.mark = false ∧ c.scu[(0 : Fin 6)].brk.lowRun = 4) := by decide +kernel

theorem witness_BreakFailsAndItsEndAcquires :
    (nearBreak.powered = true ∧ nearBreak.scu[(4 : Fin 6)].settings.enable = true ∧
      nearBreak.scu[(4 : Fin 6)].brk = { lowRun := 4, mark := false } ∧ nearBreak.scu[(4 : Fin 6)].health = .acquiring) ∧
    (endingBreak.scu[(4 : Fin 6)].brk = { lowRun := 0, mark := true } ∧
      endingBreak.scu[(4 : Fin 6)].health = .failed .lineBreak) ∧
    (let s := withChannel 4 (fun c => { c with health := .failed .miswired }) nearBreak
     s.scu[(4 : Fin 6)].brk = { lowRun := 4, mark := false } ∧ s.scu[(4 : Fin 6)].health = .failed .miswired) ∧
    (nearBreak.lc.notices.length ≤ 14 ∧ nearBreak.ps.inFlight.isSome = true) ∧
    let s := withChannel 4 (fun c => { c with health := .failed .miswired }) endingBreak
    s.scu[(4 : Fin 6)].brk = { lowRun := 0, mark := true } ∧ s.scu[(4 : Fin 6)].health ≠ .failed .lineBreak := by decide +kernel

/-- R15, R96, R115: a break on the pressure channel of a run, as `HealthDelivered` says it: LIVE is lost with the run active, and
with none the latest force goes; and a break on the CHASSIS channel with no computation in flight begins one. -/
theorem witness_HealthDelivered :
    ((4 : Fin 6) ≠ 5 ∧ settledPose.ps.inFlight = none) ∧
    running.ct.health = .live ∧ running.ct.run.isSome = true ∧ pressureLive.ct.run = none ∧
      (Health.failed .lineBreak).isDown = true ∧ Health.stale.isDown = false ∧ running.lc.notices.length ≤ 14 := by decide +kernel

theorem witness_TimersDegradeHealth :
    (windowPassed.scu[(1 : Fin 6)].settings.enable = true ∧ windowPassed.scu[(1 : Fin 6)].health = .live ∧
      windowPassed.scu[(1 : Fin 6)].staleTimer = some 1092 ∧
      windowPassed.scu[(1 : Fin 6)].settings.window = (windowPassed.lc.time - 1092).toNat) ∧
    tenWindowsPassed.scu[(1 : Fin 6)].health = .stale ∧ tenWindowsPassed.scu[(1 : Fin 6)].silentTimer = some 1092 ∧
      10 * tenWindowsPassed.scu[(1 : Fin 6)].settings.window = (tenWindowsPassed.lc.time - 1092).toNat ∧
      windowPassed.lc.notices.length ≤ 14 ∧ tenWindowsPassed.lc.notices.length ≤ 14 := by decide +kernel

/-- The ninth character of a frame on the stick channel is the next command. -/
def frameEnding : State :=
  { withChannel 1 (fun c => { c with assembler := .collecting (stickFrame 0x80 0x02) }) .reset with
    pending := [.sensorFrameArrival 1 (crc8 ((stickFrame 0x80 0x02).drop 1))] }

theorem witness_ChannelSetAndRestartAcquire :
    let off := withChannel 5 (fun c => { c with settings := { c.settings with enable := false }, health := .off }) .reset
    (CommandAllowed 0x08 7 stickSet .service (inboxed 0x08 stickSet .service .reset) ∧ stickSet.length = 7 ∧
      channelSet? stickSet =
        some (1, { enable := true, unit := 0x02, mask := 0x0F, window := 50, spacing := 5, mode := .latest }) ∧
      (channelSet? (stickSet.set 1 0)).map (fun p => (p.1, p.2.enable)) = some (1, false) ∧
      State.reset.scu[(1 : Fin 6)].health = .acquiring ∧
      (withChannel 1 (fun c => { c with health := .live }) .reset).scu[(1 : Fin 6)].health ≠ .acquiring) ∧
    (CommandAllowed 0x0A 7 [0] .operator (inboxed 0x0A [0] .operator .reset) ∧
      State.reset.scu[(0 : Fin 6)].settings.enable = true) ∧
    (CommandAllowed 0x0A 7 [5] .operator (inboxed 0x0A [5] .operator off) ∧ off.scu[(5 : Fin 6)].settings.enable = false) ∧
    CommandAllowed 0x08 7 stickSet .service (inboxed 0x08 stickSet .service frameEnding) ∧
      frameEnding.scu[(1 : Fin 6)].settings.enable = true ∧
      frameEnding.pending.head? = some (.sensorFrameArrival 1 (crc8 ((stickFrame 0x80 0x02).drop 1))) ∧
      frameEnding.scu[(1 : Fin 6)].assembler = .collecting (stickFrame 0x80 0x02) ∧ (stickFrame 0x80 0x02).length = 8 :=
  ⟨⟨allowed _ _ _ _ (by decide +kernel), by decide +kernel⟩, ⟨allowed _ _ _ _ (by decide +kernel), by decide +kernel⟩,
    ⟨allowed _ _ _ _ (by decide +kernel), by decide +kernel⟩, allowed _ _ _ _ (by decide +kernel), by decide +kernel⟩

/-- R20: a frame that completes as CHANNEL SET is executed is checked under the new settings, as the first of the acquisition;
one byte short of that, it is abandoned. -/
theorem test_frame_at_a_channel_set :
    let run (s : State) := after (.sensorFrameArrival 1 (crc8 ((stickFrame 0x80 0x02).drop 1)))
      (after (.channelSet 7 stickSet) (inboxed 0x08 stickSet .service s))
    let t := run frameEnding
    t.scu[(1 : Fin 6)].stats.accepted = 1 ∧ t.scu[(1 : Fin 6)].acqCount = 1 ∧
      (run { frameEnding with pending := [] }).scu[(1 : Fin 6)].stats.accepted = 0 := by decide +kernel

theorem witness_QuietReadingAndCadence :
    let s := atTime 2 .reset
    let chirping := { atTime 3940 .reset with mlu := { (Mlu.fresh .chirp) with sounder := false, periodStart := 2000 } }
    (s.powered = true ∧ (s.lc.time - s.mlu.nextReading).toNat < 2147483648 ∧
      PerInput.any (PerInput.map₂ (fun (d : Debouncer) v => d.last == some v && v != d.level) s.mlu.inputs keyOnly) = false) ∧
    (pulsing.mlu.driven = .pulse ∧ 250 ≤ (pulsing.lc.time - pulsing.mlu.periodStart).toNat) ∧
    chirping.mlu.driven = .chirp ∧ chirping.mlu.sounder = false ∧
      1940 ≤ (chirping.lc.time - chirping.mlu.periodStart).toNat := by decide +kernel

/-- A mode with a reading in which JOY_LEFT or SEAT becomes ACTIVE, both last read ACTIVE. -/
def rising (mode : EngineMode) : State :=
  let s := idling 104000
  { s with
    mlu := { s.mlu with nextReading := 104000, inputs := { freshInputs with
      joyLeft := { level := false, last := some true }, seat := { level := false, last := some true } } }
    em := { s.em with mode := mode, idleTimer := if mode = .work ∨ mode = .eco then some 100000 else none } }

/-- The supervisor key going and TRAVEL coming at one reading, with the pole's zone SUSPENDED. -/
def keyAndTravel : State :=
  { suspendedByKey with mlu := { suspendedByKey.mlu with inputs := { suspendedByKey.mlu.inputs with
    travel := { level := false, last := some true } } } }

/-- Two levels accepted; a key that goes, alone and with TRAVEL, above a SUSPENDED zone; and, for the Economy Manager, a
joystick and a seat that become ACTIVE in each mode, with the idle delay of 5 s and the seat-empty delay not 0, the idle timer
run out by the next second. -/
theorem witness_LevelChangeTakesTwiceReadSamples :
    let meets (x : InputSamples) (s : State) : Prop :=
      s.powered = true ∧ (s.lc.time - s.mlu.nextReading).toNat < 2147483648 ∧
        PerInput.any (PerInput.map₂ (fun (d : Debouncer) v => d.last == some v && v != d.level) s.mlu.inputs x) = true
    (meets keyOnly (lastRead keyOnly .reset) ∧
      (lastRead keyOnly .reset).mlu.authority = authorityOf (lastRead keyOnly .reset).mlu.inputs) ∧
    (∀ m ∈ [EngineMode.stopped, .work, .eco, .autoIdle, .shutdownPending, .shutdownAdvised],
      meets { allInputs false with joyLeft := true } (rising m) ∧ meets { allInputs false with seat := true } (rising m) ∧
        (rising m).em.mode = m) ∧
    (rising .work).mlu.inputs.joyLeft = { level := false, last := some true } ∧ (rising .work).em.settings.seatDelay ≠ 0 ∧
      (rising .work).em.idleTimer = some 100000 ∧ (rising .work).em.settings.idleDelay = 5 ∧
      ((rising .work).lc.time - 100000).toNat < 5 * 1000 ∧
      meets { allInputs false with seat := true } (atTime 105000 (rising .work)) ∧
      5 * 1000 ≤ ((atTime 105000 (rising .work)).lc.time - 100000).toNat ∧
    meets (allInputs false) suspendedByKey ∧ meets travelOnly keyAndTravel ∧
      (∀ s ∈ [suspendedByKey, keyAndTravel], s.zt.zones[(6 : Fin 16)].held = some { record := pole, state := .suspended } ∧
        s.mlu.authority = authorityOf s.mlu.inputs ∧ s.mlu.authority = .supervisor) ∧
      Authority.operator.rank < pole.suspendLevel.rank ∧ pole.anchor = .site ∧ pole.extent ≠ 0 ∧
      (after (.inputLevelChange (allInputs false)) suspendedByKey).lc.notices.length ≤ 30 ∧
      AdviceStands suspendedByKey.em suspendedByKey.em.lastAdvice := by
  unfold AdviceStands; decide +kernel

/-- R29, R64, R72: the supervisor key goes; AUTHORITY and RE_ARMED of the pole's zone are handed over and no ENGINE ADVICE. -/
theorem test_key_lost_is_noticed :
    let t := after (.inputLevelChange (allInputs false)) suspendedByKey
    t.mlu.authority = .operator ∧ t.zt.zones[(6 : Fin 16)].state? = some .armed ∧
      noticeHanded (.authority .supervisor .operator 2) t.lc ∧
      noticeHanded (.zoneEvent (.reArmed .authority) 6 (some .armed) 2) t.lc ∧ noticesOfKind 0x4A t.lc = 0 := by
  unfold noticeHanded noticesOfKind; decide +kernel

/-- R140: a joystick makes SHUTDOWN_ADVISED WORK with CANCEL, and restarts the idle timer of WORK; R139: with SEAT becoming
ACTIVE at 105 000 ms the idle delay of 5 s has run out. -/
theorem test_input_level_change_at_the_economy_manager :
    let joy (m : EngineMode) := (after (.inputLevelChange { allInputs false with joyLeft := true }) (rising m)).em
    let seat (now : Stamp) := (after (.inputLevelChange { allInputs false with seat := true }) (atTime now (rising .work))).em
    ((joy .shutdownAdvised).mode, (joy .shutdownAdvised).cancel, (joy .shutdownAdvised).lastAdvice.reasons.cancel) =
        (.work, true, true) ∧
      (joy .work).idleTimer = some 104000 ∧ (joy .stopped).mode = .stopped ∧
      (seat 105000).mode = .autoIdle ∧ (seat 104999).mode = .work := by decide +kernel

theorem witness_TravelUnanchorsAndCloses :
    let s := lastRead travelOnly (withZone 6 { record := pole, state := .armed } loading)
    (s.zt.zones[(6 : Fin 16)].held = some { record := pole, state := .armed } ∧ s.lc.notices.length ≤ 14 ∧
      (travelledZone { record := pole, state := .armed }).state = .unanchored .armed) ∧
    s.powered = true ∧ (s.lc.time - s.mlu.nextReading).toNat < 2147483648 ∧ travelOnly.travel = true ∧
      s.lr.travelTaken = false ∧ s.lr.openLoad = some oneLoad ∧ (takeTravelFirst s).lr.travelTaken = true ∧
      PerInput.map₂ Debouncer.accepts s.mlu.inputs travelOnly =
        { pilotEnable := false, seat := false, joyLeft := false, joyRight := false, travel := true, supervisorKey := false
          servicePlug := false } := by decide +kernel

/-- R65, R69, R72, R127: TRAVEL unanchors the pole's zone and closes load 5, each with its notice. -/
theorem test_travel_is_noticed :
    let t := travelLoads (travelZones (atTime 2 (withZone 6 { record := pole, state := .armed } loading)))
    t.zt.zones[(6 : Fin 16)].state? = some (.unanchored .armed) ∧
      noticeHanded (.zoneEvent (.unanchored .armed) 6 (some (.unanchored .armed)) 2) t.lc ∧
      noticeHanded (.loadEvent .closed (closedAs .closedTravel 2 oneLoad) 2) t.lc := by
  unfold noticeHanded; decide +kernel

/-! ### Pose, zones and limiting -/

theorem witness_PoseStagesStayInRange :
    (2897 * 16384 : Int).natAbs ≤ 2897 * 16384 ∧ (2048 : Int).natAbs ≤ 2048 ∧ (-2048 : Int).natAbs ≤ 2048 ∧
      geometryValid .default = true ∧ geometryValid { Geometry.default with lb := 15000, fx := 5000, ls := 5000, lk := 2100 } = true := by
  decide +kernel

theorem witness_PoseCompletionHandsPose :
    let s := { posing 3000 with ps := { (posing 3000).ps with overdig := true, tipInterval := 20 } }
    let boomMoves (m : EngineMode) := { s with
      ps := { s.ps with held := s.ps.held.set 0 { a := 5461, b := 364 } }, em := { s.em with mode := m } }
    (s.powered = true ∧ s.ps.inFlight = some { geometry := .default, health := Vector.replicate 5 .live, usedDegraded := false } ∧
      s.lc.notices.length ≤ 30 ∧ s.ps.tipLast = none) ∧
    (∀ m ∈ [EngineMode.work, .eco, .shutdownAdvised], (boomMoves m).powered = true ∧ (boomMoves m).ps.inFlight.isSome = true ∧
      364 ≤ ((boomMoves m).ps.held[0]).b.natAbs ∧ (boomMoves m).em.mode = m) ∧
    (let blind : Computation := { geometry := .default, health := Vector.replicate 5 .stale, usedDegraded := false }
     let calibrating := { s with ps := { s.ps with inFlight := some blind }, ct := running.ct }
     calibrating.powered = true ∧ calibrating.ps.inFlight = some blind ∧ blind.health[0] ≠ .live ∧
       calibrating.ct.run = some { kind := .gain 31000, soft := 2 } ∧ calibrating.lc.notices.length ≤ 11) ∧
    (let swinging := { s with ct := { running.ct with
      phase := .swingLoaded, window := some { weighed16 3641000 with count := 9, forRun := true } } }
     swinging.ct.run.isSome = true ∧ swinging.ct.step = none ∧
       (swinging.ct.window.map fun w => (w.forRun, w.result)) = some (true, none)) ∧
    (s.ps.pendingStart = false ∧ { s with ps := { s.ps with pendingStart := true } }.ps.pendingStart = true) ∧
    s.ct.phase = .unknown ∧ s.em.settings.ecoEnable = true := by decide +kernel

/-- An over-digging pose (R50, R51): the grade 1000 mm above the tip of spec 03 section 3.6. -/
theorem test_grade_error_and_overdig :
    let g : Grade := { on := true, depth := 0, slope := 1000, refReach := 5177, tolerance := 999 }
    gradeErrorOf g 7893 1716 = some (-1000) ∧
      overdigging g { turned 0 0 with gradeError := some (-1000) } = true ∧
      overdigging { g with tolerance := 1000 } { turned 0 0 with gradeError := some (-1000) } = false := by decide +kernel

theorem witness_GeometryGetReturnsRecord :
    CommandAllowed 0x11 7 [] .operator (inboxed 0x11 [] .operator .reset) := allowed _ _ _ _ (by decide +kernel)

theorem witness_GeometrySetReplacesRecord :
    CommandAllowed 0x10 7 geometryBody .service (inboxed 0x10 geometryBody .service running) ∧ geometryBody.length = 18 ∧
      geometrySet? geometryBody = some { Geometry.default with fx := -100 } ∧ running.ps.inFlight.isSome = true ∧
      running.ct.run = some { kind := .gain 31000, soft := 2 } ∧
      CommandAllowed 0x10 7 geometryBody .service (inboxed 0x10 geometryBody .service settledPose) ∧
      settledPose.ps.inFlight = none ∧ settledPose.ct.run = none :=
  ⟨allowed _ _ _ _ (by decide +kernel), by decide +kernel, by decide +kernel, by decide +kernel, rfl,
    allowed _ _ _ _ (by decide +kernel), rfl, rfl⟩

theorem witness_GradeAndTipIntervalStored :
    (CommandAllowed 0x12 7 gradeBody .operator (inboxed 0x12 gradeBody .operator .reset) ∧ gradeBody.length = 9 ∧
      gradeSet? gradeBody = some { on := true, depth := 3000, slope := -20, refReach := 6000, tolerance := 50 } ∧
      State.reset.ps.inFlight.isSome = true) ∧
    (CommandAllowed 0x12 7 gradeBody .operator (inboxed 0x12 gradeBody .operator (after .poseCompletion .reset)) ∧
      (after .poseCompletion .reset).ps.inFlight = none) ∧
    CommandAllowed 0x13 7 [0x03, 0xE9] .operator (inboxed 0x13 [0x03, 0xE9] .operator .reset) :=
  ⟨⟨allowed _ _ _ _ (by decide +kernel), by decide +kernel⟩, ⟨allowed _ _ _ _ (by decide +kernel), by decide +kernel⟩,
    allowed _ _ _ _ (by decide +kernel)⟩

theorem witness_SectorHoldsItsAngles :
    pole.extent ≤ 65535 ∧ { pole with extent := 65535 }.extent = 65535 ∧ { pole with extent := 0 }.extent ≤ 65535 ∧
      pole.kind = .keepOut ∧ (turned 0 0).quality ≠ .invalid := by decide +kernel

/-- A ZONE WRITE of kind EMPTY, its other fields 0. -/
def emptyBody (index : Byte) : List Byte := index :: List.replicate ((poleBody index).length - 1) 0

theorem witness_ZoneWriteAndClearReplaceEntry :
    let inTravel := { State.reset with mlu := { State.reset.mlu with inputs := { freshInputs with travel := { level := true } } } }
    let guarded := withZone 15 { record := { pole with suspendLevel := .never }, state := .armed } .reset
    (CommandAllowed 0x18 7 (poleBody 15) .supervisor (inboxed 0x18 (poleBody 15) .supervisor guarded) ∧
      zoneWriteLength (poleBody 15) = true ∧ zoneWrite? (poleBody 15) = some (15, some pole) ∧
      (inboxed 0x18 (poleBody 15) .supervisor guarded).mlu.authority ≠ .service ∧
      guarded.zt.zones[(15 : Fin 16)].held = some { record := { pole with suspendLevel := .never }, state := .armed }) ∧
    (CommandAllowed 0x18 7 (poleBody 15) .supervisor (inboxed 0x18 (poleBody 15) .supervisor inTravel) ∧
      inTravel.mlu.inputs.travel.level = true ∧ inTravel.zt.zones[(15 : Fin 16)].held = none ∧ pole.anchor = .site ∧ pole.extent ≠ 0) ∧
    (CommandAllowed 0x18 7 (poleBody 15) .supervisor (inboxed 0x18 (poleBody 15) .supervisor .reset) ∧
      State.reset.mlu.inputs.travel.level = false) ∧
    (CommandAllowed 0x19 7 [15] .supervisor (inboxed 0x19 [15] .supervisor guarded) ∧
      CommandAllowed 0x19 7 [15] .supervisor (inboxed 0x19 [15] .supervisor .reset)) ∧
    CommandAllowed 0x19 7 [6] .supervisor (inboxed 0x19 [6] .supervisor (poled .armed)) ∧
      (poled .armed).zt.zones[(6 : Fin 16)].held = some { record := pole, state := .armed } ∧ pole.suspendLevel = .supervisor ∧
    CommandAllowed 0x18 7 (emptyBody 6) .supervisor (inboxed 0x18 (emptyBody 6) .supervisor (poled .armed)) ∧
      zoneWriteLength (emptyBody 6) = true ∧ u8 (emptyBody 6) 0 = 6 ∧ u8 (emptyBody 6) 1 = 0 :=
  ⟨⟨allowed _ _ _ _ (by decide +kernel), by decide +kernel⟩, ⟨allowed _ _ _ _ (by decide +kernel), by decide +kernel⟩,
    ⟨allowed _ _ _ _ (by decide +kernel), by decide +kernel⟩,
    ⟨allowed _ _ _ _ (by decide +kernel), allowed _ _ _ _ (by decide +kernel)⟩, allowed _ _ _ _ (by decide +kernel),
    by decide +kernel, by decide +kernel, allowed _ _ _ _ (by decide +kernel), by decide +kernel⟩

/-- R60: a ZONE WRITE of kind EMPTY clears the entry and is answered as a ZONE CLEAR. -/
theorem test_zone_write_of_kind_empty :
    let t := after (.zoneWrite 7 (emptyBody 6)) (inboxed 0x18 (emptyBody 6) .supervisor (poled .armed))
    t.zt.zones[(6 : Fin 16)].held = none ∧
      t.lc.tx = .sending (.reply { kind := 0x98, tag := 7, body := [BitVec.ofNat 8 (statusCode .done), 6, 0] }) := by
  decide +kernel

theorem witness_SuspendAndResumeMoveZone :
    (∀ st : ZoneState, CommandAllowed 0x1B 7 [6] .operator (inboxed 0x1B [6] .operator (poled st)) ∧
      CommandAllowed 0x1B 7 [6] .supervisor (inboxed 0x1B [6] .supervisor (poled st)) ∧
      CommandAllowed 0x1C 7 [6] .operator (inboxed 0x1C [6] .operator (poled st)) ∧
      CommandAllowed 0x1C 7 [6] .supervisor (inboxed 0x1C [6] .supervisor (poled st)) ∧
      (poled st).zt.zones[(6 : Fin 16)].held = some { record := pole, state := st }) ∧
    CommandAllowed 0x1B 7 [0] .operator (inboxed 0x1B [0] .operator (poled .armed)) ∧
      (poled .armed).zt.zones[(0 : Fin 16)].held = none ∧ Authority.operator.rank < pole.suspendLevel.rank ∧
      pole.suspendLevel.rank = Authority.supervisor.rank ∧ min 2 pole.suspendLevel.rank = Authority.supervisor.rank :=
  ⟨fun st => ⟨allowed _ _ _ _ ⟨rfl, rfl, rfl, rfl⟩, allowed _ _ _ _ ⟨rfl, rfl, rfl, rfl⟩, allowed _ _ _ _ ⟨rfl, rfl, rfl, rfl⟩,
    allowed _ _ _ _ ⟨rfl, rfl, rfl, rfl⟩, rfl⟩, allowed _ _ _ _ (by decide +kernel), by decide +kernel⟩

/-- The pole's zone UNANCHORED from ARMED, and one UNANCHORED from SUSPENDED at SERVICE. -/
def aboveTheKey : State :=
  withZone 3 { record := { pole with suspendLevel := .service }, state := .unanchored .suspended } unanchored

theorem witness_ReanchorRestoresZones :
    let inTravel := { unanchored with mlu := { unanchored.mlu with inputs := { freshInputs with travel := { level := true } } } }
    (CommandAllowed 0x1D 7 [255, 255] .supervisor (inboxed 0x1D [255, 255] .supervisor inTravel) ∧
      inTravel.mlu.inputs.travel.level = true) ∧
    CommandAllowed 0x1D 7 [255, 255] .supervisor (inboxed 0x1D [255, 255] .supervisor unanchored) ∧
      unanchored.mlu.inputs.travel.level = false ∧ 0 < unanchored.zt.zones.toList.countP ZoneEntry.isUnanchored ∧
    CommandAllowed 0x1D 7 [0, 0] .supervisor (inboxed 0x1D [0, 0] .supervisor aboveTheKey) ∧
      aboveTheKey.zt.zones[(3 : Fin 16)].held =
        some { record := { pole with suspendLevel := .service }, state := .unanchored .suspended } ∧
      Authority.supervisor.rank < SuspendLevel.service.rank ∧ aboveTheKey.lc.notices.length ≤ 16 :=
  ⟨⟨allowed _ _ _ _ (by decide +kernel), by decide +kernel⟩, allowed _ _ _ _ (by decide +kernel), by decide +kernel,
    by decide +kernel, allowed _ _ _ _ (by decide +kernel), by decide +kernel⟩

/-- R67, R72: a zone SUSPENDED at SERVICE before the travel comes back ARMED with RE_ARMED, cause REANCHOR; the pole's does not. -/
theorem test_reanchor_is_noticed :
    let t := after (.reanchor 7 [0, 0]) (inboxed 0x1D [0, 0] .supervisor aboveTheKey)
    noticeHanded (.zoneEvent (.reArmed .reanchor) 3 (some .armed) 0) t.lc ∧
      ¬noticeHanded (.zoneEvent (.reArmed .reanchor) 6 (some .armed) 0) t.lc := by unfold noticeHanded; decide +kernel

theorem witness_SlewSettingsStored :
    CommandAllowed 0x1E 7 slewBody .service (inboxed 0x1E slewBody .service cutting) ∧ slewBody.length = 6 ∧
      slewSettings? slewBody = some { deceleration := 2000, hysteresis := 64, swingThreshold := 910 } ∧
      cutting.sl.pose = some (turned 62500 2176) ∧ cutting.lc.notices.length ≤ 15 ∧
      CommandAllowed 0x1E 7 slewBody .service (inboxed 0x1E slewBody .service .reset) ∧ State.reset.sl.pose = none :=
  ⟨allowed _ _ _ _ (by decide +kernel), by decide +kernel, by decide +kernel, by decide +kernel, by decide +kernel,
    allowed _ _ _ _ (by decide +kernel), by decide +kernel⟩

/-! ### Cycle, loads, economy and service -/

theorem witness_CycleSettingsReadAndWrite :
    CommandAllowed 0x20 7 [0] .service (inboxed 0x20 [0] .service .reset) ∧
    CommandAllowed 0x20 7 cycleBody .service (inboxed 0x20 cycleBody .service running) ∧
      running.ct.run = some { kind := .gain 31000, soft := 2 } ∧
    CommandAllowed 0x20 7 cycleBody .service (inboxed 0x20 cycleBody .service .reset) ∧ State.reset.ct.run = none ∧
      cycleBody.length = 19 ∧ cycleSettings? cycleBody = some (.write { CycleSettings.default with windowLength := 8, stopOnSoft := true }) :=
  ⟨allowed _ _ _ _ (by decide +kernel), allowed _ _ _ _ (by decide +kernel), rfl, allowed _ _ _ _ (by decide +kernel),
    by decide +kernel⟩

theorem witness_CalibrationRunsStartAndCancel :
    (CommandAllowed 0x21 7 [0x80] .supervisor (inboxed 0x21 [0x80] .supervisor pressureLive) ∧ pressureLive.ct.run = none ∧
      pressureLive.ct.health = .live) ∧
    (CommandAllowed 0x21 7 [0x80] .supervisor (inboxed 0x21 [0x80] .supervisor running) ∧ running.ct.run ≠ none) ∧
    (CommandAllowed 0x22 7 [0x03, 0xE8] .supervisor (inboxed 0x22 [0x03, 0xE8] .supervisor pressureLive) ∧
      CommandAllowed 0x22 7 [0xFD, 0xE8] .supervisor (inboxed 0x22 [0xFD, 0xE8] .supervisor .reset) ∧
      State.reset.ct.health ≠ .live ∧ 0x03 * 256 + 0xE8 = 1000 ∧ 0xFD * 256 + 0xE8 = 65000) ∧
    CommandAllowed 0x23 7 [] .operator (inboxed 0x23 [] .operator running) ∧
      running.ct.run = some { kind := .gain 31000, soft := 2 } ∧
      CommandAllowed 0x23 7 [] .operator (inboxed 0x23 [] .operator .reset) ∧ State.reset.ct.run = none :=
  ⟨⟨allowed _ _ _ _ (by decide +kernel), by decide +kernel⟩, ⟨allowed _ _ _ _ (by decide +kernel), by decide +kernel⟩,
    ⟨allowed _ _ _ _ (by decide +kernel), allowed _ _ _ _ (by decide +kernel), by decide +kernel⟩,
    allowed _ _ _ _ (by decide +kernel), rfl, allowed _ _ _ _ (by decide +kernel), by decide +kernel⟩

/-- A GAIN run at its step with a lifted force of 0, at a soft error count and a stop setting. -/
def softStep (soft : Nat) (stop : Bool) : State :=
  let s := gainStep 31000 0
  { s with ct := { s.ct with run := some { kind := .gain 31000, soft := soft }, settings := { s.ct.settings with stopOnSoft := stop } } }

/-- An EMPTY run of band 3 at its step with a window of three samples. -/
def softEmpty : State :=
  { softStep 5 false with ct := { (softStep 5 false).ct with
    run := some { kind := .empty 0x08 (Vector.replicate 8 []), soft := 5 }, step := some { weighed16 0 with count := 3 } } }

theorem witness_SoftErrorsEndRun :
    (∀ x ∈ (softStep 6 false).ct.step.bind Window.result, x.quality = .good → ∀ d ∈ x.lifted, d ≤ 0) ∧
      (softStep 6 false).ct.run = some { kind := .gain 31000, soft := 6 } ∧ (softStep 6 false).ct.step.isSome = true ∧
      (softStep 0 true).ct.settings.stopOnSoft = true ∧ (softStep 5 false).ct.settings.stopOnSoft = false ∧
      (softStep 5 false).ct.waiting = [] ∧
      { softStep 5 false with ct := { (softStep 5 false).ct with waiting := [weighed16 0] } }.ct.waiting = [weighed16 0] ∧
      softEmpty.ct.step = some { weighed16 0 with count := 3 } ∧ (0x08 : Byte).getLsbD 3 = true ∧
      Window.emptyQuality { weighed16 0 with count := 3 } ≠ .good := by decide +kernel

/-- An EMPTY run of band 3 at its step with a GOOD window of mean force −5, and a force collected before. -/
def emptyStep (collected : List Int) : State :=
  { State.reset with ct := { State.reset.ct with
    run := some { kind := .empty 0x08 ((Vector.replicate 8 []).set 3 collected), soft := 0 }, step := some (weighed16 (-5)) } }

/-- R112: the mean of −5 and −2 is truncated toward zero. -/
theorem test_calibration_step_end_empty :
    (after .calibrationStepEnd (emptyStep [-2])).ct.fempty[(3 : Fin 8)] = -3 ∧
      (after .calibrationStepEnd (emptyStep [-2])).ct.run = none := by decide +kernel

theorem witness_GoodWindowWritesGain :
    ((gainStep 31000 1).powered = true ∧ (gainStep 31000 1).ct.run = some { kind := .gain 31000, soft := 0 } ∧
      (((gainStep 31000 1).ct.step.bind Window.result).map fun x => (x.quality, x.lifted)) = some (.good, some 1)) ∧
    (∀ xs ∈ [[], [-2], [-2, -2]], (emptyStep xs).powered = true ∧ (emptyStep xs).ct.step = some (weighed16 (-5)) ∧
      (emptyStep xs).ct.run = some { kind := .empty 0x08 ((Vector.replicate 8 []).set 3 xs), soft := 0 }) ∧
    ((emptyStep []).ct.waiting = [] ∧
      { emptyStep [] with ct := { (emptyStep []).ct with waiting := [weighed16 0] } }.ct.waiting = [weighed16 0]) ∧
    (0x08 : Byte).getLsbD 3 = true ∧ (0x10 : Byte).getLsbD 3 = false ∧ 4 ≤ (weighed16 (-5)).count ∧
      (weighed16 (-5)).most.getD 0 - (weighed16 (-5)).least.getD 0 ≤ (weighed16 (-5)).steadiness ∧
      (weighed16 (-5)).length ≤ (weighed16 (-5)).count := by decide +kernel

theorem witness_ReachBandIsFlooredQuotient :
    0 < Geometry.default.bandWidth ∧ (2999 : Int) < Geometry.default.bandOrigin ∧ (4499 : Int) < 4500 ∧ (13500 : Int) ≤ 13500 := by
  decide +kernel

theorem witness_ClassesAndNextClassStored :
    CommandAllowed 0x24 7 [0] .supervisor (inboxed 0x24 [0] .supervisor loading) ∧
    (CommandAllowed 0x24 7 classBody .supervisor (inboxed 0x24 classBody .supervisor loading) ∧ classBody.length = 8 ∧
      truckClassSet? classBody = some (.write (1, { target := 60000, tolerance := 3000 }))) ∧
    (truckClassSet? [1, 15, 0, 0, 0, 0, 0, 0] = some (.write (15, { target := 0, tolerance := 0 })) ∧
      { loading.lr with nextClass := 15 }.nextClass = 15) ∧
    (CommandAllowed 0x25 7 [1, 1] .operator (inboxed 0x25 [1, 1] .operator loading) ∧
      loading.lr.classes[(1 : Fin 16)].target ≠ 0 ∧ loading.lr.openLoad = some oneLoad ∧
      30000 - 1000 ≤ oneLoad.total ∧ oneLoad.atTarget = false ∧ 20000 + 1000 < oneLoad.total ∧ oneLoad.overloaded = false) ∧
    CommandAllowed 0x25 7 [0, 1] .operator (inboxed 0x25 [0, 1] .operator .reset) ∧ State.reset.lr.openLoad = none ∧
      State.reset.lr.classes[(0 : Fin 16)].target ≠ 0 ∧
      CommandAllowed 0x25 7 [9, 1] .operator (inboxed 0x25 [9, 1] .operator .reset) ∧
      State.reset.lr.classes[(9 : Fin 16)].target = 0 :=
  ⟨allowed _ _ _ _ (by decide +kernel), ⟨allowed _ _ _ _ (by decide +kernel), by decide +kernel⟩, by decide +kernel,
    ⟨allowed _ _ _ _ (by decide +kernel), by decide +kernel⟩, allowed _ _ _ _ (by decide +kernel), by decide +kernel,
    by decide +kernel, allowed _ _ _ _ (by decide +kernel), by decide +kernel⟩

/-- R120, R174: a re-class to a target of 20 t and back to 90 t: RECLASSED, AT_TARGET and OVERLOADED in that order, and then
RECLASSED alone, with the flags as they stood (assumption log 35). -/
theorem test_reclass_is_noticed :
    let s := { loading with lr := { loading.lr with
      classes := defaultClasses.set 1 { target := 20000, tolerance := 1000 } } }
    let t := after (.loadNext 7 [1, 1]) (inboxed 0x25 [1, 1] .operator s)
    let u := after (.loadNext 7 [0, 1]) (inboxed 0x25 [0, 1] .operator { t with lc := s.lc })
    let figured : Load := { oneLoad with cls := 1, target := 20000, tolerance := 1000 }
    noticesIn t.lc = [.loadEvent .reclassed figured 0, .loadEvent .atTarget { figured with atTarget := true } 0,
        .loadEvent .overloaded { figured with atTarget := true, overloaded := true } 0] ∧
      noticesIn u.lc = [.loadEvent .reclassed { oneLoad with atTarget := true, overloaded := true } 0] ∧
      u.lr.openLoad = some oneLoad := by
  decide +kernel

/-- A dump at the pose of spec 03 section 3.6 turned to an angle, its bucket opened, with a load OPEN in bay 2. -/
def dumping (pending : List Instr) : State :=
  { posing 0 with
    ps := { (posing 0).ps with held := #v[{ a := 5461 }, { a := -12743 }, { a := -12743 }, {}, {}] }
    mlu := { State.reset.mlu with inputs := { freshInputs with travel := { level := false, last := some true } } }
    lc := { State.reset.lc with time := 2 }
    ct := { State.reset.ct with phase := .swingLoaded, window := some { weighed16 0 with sum := 0, count := 3 } }
    lr := loading.lr
    pending := pending }

/-- A dump with and without a TRAVEL reading that waits next; a pass into another bay than the open load's hands over three notices,
well within the room. -/
theorem witness_PassFiledInLoad :
    (∀ q ∈ [[], [.inputLevelChange travelOnly]],
      (dumping q).powered = true ∧
        (dumping q).ps.inFlight = some { geometry := .default, health := Vector.replicate 5 .live, usedDegraded := false } ∧
        (dumping q).mlu.inputs.travel.level = false ∧ (dumping q).ct.run = none ∧ (dumping q).ct.phase = .swingLoaded ∧
        (angleOf (dumping q).ps.held[1].a - angleOf (dumping q).ps.held[2].a).toInt ≤ (dumping q).ct.settings.curlOpen) ∧
    travelComesNext (dumping []) = false ∧ travelComesNext (dumping [.inputLevelChange travelOnly]) = true ∧
      (dumping []).rs.restartPending = false ∧
      (let p : Pass := { payload := none, quality := .noWeight, band := 3, dumpAngle := 0, stamp := 2, bay := some 3 }
       (handlePass p (countPass p (dumping []))).lc.notices.length = 3) := by decide +kernel

/-- The notices of spec 07 section 7.8: passes 1 to 4, of 30 012, 30 400, 29 100 and 31 000 kg, into bays 2, 2, 2 and 5, with a
target of 90 000 and a tolerance of 5000 kg; and the twelfth pass of a load, which is closed. -/
theorem test_notices_of_passes :
    let p (kg : Nat) (bay : Fin 16) : Pass :=
      { payload := some kg, quality := .good, band := 3, dumpAngle := 0, stamp := 9, bay := some bay }
    let filed (ps : List Pass) : Lr := ps.foldl (fun lr p => withPassFiled p 9 lr) State.reset.lr
    let events (p : Pass) (lr : Lr) : List (Option LoadEventKind) := (passNotices p 9 lr).map fun n => match n with
      | .loadEvent e _ _ => some e
      | _ => none
    (events (p 30012 2) (filed []) = [some .opened, none] ∧
      events (p 30400 2) (filed [p 30012 2]) = [none, some (.lastPass 29588 30206)] ∧
      events (p 29100 2) (filed [p 30012 2, p 30400 2]) = [none, some .atTarget] ∧
      events (p 31000 5) (filed [p 30012 2, p 30400 2, p 29100 2]) = [some .closed, some .opened, none]) ∧
      events (p 9000 2) (filed (List.replicate 11 (p 1000 2))) = [none, some .closed] ∧
      events { p 0 2 with bay := none } (filed []) = [none] := by decide +kernel

/-- R121 to R123: a pass of 60 t in bay 2 brings the open load of 30 t to its target of 90 t; one in bay 3 opens load 6 there. -/
theorem test_pass_filed_in_load :
    let p (bay : Fin 16) : Pass :=
      { payload := some 60000, quality := .good, band := 3, dumpAngle := 0, stamp := 9, bay := some bay }
    let t := filePass (p 2) 2 loading
    let u := filePass (p 3) 3 loading
    (t.lr.openLoad.map fun l => (l.total, l.atTarget, l.overloaded, l.passes.length)) = some (90000, true, false, 2) ∧
      (u.lr.openLoad.map fun l => (l.number, l.bay, l.total)) = some (6, 3, 60000) ∧
      u.lr.history.map Load.state = [.closedNewBay] := by decide +kernel

/-- R129: TRAVEL taken before the pass closes the open load, and the pass then opens a new one, which the event leaves OPEN. -/
theorem test_travel_before_the_pass :
    let p : Pass := { payload := some 60000, quality := .good, band := 3, dumpAngle := 0, stamp := 9, bay := some 2 }
    let t := travelLoads (filePass p 2 (takeTravelFirst loading))
    t.lr.history.map Load.state = [.closedTravel] ∧ (t.lr.openLoad.map fun l => (l.number, l.total)) = some (6, 60000) ∧
      t.lr.travelTaken = false := by decide +kernel

theorem witness_LoadCloseAndRead :
    (CommandAllowed 0x26 7 [] .operator (inboxed 0x26 [] .operator .reset) ∧ State.reset.lr.openLoad = none) ∧
    (CommandAllowed 0x26 7 [] .operator (inboxed 0x26 [] .operator loading) ∧ loading.lr.openLoad = some oneLoad) ∧
    CommandAllowed 0x27 7 [0xFF] .operator (inboxed 0x27 [0xFF] .operator loading) ∧
      CommandAllowed 0x27 7 [15] .operator (inboxed 0x27 [15] .operator loading) ∧ loading.lr.history[15]? = none :=
  ⟨⟨allowed _ _ _ _ (by decide +kernel), by decide +kernel⟩, ⟨allowed _ _ _ _ (by decide +kernel), by decide +kernel⟩,
    allowed _ _ _ _ (by decide +kernel), allowed _ _ _ _ (by decide +kernel), by decide +kernel⟩

theorem witness_EngineReportIntegratesInterval :
    CommandAllowed 0x28 7 reportBody .operator (inboxed 0x28 reportBody .operator .reset) ∧ reportBody.length = 9 ∧
      State.reset.em.copy = none ∧ State.reset.em.mode = .stopped ∧ State.reset.lc.notices.length ≤ 6 ∧
      CommandAllowed 0x28 7 reportBody .operator (inboxed 0x28 reportBody .operator beforeReport4) ∧
      beforeReport4.em.copy = some { report := { report with load := 100, fuelRate := 1900 }, stamp := 1200 } ∧
      (engineReportOf reportBody = report ∧ (report.running, beforeReport4.em.mode) = (true, .work) ∧
        (engineReportOf (reportBody.set 5 0)).running = false) ∧
      CommandAllowed 0x28 7 reportBody .operator (inboxed 0x28 reportBody .operator (deferredIdle (.committing (commitOf 1)))) ∧
      ∀ store ∈ [RsState.clean, .dirty, .failed],
        CommandAllowed 0x28 7 reportBody .operator (inboxed 0x28 reportBody .operator (deferredIdle store)) ∧
          (deferredIdle store).em.mode = .autoIdle ∧ (deferredIdle store).em.deferred = true ∧
          report.regenActive = false ∧ (deferredIdle store).mlu.inputs.pilotEnable.level = false ∧
          report.coolant = some 88 ∧ (deferredIdle store).em.settings.coolantLimit = 95 :=
  ⟨allowed _ _ _ _ (by decide +kernel), by decide +kernel, by decide +kernel, by decide +kernel, by decide +kernel,
    allowed _ _ _ _ (by decide +kernel), by decide +kernel, by decide +kernel, allowed _ _ _ _ (by decide +kernel),
    fun _ _ => ⟨allowed _ _ _ _ ⟨rfl, rfl, rfl, rfl⟩, rfl, rfl, rfl, rfl, rfl, rfl⟩⟩

/-- R138, R145: the report that wakes STOPPED to WORK hands over the advice. -/
theorem test_report_hands_over_a_changed_advice :
    let told (s : State) := after (.engineReport 7 reportBody) (inboxed 0x28 reportBody .operator s)
    let t := told .reset
    noticesIn t.lc = [.engineAdvice t.em.lastAdvice 0] ∧ t.em.lastAdvice ≠ State.reset.em.lastAdvice := by decide +kernel

/-- The default economy settings with a shutdown delay of 0. -/
def noShutdownBody : List Byte := [1, 0x07, 0x08, 0x05, 0xDC, 0x03, 0x84, 1, 5, 3, 0, 0, 95]

theorem witness_EconomySetReadAndWrite :
    CommandAllowed 0x29 7 [0] .supervisor (inboxed 0x29 [0] .supervisor .reset) ∧
    (CommandAllowed 0x29 7 economyBody .supervisor (inboxed 0x29 economyBody .supervisor .reset) ∧ economyBody.length = 13 ∧
      economySet? economyBody = some (.write { EconomySettings.default with ecoEnable := false }) ∧
      State.reset.em.mode = .stopped) ∧
    (CommandAllowed 0x29 7 economyBody .supervisor (inboxed 0x29 economyBody .supervisor (idling 105000)) ∧
      (idling 105000).em.mode = .work ∧ (idling 105000).em.idleTimer = some 100000 ∧
      (idling 105000).mlu.inputs.seat.level = true ∧ 5 * 1000 ≤ ((idling 105000).lc.time - 100000).toNat ∧
      ((idling 104999).lc.time - 100000).toNat < 5 * 1000) ∧
    CommandAllowed 0x29 7 economyBody .supervisor (inboxed 0x29 economyBody .supervisor (shuttingDown .clean)) ∧
      (shuttingDown .clean).em.mode = .autoIdle ∧ (shuttingDown .clean).em.shutdownTimer = .running 100000 ∧
      600 * 1000 ≤ ((shuttingDown .clean).lc.time - 100000).toNat ∧ (88 : Int) ≤ 95 ∧
      (atTime 100000 (shuttingDown .clean)).lc.time - 100000 = 0 ∧
    CommandAllowed 0x29 7 noShutdownBody .supervisor (inboxed 0x29 noShutdownBody .supervisor (deferredIdle .clean)) ∧
      economySet? noShutdownBody = some (.write { EconomySettings.default with shutdownDelay := 0 }) ∧
      (deferredIdle .clean).em.mode = .autoIdle ∧ (deferredIdle .clean).em.shutdownTimer = .running 100000 ∧
      (let swinging := { idling 104999 with em := { (idling 104999).em with mode := .eco } }
       swinging.em.mode = .eco ∧ swinging.em.idleTimer = some 100000) ∧
      { (shuttingDown .clean).em with shutdownTimer := .stopped }.mode = .autoIdle :=
  ⟨allowed _ _ _ _ (by decide +kernel), ⟨allowed _ _ _ _ (by decide +kernel), by decide +kernel⟩,
    ⟨allowed _ _ _ _ (by decide +kernel), by decide +kernel⟩, allowed _ _ _ _ (by decide +kernel), by decide +kernel,
    by decide +kernel, by decide +kernel, by decide +kernel, by decide +kernel, allowed _ _ _ _ (by decide +kernel),
    by decide +kernel⟩

/-- R137, R142, R143, R162: a WRITE whose shutdown delay has passed on the running timer tests the permission at once; one that
changes a setting has marked a CLEAN store before it. -/
theorem test_economy_write_runs_a_timer_out :
    let mode (body : List Byte) :=
      (after (.economySet 7 body) (inboxed 0x29 body .supervisor (shuttingDown .clean))).em.mode
    mode (1 :: economySettingsBytes .default) = .shutdownAdvised ∧ mode economyBody = .shutdownPending := by decide +kernel

/-- R137, R139, R142: a WRITE with a shutdown delay of 0 lets an idle timer that has run out start the shutdown timer all the
same, and clears the deferred mark in AUTO_IDLE, where the timer runs on. -/
theorem test_economy_write_of_no_shutdown :
    let em (s : State) := (after (.economySet 7 noShutdownBody) (inboxed 0x29 noShutdownBody .supervisor s)).em
    ((em (idling 105000)).mode, (em (idling 105000)).shutdownTimer, (em (idling 105000)).deferred) =
        (.autoIdle, .running 105000, false) ∧
      ((em (deferredIdle .clean)).mode, (em (deferredIdle .clean)).shutdownTimer, (em (deferredIdle .clean)).deferred) =
        (.autoIdle, .running 100000, false) := by decide +kernel

theorem witness_EconomyTimersExpire :
    ((idling 105000).powered = true ∧ (idling 105000).em.mode = .work ∧ (idling 105000).em.idleTimer = some 100000 ∧
      (idling 105000).mlu.inputs.seat.level = true ∧ (idling 105000).em.settings.idleDelay = 5 ∧
      5 * 1000 = ((idling 105000).lc.time - 100000).toNat) ∧
    (shuttingDown .failed).em.mode = .autoIdle ∧ (shuttingDown .failed).em.shutdownTimer = .running 100000 ∧
      (shuttingDown .failed).em.settings.shutdownDelay = 600 ∧
      600 * 1000 = ((shuttingDown .failed).lc.time - 100000).toNat ∧ (shuttingDown .failed).mlu.inputs.pilotEnable.level = false ∧
      (shuttingDown .failed).em.copy = some { report := report, stamp := 699900 } ∧ report.regenActive = false ∧
      report.coolant = some 88 ∧ (shuttingDown .failed).em.settings.coolantLimit = 95 ∧
      { (shuttingDown .failed).rs with restartPending := true }.state = .failed := by decide +kernel

/-- R142, R163: with a RESTART pending the shutdown timer's expiry begins no commit, and the store stays as it is (assumption
log 23). -/
theorem test_no_commit_with_a_restart_pending :
    let s := { shuttingDown .failed with rs := { (shuttingDown .failed).rs with restartPending := true } }
    let t := after .shutdownTimerExpiry s
    t.em.mode = .shutdownPending ∧ t.em.wait = .own ∧ t.rs = s.rs := by decide +kernel

theorem witness_ServiceCommandsSettleEntry :
    (CommandAllowed 0x30 7 itemBody .service (inboxed 0x30 itemBody .service .reset) ∧ itemBody.length = 12 ∧
      serviceItemSet? itemBody = some (2, some itemDef)) ∧
    CommandAllowed 0x30 7 [1, 23] .service (inboxed 0x30 [1, 23] .service overdueState) ∧
    (CommandAllowed 0x33 7 [23] .service (inboxed 0x33 [23] .service overdueState) ∧
      overdueState.st.entries[(23 : Fin 24)] = some (entry 120 true false .overdue) ∧ 0 < itemDef.warnPoint ∧
      CommandAllowed 0x33 7 [0] .service (inboxed 0x33 [0] .service overdueState) ∧
      overdueState.st.entries[(0 : Fin 24)] = none) ∧
    CommandAllowed 0x34 7 [23, 1] .service (inboxed 0x34 [23, 1] .service overdueState) ∧
      CommandAllowed 0x34 7 [23, 0] .service (inboxed 0x34 [23, 0] .service overdueState) ∧
      CommandAllowed 0x34 7 [0, 1] .service (inboxed 0x34 [0, 1] .service overdueState) :=
  ⟨⟨allowed _ _ _ _ (by decide +kernel), by decide +kernel⟩, allowed _ _ _ _ (by decide +kernel),
    ⟨allowed _ _ _ _ (by decide +kernel), by decide +kernel, by decide +kernel, allowed _ _ _ _ (by decide +kernel), by decide +kernel⟩,
    allowed _ _ _ _ (by decide +kernel), allowed _ _ _ _ (by decide +kernel), allowed _ _ _ _ (by decide +kernel)⟩

theorem witness_ServiceReadAndAck :
    CommandAllowed 0x31 7 [18, 6] .operator (inboxed 0x31 [18, 6] .operator overdueState) ∧
      CommandAllowed 0x32 7 (BitVec.ofNat 8 2 :: [23, 23]) .operator (inboxed 0x32 [2, 23, 23] .operator overdueState) ∧
      ∀ x ∈ [(23 : Byte), 23], x.toNat < 24 :=
  ⟨allowed _ _ _ _ (by decide +kernel), allowed _ _ _ _ (by decide +kernel), by decide +kernel⟩

/-! ### The store and the host link -/

/-- R72, R90, R180: INTRUSION_END sends its cause (CLEARED, the third) before its pose count, and INTRUSION its kind, slew angle,
R, H and pose count, each after the event, index, state and part time, with absent fields 0. -/
theorem test_zone_event_fields_in_listed_order :
    noticeBody (.zoneEvent (.intrusionEnd .cleared 0x05060708) 3 (some .armed) 0x01020304) =
        [0xC0, 3, 3, 2, 1, 2, 3, 4, 0, 0, 0, 0, 0, 0, 0, 0, 0, 2, 5, 6, 7, 8] ∧
      noticeBody (.zoneEvent (.intrusion .keepOut 0x7918 7893 (-2) 0x05060708) 3 (some .armed) 0x01020304) =
        [0xBC, 2, 3, 2, 1, 2, 3, 4, 0, 0, 1, 0x79, 0x18, 0x1E, 0xD5, 0xFF, 0xFE, 0, 5, 6, 7, 8] := by decide +kernel

/-- R123, R180: LAST PASS sends the remaining amount and the mean in two bytes each, before the time. -/
theorem test_last_pass_amounts_take_two_bytes :
    (noticeBody (.loadEvent (.lastPass 0x0102 0x0304) oneLoad 0x05060708)).drop 30 = [1, 2, 3, 4, 5, 6, 7, 8] := by decide +kernel

theorem witness_CommitAndRestartBegin :
    (CommandAllowed 0x03 7 [] .operator (inboxed 0x03 [] .operator .reset) ∧ State.reset.rs.state.isCommitting = false) ∧
    (CommandAllowed 0x03 7 [] .operator (inboxed 0x03 [] .operator (committing 1 false)) ∧
      (committing 1 false).rs.state.isCommitting = true) ∧
    CommandAllowed 0x02 7 [] .operator (inboxed 0x02 [] .operator .reset) :=
  ⟨⟨allowed _ _ _ _ (by decide +kernel), by decide +kernel⟩, ⟨allowed _ _ _ _ (by decide +kernel), by decide +kernel⟩,
    allowed _ _ _ _ (by decide +kernel)⟩

/-- An attempt in flight with the Economy Manager waiting. -/
def awaiting (attempt : Nat) (wait : CommitWait) : State :=
  { committing attempt true with em := { State.reset.em with mode := .shutdownPending, wait := wait } }

theorem witness_CommitAttemptEnds :
    ((committing 2 false).powered = true ∧ (committing 2 false).rs.state = .committing (commitOf 2) ∧ (commitOf 2).attempt < 3 ∧
      (committing 3 false).em.wait = .none ∧ 3 ≤ (commitOf 3).attempt) ∧
    ((awaiting 3 .own).rs.state = .committing (commitOf 3) ∧ (awaiting 3 .own).em.wait = .own ∧
      (awaiting 3 .own).em.mode = .shutdownPending) ∧
    (awaiting 1 .prior).rs.state = .committing (commitOf 1) ∧ (awaiting 1 .prior).em.wait = .prior ∧
      (awaiting 1 .prior).lc.inbox = [] ∧ (awaiting 1 .prior).rs.restartPending = false ∧
    (∀ wait ∈ [CommitWait.own, .prior],
      { (awaiting 1 wait).rs with restartPending := true }.state = .committing (commitOf 1) ∧ (awaiting 1 wait).em.wait = wait) ∧
    ∀ body ∈ [[], [(1 : Byte)]],
      let s := inboxed 0x03 body .operator (awaiting 1 .prior)
      let r := commitOf 1
      s.rs.state = .committing r ∧ s.em.wait = .prior ∧ s.rs.restartPending = false ∧
        CommandReady 0x03 7 body (queueNotice (.commitResult r.requester true r.attempt .dirty s.lc.time)
          { s with rs := { s.rs with image := snapshotImage .default, state := .dirty, changed := false, awaited := none } }) := by
  unfold CommandReady; decide +kernel

/-- R143, R145, R165: the end of the commit that the Economy Manager awaits sends COMMIT RESULT and then ENGINE ADVICE with
SHUTDOWN_ADVISED; one that it awaits as a prior one sends COMMIT RESULT and begins the Economy Manager's own. -/
theorem test_commit_result_with_a_waiting_economy_manager :
    let t (wait : CommitWait) := after (.commitAttemptEnd true (snapshotImage .default))
      { awaiting 1 wait with
        em := { (awaiting 1 wait).em with lastAdvice := Em.advice (awaiting 1 wait).em }
        lc := { State.reset.lc with tx := .free } }
    noticesIn (t .own).lc =
        [.commitResult .host true 1 .dirty 0, .engineAdvice { mode := .shutdownAdvised, rpm := 0, cap := 100, reasons :=
          { derate := false, ecoPhase := false, idleTimer := false, shutdown := true, deferred := false, cancel := false
            retainedFailed := false } } 0] ∧
      noticesIn (t .prior).lc = [.commitResult .host true 1 .dirty 0] ∧ (t .prior).em.wait = .own ∧
      (t .prior).rs.state = .committing { snapshot := .default, requester := .economy, attempt := 1 } := by decide +kernel

theorem witness_RestartKeepsRetainedContent :
    restartWaits.powered = true ∧ restartWaits.rs.restartPending = true ∧ restartWaits.rs.state.isCommitting = false ∧
      restartWaits.lc.replySlot = none ∧ (∀ r, restartWaits.lc.tx ≠ .sending (.reply r)) ∧
      ∀ r, { restartWaits.lc with tx := .sending (.notice (.authority .operator .supervisor 5)) }.tx ≠ .sending (.reply r) :=
  ⟨rfl, rfl, rfl, rfl, (nofun), (nofun)⟩

theorem witness_PowerCycleKeepsCommittedContent :
    (cleanStore.powered = true ∧ cleanStore.rs.state = .clean ∧ cleanStore.rs.image = snapshotImage (retainedOf cleanStore)) ∧
    ((committing 1 false).powered = true ∧ (committing 1 false).rs.state.isCommitting = true) ∧
    (let kept := after (.powerLoss (snapshotImage .default)) cleanStore
     kept.powered = false ∧ kept.rs.image.layout = .ofThisPart ∧ kept.rs.image.checkAgrees = true) ∧
    let lost := after (.powerLoss { snapshotImage .default with checkAgrees := false }) (committing 1 false)
    lost.powered = false ∧ lost.rs.image.checkAgrees = false := by decide +kernel

theorem witness_HostCharactersCollect :
    (State.reset.powered = true ∧ State.reset.lc.assembler = .hunting) ∧
    (let s := started 1020 [0xC5]
     s.lc.assembler = .collecting [0xC5] ∧ (s.lc.time - s.lc.lastChar).toNat = 20) ∧
    (let s := started 1020 [0xC5, 2, 1, 9]
     s.lc.assembler = .collecting [0xC5, 2, 1, 9] ∧ [0xC5, 2, 1, (9 : Byte)].length < u8 [0xC5, 2, 1, 9] 1 + 3) ∧
    let s := started 1021 [0xC5, 2]
    (s.lc.time - s.lc.lastChar).toNat = 21 := by decide +kernel

theorem witness_HostFrameEntersInbox :
    let covered : List Byte := BitVec.ofNat 8 2 :: 1 :: 9 :: []
    let hi : Byte := ((crc16 covered) >>> 8).setWidth 8
    let lo : Byte := (crc16 covered).setWidth 8
    let full := { hostFrame with lc := { hostFrame.lc with inbox := List.replicate 4 default } }
    hostFrame.powered = true ∧ hostFrame.lc.assembler = .collecting (0xC5 :: covered ++ [hi]) ∧
      (hostFrame.lc.time - hostFrame.lc.lastChar).toNat ≤ 20 ∧ hi ++ lo = crc16 covered ∧ hi ++ (lo + 1) ≠ crc16 covered ∧
      hostFrame.lc.inbox.length < 4 ∧ full.lc.assembler = .collecting (0xC5 :: covered ++ [hi]) ∧ 4 ≤ full.lc.inbox.length := by
  decide +kernel

theorem witness_GetStatusAndUnknownKind :
    CommandReady 0x01 7 [] (inboxed 0x01 [] .operator restartPends) ∧
      CommandReady 0x40 7 [1] (inboxed 0x40 [1] .operator .reset) := ⟨ready _ _ _ _ (by decide +kernel), ready _ _ _ _ (by decide +kernel)⟩

/-- R174: with 32 notices waiting another is lost and counted, and an ENGINE ADVICE still takes the place of the one that waits. -/
theorem test_full_notice_queue :
    let n := Notice.authority .operator .supervisor 5
    let advice (time : Stamp) := Notice.engineAdvice State.reset.em.lastAdvice time
    let full := { State.reset with lc := { State.reset.lc with notices := advice 1 :: List.replicate 31 n } }
    (queueNotice n full).lc = { full.lc with noticeLoss := 1 } ∧
      (queueNotice (advice 2) full).lc.notices = advice 2 :: List.replicate 31 n ∧
      (queueNotice (advice 2) full).lc.noticeLoss = 0 := by decide +kernel

theorem witness_NoticeQueueAndTransmitterOrder :
    let n := Notice.authority .operator .supervisor 5
    let old := Notice.engineAdvice State.reset.em.lastAdvice 1
    let r : Reply := { kind := 0x81, tag := 1, body := [0] }
    let both := { State.reset with lc := { State.reset.lc with replySlot := some r, notices := [n] } }
    let one := { State.reset with lc := { State.reset.lc with notices := [n] } }
    (both.powered = true ∧ both.lc.tx ≠ .free ∧ both.lc.replySlot = some r) ∧
      (one.lc.tx ≠ .free ∧ one.lc.replySlot = none ∧ one.lc.notices = n :: [] ∧ one.rs.restartPending = false) ∧
      (restartPends.rs.restartPending = true ∧ restartPends.rs.state.isCommitting = true ∧ restartPends.lc.early = [] ∧
        restartPends.lc.tx ≠ .free ∧ restartPends.lc.replySlot = none) ∧
      ([n, n][1]? = some n ∧ [false, true][1]? = some true ∧ ∀ j < 1, [false, true][j]? = some false) ∧
      (restartWaits.rs.restartPending = true ∧ restartWaits.rs.state.isCommitting = false ∧ restartWaits.lc.replySlot = none ∧
        { restartWaits.lc with tx := .sending (.notice n) }.tx ≠ .free) ∧
      (noticeKind old = 0x4A ∧ noticeKind n ≠ 0x45 ∧ noticeKind n ≠ 0x4A ∧ [n, old, n] = [n] ++ old :: [n] ∧
        (∀ m ∈ [n], noticeKind m ≠ noticeKind old) ∧ 32 ≤ (List.replicate 32 n).length ∧ State.reset.lc.notices.length < 32) ∧
      (after .transmitEnd State.reset).lc.tx = .free ∧ (after .transmitEnd State.reset).lc.notices = [] ∧
      (after .transmitEnd State.reset).rs.restartPending = false ∧ State.reset.lc.tx ≠ .free ∧ State.reset.lc.replySlot = none ∧ State.reset.lc.notices = [] := by decide +kernel

end Sys2Proof.Tests
end

/-! PROOFS. The stages of a pose stay in range (R39, R43 to R45), and GEOMETRY GET (R37). -/

namespace Sys2Proof.Machine

/-! ## The rounding step (R39) -/

/-- The rounding step is to nearest, an exact half upward. -/
theorem round14_spec (x : Int) : 16384 * round14 x ≤ x + 8192 ∧ x + 8192 < 16384 * (round14 x + 1) := by
  unfold round14; omega

/-- The rounding step gives back what was scaled. -/
theorem round14_scaled (x : Int) : round14 (x * 16384) = x := by
  have h := round14_spec (x * 16384); omega

theorem round14_natAbs_le {m : Nat} {v : Int} (h : v.natAbs ≤ m * 16384) : (round14 v).natAbs ≤ m := by
  have hr := round14_spec v; omega

/-! ## The trig table (R38) -/

/-- What the ranges need of the table: no entry exceeds the scale, and complementary entries sum to at most 23 176, which is
8 × 2897. -/
theorem sineEntry_bounds : ∀ p < 1025, sineEntry p ≤ 16384 ∧ sineEntry p + sineEntry (1024 - p) ≤ 23176 := by
  decide +kernel

/-- A right angle further: the same index in the next quadrant. -/
theorem quadrant_index_add_rightAngle (a : Angle) :
    (a + 16384).toNat / 16384 = (a.toNat / 16384 + 1) % 4 ∧ (a + 16384).toNat / 16 % 1024 = a.toNat / 16 % 1024 := by
  have h : (a + 16384).toNat = (a.toNat + 16384) % 65536 := BitVec.toNat_add a 16384
  have ha := a.isLt
  rw [h]; omega

/-- Sine and cosine are, up to their signs, a pair of complementary entries of the table: the quadrant says which is which. -/
theorem sine_cosine_entries (a : Angle) : ∃ p < 1025,
    (sine a).natAbs = sineEntry p ∧ (cosine a).natAbs = sineEntry (1024 - p) := by
  obtain ⟨hq, hi⟩ := quadrant_index_add_rightAngle a
  have hlt : a.toNat / 16384 < 4 := Nat.div_lt_of_lt_mul a.isLt
  have hp : a.toNat / 16 % 1024 < 1024 := Nat.mod_lt _ (by decide)
  unfold cosine sine
  rw [hi, hq]
  generalize a.toNat / 16 % 1024 = p at hp
  have hc : 1024 - (1024 - p) = p := Nat.sub_sub_self hp.le
  generalize a.toNat / 16384 = q at hlt
  match q, hlt with
  | 0, _ => exact ⟨p, by omega, by simp, by simp⟩
  | 1, _ => exact ⟨1024 - p, by omega, by simp, by simp [hc]⟩
  | 2, _ => exact ⟨p, by omega, by simp, by simp⟩
  | 3, _ => exact ⟨1024 - p, by omega, by simp, by simp [hc]⟩

theorem sine_natAbs_le (a : Angle) : (sine a).natAbs ≤ 16384 := by
  obtain ⟨p, hp, hs, -⟩ := sine_cosine_entries a
  rw [hs]; exact (sineEntry_bounds p hp).1

theorem cosine_natAbs_le (a : Angle) : (cosine a).natAbs ≤ 16384 := sine_natAbs_le _

theorem sine_add_cosine_natAbs_le (a : Angle) : (sine a).natAbs + (cosine a).natAbs ≤ 23176 := by
  obtain ⟨p, hp, hs, hc⟩ := sine_cosine_entries a
  rw [hs, hc]; exact (sineEntry_bounds p hp).2

theorem sine_zero : sine 0 = 0 := by decide +kernel
theorem cosine_zero : cosine 0 = 16384 := by decide +kernel
theorem sine_rightAngle : sine 16384 = 16384 := by decide +kernel
theorem cosine_rightAngle : cosine 16384 = 0 := by decide +kernel

/-! ## The stages (R43 to R45) -/

/-- A weighted sum of two values is bounded by the weights' bounds. -/
theorem natAbs_mul_add_mul_le {x y c s : Int} {m n : Nat} (hx : x.natAbs ≤ m) (hy : y.natAbs ≤ n) :
    (x * c + y * s).natAbs ≤ m * c.natAbs + n * s.natAbs :=
  calc (x * c + y * s).natAbs ≤ (x * c).natAbs + (y * s).natAbs := Int.natAbs_add_le _ _
    _ = x.natAbs * c.natAbs + y.natAbs * s.natAbs := by rw [Int.natAbs_mul, Int.natAbs_mul]
    _ ≤ m * c.natAbs + n * s.natAbs := by gcongr

/-- Turning a point moves neither coordinate beyond the sum of both (R44). -/
theorem round14_turn_natAbs_le (x y : Int) {c s : Int} (hc : c.natAbs ≤ 16384) (hs : s.natAbs ≤ 16384) :
    (round14 (x * c + y * s)).natAbs ≤ x.natAbs + y.natAbs := by
  apply round14_natAbs_le
  calc (x * c + y * s).natAbs ≤ x.natAbs * c.natAbs + y.natAbs * s.natAbs := natAbs_mul_add_mul_le le_rfl le_rfl
    _ ≤ x.natAbs * 16384 + y.natAbs * 16384 := by gcongr
    _ = (x.natAbs + y.natAbs) * 16384 := by ring

theorem boomPlaneTilt_natAbs_le (a : Angle) {pitch roll : Int} (hp : pitch.natAbs ≤ 2048) (hr : roll.natAbs ≤ 2048) :
    (boomPlaneTilt a pitch roll).natAbs ≤ 2897 := by
  have hsum := sine_add_cosine_natAbs_le a
  have hle := natAbs_mul_add_mul_le (c := cosine a) (s := sine a) hp hr
  exact round14_natAbs_le (by omega)

theorem boomPlaneTilt_zero (pitch roll : Int) : boomPlaneTilt 0 pitch roll = pitch := by
  rw [boomPlaneTilt, sine_zero, cosine_zero, mul_zero, add_zero, round14_scaled]

theorem boomPlaneTilt_rightAngle (pitch roll : Int) : boomPlaneTilt 16384 pitch roll = roll := by
  rw [boomPlaneTilt, sine_rightAngle, cosine_rightAngle, mul_zero, zero_add, round14_scaled]

theorem footPin_zero (g : Geometry) : footPin g 0 = (g.fx, g.fz) := by
  have h : angleOf 0 = 0 := rfl
  rw [footPin, h, sine_zero, cosine_zero, mul_zero, mul_zero, sub_zero, zero_add, round14_scaled, round14_scaled]

theorem footPin_natAbs_le (g : Geometry) (t : Int) :
    (footPin g t).1.natAbs ≤ g.fx.natAbs + g.fz.natAbs ∧ (footPin g t).2.natAbs ≤ g.fx.natAbs + g.fz.natAbs := by
  have hc := cosine_natAbs_le (angleOf t)
  have hs := sine_natAbs_le (angleOf t)
  constructor
  · have h := round14_turn_natAbs_le g.fx g.fz hc (s := -sine (angleOf t)) (by rwa [Int.natAbs_neg])
    rwa [mul_neg, ← sub_eq_add_neg] at h
  · exact round14_turn_natAbs_le g.fx g.fz hs hc

/-- A member reaches no further than its length in either direction (R45). -/
theorem memberTerm_natAbs_le (len : Nat) (angle : Int) :
    (memberTerm len angle).1.natAbs ≤ len ∧ (memberTerm len angle).2.natAbs ≤ len := by
  have hterm {c : Int} (hc : c.natAbs ≤ 16384) : (round14 (len * c)).natAbs ≤ len :=
    round14_natAbs_le (by rw [Int.natAbs_mul, Int.natAbs_natCast]; gcongr)
  exact ⟨hterm (cosine_natAbs_le _), hterm (sine_natAbs_le _)⟩

/-- Four terms added reach no further than the sum of their bounds. -/
theorem natAbs_add_four_le {w x y z : Int} {k l m n : Nat} (hw : w.natAbs ≤ k) (hx : x.natAbs ≤ l) (hy : y.natAbs ≤ m)
    (hz : z.natAbs ≤ n) : (w + x + y + z).natAbs ≤ k + l + m + n :=
  calc (w + x + y + z).natAbs ≤ (w + x + y).natAbs + z.natAbs := Int.natAbs_add_le _ _
    _ ≤ (w + x).natAbs + y.natAbs + z.natAbs := by gcongr; exact Int.natAbs_add_le _ _
    _ ≤ w.natAbs + x.natAbs + y.natAbs + z.natAbs := by gcongr; exact Int.natAbs_add_le _ _
    _ ≤ k + l + m + n := by gcongr

/-- The tip lies within the sum that the reach check bounds (R35, R45). -/
theorem tipOf_natAbs_le_reachSum (g : Geometry) (t boom stick bucket : Int) :
    (tipOf g t boom stick bucket).1.natAbs ≤ reachSum g ∧ (tipOf g t boom stick bucket).2.natAbs ≤ reachSum g := by
  obtain ⟨hf, hf'⟩ := footPin_natAbs_le g t
  obtain ⟨hb, hb'⟩ := memberTerm_natAbs_le g.lb boom
  obtain ⟨hs, hs'⟩ := memberTerm_natAbs_le g.ls stick
  obtain ⟨hk, hk'⟩ := memberTerm_natAbs_le g.lk bucket
  exact ⟨natAbs_add_four_le hf hb hs hk, natAbs_add_four_le hf' hb' hs' hk'⟩

theorem reachSum_le_of_geometryValid {g : Geometry} (h : geometryValid g = true) : reachSum g ≤ 30000 := by
  simp only [geometryValid, decide_eq_true_eq] at h
  omega

/-- Settles O30: each stage by its bound, the tip by the reach check of the record. -/
theorem poseStagesStayInRange : Obligations.PoseStagesStayInRange := by
  refine ⟨round14_spec, fun m v => round14_natAbs_le, fun a pitch roll hp hr => ?_, fun g t => ?_, fun g t boom stick bucket => ?_⟩
  · exact ⟨rfl, boomPlaneTilt_natAbs_le a hp hr, boomPlaneTilt_zero pitch roll, boomPlaneTilt_rightAngle pitch roll⟩
  · exact ⟨rfl, footPin_zero g, footPin_natAbs_le g t⟩
  · obtain ⟨h, h'⟩ := tipOf_natAbs_le_reachSum g t boom stick bucket
    exact ⟨rfl, fun hv => ⟨h.trans (reachSum_le_of_geometryValid hv), h'.trans (reachSum_le_of_geometryValid hv)⟩⟩

/-! ## GEOMETRY GET (R37) -/

/-- Settles O32: the command passes the common checks, and its owner changes nothing and answers the record's bytes. -/
theorem geometryGetReturnsRecord : Obligations.GeometryGetReturnsRecord := by
  intro tag s h
  have ⟨⟨_, _, hslot, _⟩, _⟩ := h
  have htaken : exec (.geometryGet tag []) s =
      .next (placeReply (replyTo 0x11 tag (answerDone (geometryBytes s.ps.geometry))) (takeFrame s)) :=
    interpret_allowed (owner := geometryGetOwner) h rfl
  rw [htaken, placeReply_answered _ rfl hslot, replyTo_eq]
  rfl

end Sys2Proof.Machine

/-! PROOFS. The sector, the reach band and the height band of a zone (R58), and whether a KEEP_OUT zone applies (R80). -/

namespace Sys2Proof.Machine

/-! ## The sector (R58) -/

theorem inSector_iff (z : ZoneRecord) (a : Angle) :
    z.inSector a = true ↔ z.extent = 0 ∨ (a - z.start).toNat < z.extent := by
  simp [ZoneRecord.inSector]

theorem inSector_eq_false_iff (z : ZoneRecord) (a : Angle) :
    z.inSector a = false ↔ z.extent ≠ 0 ∧ z.extent ≤ (a - z.start).toNat := by
  rw [Bool.eq_false_iff, ne_eq, inSector_iff, not_or, not_lt]

/-- The start angle is at distance 0 from itself, which any sector that is not the full circle holds. -/
theorem inSector_start (z : ZoneRecord) : z.inSector z.start = true := by
  rw [inSector_iff, BitVec.sub_self, BitVec.toNat_zero]
  exact Nat.eq_zero_or_pos z.extent

/-- The end angle lies e − 1 from the start: nothing wraps, since 1 ≤ e ≤ 65 536. -/
theorem toNat_endAngle_sub_start {z : ZoneRecord} (hpos : 0 < z.extent) (hle : z.extent ≤ 65536) :
    (z.endAngle - z.start).toNat = z.extent - 1 := by
  have hsub : z.endAngle - z.start = BitVec.ofNat 16 z.extent - BitVec.ofNat 16 1 := by
    rw [ZoneRecord.endAngle]; bv_omega
  rw [hsub, BitVec.toNat_sub, BitVec.toNat_ofNat, BitVec.toNat_ofNat]
  omega

theorem inSector_endAngle {z : ZoneRecord} (hle : z.extent ≤ 65536) : z.inSector z.endAngle = true := by
  rw [inSector_iff]
  rcases Nat.eq_zero_or_pos z.extent with hzero | hpos
  · exact .inl hzero
  · exact .inr (by rw [toNat_endAngle_sub_start hpos hle]; exact Nat.sub_one_lt_of_lt hpos)

/-- The one angle at distance 65 535 from the start is the angle before it. -/
theorem le_toNat_sub_iff (a s : Angle) : 65535 ≤ (a - s).toNat ↔ a = s - 1 := by
  bv_omega

theorem inSector_eq_false_iff_of_extent_max {z : ZoneRecord} (h : z.extent = 65535) (a : Angle) :
    z.inSector a = false ↔ a = z.start - 1 := by
  rw [inSector_eq_false_iff, h, le_toNat_sub_iff]
  exact and_iff_right (by decide)

/-! ## The bands (R58, R80) -/

theorem inReachBand_iff (z : ZoneRecord) (r : Int) : z.inReachBand r = true ↔ 0 ≤ r ∧ z.rmin ≤ r ∧ r ≤ z.rmax :=
  decide_eq_true_iff

/-- The Slew Limiter's test decides whether a zone applies, for each kind (R80). -/
theorem zoneApplies_iff (z : ZoneRecord) (p : Pose) : zoneApplies z p = true ↔ ZoneApplies z p := by
  unfold zoneApplies ZoneApplies
  cases z.kind with
  | keepIn | truckBay => simp
  | keepOut | ceiling => simp only [Bool.or_eq_true, Bool.and_eq_true, beq_iff_eq, decide_eq_true_eq]

/-- With the pose not INVALID, a KEEP_OUT zone applies when the tip is in its reach band and its widened height band (R80). -/
theorem zoneApplies_keepOut_iff {z : ZoneRecord} (hkind : z.kind = .keepOut) {p : Pose} (hvalid : p.quality ≠ .invalid) :
    zoneApplies z p = true ↔
      z.inReachBand p.reach = true ∧ z.hmin - z.heightMargin ≤ p.height ∧ p.height ≤ z.hmax + z.heightMargin := by
  rw [zoneApplies_iff, ZoneApplies, hkind]
  exact or_iff_right hvalid

/-- Settles O35: the distance of each angle from the start decides the sector, and each band is its two inequalities. -/
theorem sectorHoldsItsAngles : Obligations.SectorHoldsItsAngles := by
  intro z a r hle
  have hend : z.inSector z.endAngle = true := inSector_endAngle (by omega)
  refine ⟨inSector_iff z a, inSector_start z, hend, fun hmax => inSector_eq_false_iff_of_extent_max hmax a,
    inReachBand_iff z r, fun hkind p hvalid => ?_⟩
  rw [zoneApplies_keepOut_iff hkind hvalid, inReachBand_iff]

end Sys2Proof.Machine

/-! PROOFS. The reach band and where it is taken (R97, R100, R102), and the soft errors of a calibration run (R112 to R114). -/

namespace Sys2Proof.Machine

/-! ## The reach band (R97) -/

/-- The band is the clamped floored quotient. -/
theorem reachBand_val (g : Geometry) (r : Int) :
    ((reachBand g r).val : Int) = max 0 (min 7 ((r - g.bandOrigin).fdiv g.bandWidth)) := by
  rw [Int.fdiv_eq_ediv_of_nonneg _ (Int.natCast_nonneg _)]
  exact Int.toNat_of_nonneg (le_max_left ..)

/-- Band 0 holds every reach below the start of band 1, a negative quotient too. -/
theorem reachBand_eq_zero {g : Geometry} {r : Int} (hw : 0 < g.bandWidth) (h : r < g.bandOrigin + g.bandWidth) :
    reachBand g r = 0 := by
  have hquot : (r - g.bandOrigin).fdiv g.bandWidth < 1 := by
    rw [Int.fdiv_eq_ediv_of_nonneg _ (Int.natCast_nonneg _), Int.ediv_lt_iff_lt_mul (by exact_mod_cast hw)]
    omega
  have hval := reachBand_val g r
  apply Fin.ext
  rw [Fin.val_zero]
  omega

/-- Band 7 holds every reach from its start on. -/
theorem reachBand_eq_seven {g : Geometry} {r : Int} (hw : 0 < g.bandWidth) (h : g.bandOrigin + 7 * g.bandWidth ≤ r) :
    reachBand g r = 7 := by
  have hquot : 7 ≤ (r - g.bandOrigin).fdiv g.bandWidth := by
    rw [Int.fdiv_eq_ediv_of_nonneg _ (Int.natCast_nonneg _), Int.le_ediv_iff_mul_le (by exact_mod_cast hw)]
    omega
  have hval := reachBand_val g r
  apply Fin.ext
  change (reachBand g r).val = 7
  omega

/-- The load test: an active run waives the boom rate and the force (R100). -/
theorem loadTest_iff (s : State) (p : Pose) :
    loadTest s p = true ↔ s.ct.settings.curlClosed ≤ p.curl ∧
      (s.ct.run = none → (s.ct.settings.boomRise : Int) ≤ p.boomRate ∧
        ∃ f ∈ s.ct.force, (s.ct.settings.minLoadForce : Int) ≤ f - s.ct.fempty[reachBand s.ps.geometry p.reach]) := by
  unfold loadTest
  cases s.ct.run with
  | some r => simp
  | none => cases s.ct.force <;> simp

/-- Settles O44: the quotient gives each band, and the window and the force test take it at the pose's reach. -/
theorem reachBandIsFlooredQuotient : Obligations.ReachBandIsFlooredQuotient := by
  intro g r hw
  have hdefault : 0 < Geometry.default.bandWidth := by decide
  refine ⟨reachBand_val g r, fun h => reachBand_eq_zero hw (by omega), fun h => reachBand_eq_zero hdefault h,
    fun h => reachBand_eq_seven hdefault h, by decide, fun s p => ⟨rfl, loadTest_iff s p⟩⟩

/-! ## What the waiting pressure samples leave of the Cycle Tracker (R96, R103, R111) -/

/-- A force taken changes the latest force, the window and the step alone. -/
theorem forceTaken_changes (f : Int) (ct : Ct) :
    ∃ window step, forceTaken f ct = { ct with force := some f, window := window, step := step } := by
  unfold forceTaken
  split
  · exact ⟨ct.window, ct.step, rfl⟩
  · simp only []
    split_ifs
    · exact ⟨ct.window, ct.step, rfl⟩
    · exact ⟨_, ct.step, rfl⟩
    · exact ⟨_, _, rfl⟩
    · exact ⟨_, ct.step, rfl⟩

/-- Whether or not a run is active, the samples taken change the latest force, the window and the step alone. -/
theorem pressureTaken_changes (g : Geometry) (ct : Ct) (fifo : List Sample) :
    ∃ force window step, (pressureTaken g ct fifo).1 = { ct with force := force, window := window, step := step } := by
  induction fifo generalizing ct with
  | nil => exact ⟨ct.force, ct.window, ct.step, rfl⟩
  | cons x rest ih =>
    unfold pressureTaken
    split_ifs
    · exact ⟨ct.force, ct.window, ct.step, rfl⟩
    · exact ih ct
    · obtain ⟨window, step, e⟩ := forceTaken_changes (x.a * g.ah - x.b * g.ar) ct
      obtain ⟨force, window', step', h⟩ := ih (forceTaken (x.a * g.ah - x.b * g.ar) ct)
      exact ⟨force, window', step', by rw [h, e]⟩

/-- The Cycle Tracker after the samples that waited: what it stood at, but for the latest force, the window and the step. -/
theorem withPressureTaken_ct (ct : Ct) (s : State) :
    ∃ force window step, (withPressureTaken ct s).ct = { ct with force := force, window := window, step := step } :=
  pressureTaken_changes s.ps.geometry ct s.scu[(5 : Fin 6)].fifo

/-- The Cycle Tracker after the end of a run: as the run leaves it, but for the latest force and the window (R117). -/
theorem withRunEnded_ct (r : Run) (outcome : RunOutcome) (ct : Ct) (s : State) :
    ∃ force window, (withRunEnded r outcome ct s).ct = { endedRun ct with force := force, window := window } := by
  obtain ⟨force, window, h⟩ := pressureTaken_noRun s.ps.geometry (ct := endedRun ct) s.scu[(5 : Fin 6)].fifo rfl rfl
  exact ⟨force, window, congrArg Prod.fst h⟩

/-- The end of a run writes no table entry of its own. -/
theorem withRunEnded_tables (r : Run) (outcome : RunOutcome) (ct : Ct) (s : State) :
    (withRunEnded r outcome ct s).ct.fempty = ct.fempty ∧ (withRunEnded r outcome ct s).ct.gain = ct.gain := by
  obtain ⟨force, window, h⟩ := withRunEnded_ct r outcome ct s
  rw [h]; exact ⟨rfl, rfl⟩

/-- After the end of a run there is no run, the step is READY and no window waits (R117). -/
theorem withRunEnded_ready (r : Run) (outcome : RunOutcome) (ct : Ct) (s : State) :
    (withRunEnded r outcome ct s).ct.run = none ∧ (withRunEnded r outcome ct s).ct.step = none ∧
      (withRunEnded r outcome ct s).ct.waiting = [] := by
  obtain ⟨force, window, h⟩ := withRunEnded_ct r outcome ct s
  rw [h]; exact ⟨rfl, rfl, rfl⟩

/-! ## The soft error (R114) -/

/-- The run once a soft error is counted. -/
def Run.counted (r : Run) : Run := { r with soft := r.soft + 1 }

/-- With stop-on-soft a soft error ends the run. -/
theorem softError_stop (r : Run) {s : State} (h : s.ct.settings.stopOnSoft = true) :
    softError r s = withRunEnded (Run.counted r) (.failed .softStop) s.ct s := by
  simp [softError, h, endRun_eq, Run.counted]

/-- The seventh soft error ends the run. -/
theorem softError_limit {r : Run} {s : State} (h : s.ct.settings.stopOnSoft = false) (h7 : 7 ≤ r.soft + 1) :
    softError r s = withRunEnded (Run.counted r) (.failed .softLimit) s.ct s := by
  simp [softError, h, h7, endRun_eq, Run.counted]

/-- Before the limit the run goes on with the new count. -/
theorem softError_goes_on {r : Run} {s : State} (h : s.ct.settings.stopOnSoft = false) (h7 : r.soft + 1 < 7) :
    softError r s = nextStep { s with ct := { s.ct with run := some (Run.counted r) } } := by
  simp [softError, h, Nat.not_le.mpr h7, onCt, Run.counted]

/-- The next step of a run keeps the tables. -/
theorem nextStep_tables (s : State) : (nextStep s).ct.fempty = s.ct.fempty ∧ (nextStep s).ct.gain = s.ct.gain := by
  cases h : s.ct.waiting with
  | nil =>
    obtain ⟨force, window, step, hct⟩ := withPressureTaken_ct { s.ct with step := none } s
    rw [nextStep_nil h, hct]; exact ⟨rfl, rfl⟩
  | cons w rest => rw [nextStep_cons h]; exact ⟨rfl, rfl⟩

/-- A soft error writes no table entry. -/
theorem softError_tables (r : Run) (s : State) :
    (softError r s).ct.fempty = s.ct.fempty ∧ (softError r s).ct.gain = s.ct.gain := by
  cases hstop : s.ct.settings.stopOnSoft with
  | true => rw [softError_stop r hstop]; exact withRunEnded_tables ..
  | false =>
    by_cases h7 : r.soft + 1 < 7
    · rw [softError_goes_on hstop h7]; exact nextStep_tables _
    · rw [softError_limit hstop (Nat.not_lt.mp h7)]; exact withRunEnded_tables ..

/-! ## The judgement that finds a soft error (R111 to R113) -/

/-- The window is a soft error of the run's kind: in a band of the set and not GOOD for EMPTY; not GOOD with a lifted force above 0
for GAIN. -/
def IsSoftError (kind : RunKind) (w : Window) : Prop :=
  match kind with
  | .empty bands _ => bands.getLsbD w.band.val = true ∧ Window.emptyQuality w ≠ .good
  | .gain _ => ∀ x ∈ w.result, x.quality = .good → ∀ d ∈ x.lifted, d ≤ 0

theorem judgeEmpty_soft (r : Run) {bands : Byte} (collected : Vector (List Int) 8) {w : Window} (s : State)
    (hband : bands.getLsbD w.band.val = true) (hq : Window.emptyQuality w ≠ .good) :
    judgeEmpty r bands collected w s = softError r s := by
  simp [judgeEmpty, inBands, hband, hq]

theorem judgeGain_soft (r : Run) (load : Nat) {w : Window} (s : State)
    (h : ∀ x ∈ w.result, x.quality = .good → ∀ d ∈ x.lifted, d ≤ 0) :
    judgeGain r load w s = softError r s := by
  unfold judgeGain
  split
  · next hresult => exact if_pos (h _ hresult rfl _ rfl)
  · rfl

/-- The judgement of such a window is the soft error, for either kind. -/
theorem judgeStep_soft {r : Run} {w : Window} (s : State) (h : IsSoftError r.kind w) : judgeStep r w s = softError r s := by
  obtain ⟨kind, soft⟩ := r
  cases kind with
  | empty bands collected => exact judgeEmpty_soft _ collected s h.1 h.2
  | gain load => exact judgeGain_soft _ load s h

/-- The end of a calibration step judges its window (R111). -/
theorem exec_calibrationStepEnd {s : State} {r : Run} {w : Window} (hpower : s.powered = true) (hrun : s.ct.run = some r)
    (hstep : s.ct.step = some w) : exec .calibrationStepEnd s = .next (judgeStep r w s) := by
  change execCalibrationStepEnd s = _
  simp [execCalibrationStepEnd, hrun, hstep, whenDue, hpower]

/-- Settles O42: the judgement is the soft error, which by the stop setting and the count ends the run or begins its next step. -/
theorem softErrorsEndRun : Obligations.SoftErrorsEndRun := by
  intro r w s hpower hrun hstep hsoft
  have hjudged : judgeStep r w s = softError r s := judgeStep_soft s hsoft
  obtain ⟨hfempty, hgain⟩ := softError_tables r s
  refine ⟨softError r s, by rw [exec_calibrationStepEnd hpower hrun hstep, hjudged], hfempty, hgain, fun hstop => ?_,
    fun hstop h7 => ?_, fun hstop h7 => ?_⟩
  · rw [softError_stop r hstop]; exact ⟨rfl, withRunEnded_ready ..⟩
  · rw [softError_limit hstop h7]; exact ⟨rfl, withRunEnded_ready ..⟩
  · rw [softError_goes_on hstop h7]
    refine ⟨fun next rest hwaiting => nextStep_cons hwaiting, fun hwaiting => ?_⟩
    obtain ⟨force, window, step, hct⟩ :=
      withPressureTaken_ct { s.ct with run := some (Run.counted r), step := none } s
    have hnext := nextStep_nil (s := { s with ct := { s.ct with run := some (Run.counted r) } }) hwaiting
    exact ⟨hnext, by rw [hnext]; exact congrArg Ct.run hct⟩

end Sys2Proof.Machine

/-! PROOFS. A complete host frame: its CRC, its count and the inbox (R168, R170, R171). -/

namespace Sys2Proof.Machine

/-! ## The bytes of a complete frame (R168) -/

/-- The bytes of a host frame that its CRC covers (R168): length, kind, tag and body. -/
def coveredBytes (kind tag : Byte) (body : List Byte) : List Byte :=
  BitVec.ofNat 8 (body.length + 2) :: kind :: tag :: body

@[simp] theorem coveredBytes_length (kind tag : Byte) (body : List Byte) :
    (coveredBytes kind tag body).length = body.length + 3 := rfl

/-- The length character of a body that fits reads as the count of kind, tag and body. -/
theorem u8_length_of_frame {kind tag : Byte} {body : List Byte} (hbody : body.length ≤ 240) (rest : List Byte) :
    u8 (0xC5 :: coveredBytes kind tag body ++ rest) 1 = body.length + 2 := by
  change (BitVec.ofNat 8 (body.length + 2)).toNat = _
  rw [BitVec.toNat_ofNat, Nat.mod_eq_of_lt (by omega)]

/-- With one byte of the CRC collected, the next character makes the frame whole. -/
theorem awaitsLast_of_frame {kind tag : Byte} {body : List Byte} (hbody : body.length ≤ 240) (hi : Byte) :
    awaitsLast (0xC5 :: coveredBytes kind tag body ++ [hi]) = true := by
  rw [awaitsLast, u8_length_of_frame hbody]
  simp

/-- A whole frame carries its kind, its tag and its body. -/
theorem frameOf_frame {kind tag : Byte} {body : List Byte} (hbody : body.length ≤ 240) (rest : List Byte) :
    frameOf (0xC5 :: coveredBytes kind tag body ++ rest) = { kind := kind, tag := tag, body := body } := by
  rw [frameOf, u8_length_of_frame hbody]
  simp [coveredBytes]

/-- The two characters after the covered bytes are the CRC received, the high byte first. -/
theorem u16_crc_of_frame (kind tag : Byte) (body : List Byte) (hi lo : Byte) :
    u16 (0xC5 :: coveredBytes kind tag body ++ [hi, lo]) (body.length + 4) = (hi ++ lo).toNat := by
  have hhi : u8 (0xC5 :: coveredBytes kind tag body ++ [hi, lo]) (body.length + 4) = hi.toNat := by
    simp [u8, coveredBytes]
  have hlo : u8 (0xC5 :: coveredBytes kind tag body ++ [hi, lo]) (body.length + 5) = lo.toNat := by
    simp [u8, coveredBytes]
  rw [u16, hhi, hlo, BitVec.toNat_append, ← Nat.shiftLeft_add_eq_or_of_lt lo.isLt, Nat.shiftLeft_eq]

/-- The check of a whole frame compares the CRC received with that of the covered bytes (R170). -/
theorem frameCrcAgrees_frame_iff {kind tag : Byte} {body : List Byte} (hbody : body.length ≤ 240) (hi lo : Byte) :
    frameCrcAgrees (0xC5 :: coveredBytes kind tag body ++ [hi, lo]) = true ↔
      hi ++ lo = crc16 (coveredBytes kind tag body) := by
  have hcovered : ((0xC5 :: coveredBytes kind tag body ++ [hi, lo]).drop 1).take (body.length + 3) =
      coveredBytes kind tag body := List.take_left' rfl
  rw [frameCrcAgrees, u8_length_of_frame hbody, hcovered, u16_crc_of_frame, beq_iff_eq, BitVec.toNat_inj]
  exact eq_comm

/-! ## What becomes of a complete frame (R170, R171) -/

/-- The last character of a frame that comes in time has the frame taken (R170). -/
theorem exec_hostFrameArrival {s : State} {bytes : List Byte} (char : Byte) (hpower : s.powered = true)
    (hcollecting : s.lc.assembler = .collecting bytes) (hintime : (s.lc.time - s.lc.lastChar).toNat ≤ 20)
    (hlast : awaitsLast bytes = true) :
    exec (.hostFrameArrival char) s = .next (takeHostFrame (bytes ++ [char]) s) := by
  have hlate : Lc.late s.lc = false := decide_eq_false (Nat.not_lt.mpr hintime)
  change execHostFrameArrival char s = _
  simp [execHostFrameArrival, hcollecting, whenDue, hpower, hlate, hlast]

/-- The Link Controller once a frame is whole: hunting, from the time of its last character. -/
def huntingNow (lc : Lc) : Lc := { lc with assembler := .hunting, lastChar := lc.time }

/-- A frame whose CRC differs is counted under CHECK and discarded (R170). -/
theorem takeHostFrame_bad {bytes : List Byte} (h : ¬ frameCrcAgrees bytes = true) (s : State) :
    takeHostFrame bytes s =
      onLinkStats (fun l => { l with check := satAdd max16 l.check 1 }) { s with lc := huntingNow s.lc } :=
  if_neg h

/-- The state in which a good frame is offered to the inbox: hunting, the frame counted under RECEIVED (R170). -/
def goodFrameCounted (s : State) : State :=
  onLinkStats (fun l => { l with received := satAdd max16 l.received 1 }) { s with lc := huntingNow s.lc }

/-- A frame whose CRC agrees is counted under RECEIVED and offered to the inbox (R170, R171). -/
theorem takeHostFrame_good {bytes : List Byte} (h : frameCrcAgrees bytes = true) (s : State) :
    takeHostFrame bytes s = offerFrame (frameOf bytes) (goodFrameCounted s) :=
  if_pos h

/-- With room in the inbox a good frame becomes its newest (R171). -/
theorem offerFrame_room (f : CommandFrame) (s : State) (h : s.lc.inbox.length < 4) :
    offerFrame f s = { s with lc := { s.lc with inbox := s.lc.inbox ++ [f] } } :=
  if_pos h

/-- With four frames in the inbox a good frame is counted under INBOX FULL and discarded (R171). -/
theorem offerFrame_full (f : CommandFrame) (s : State) (h : 4 ≤ s.lc.inbox.length) :
    offerFrame f s = onLinkStats (fun l => { l with inboxFull := satAdd max16 l.inboxFull 1 }) s :=
  if_neg (Nat.not_lt.mpr h)

/-- Settles O58: the bytes collected with the last character are a whole frame; its CRC and the room in the inbox decide the
case. -/
theorem hostFrameEntersInbox : Obligations.HostFrameEntersInbox := by
  intro kind tag hi lo body s hpower hbody covered hcollecting hintime hunting
  have hagrees : frameCrcAgrees (0xC5 :: coveredBytes kind tag body ++ [hi, lo]) = true ↔ hi ++ lo = crc16 covered :=
    frameCrcAgrees_frame_iff hbody hi lo
  have htaken : exec (.hostFrameArrival lo) s =
      .next (takeHostFrame (0xC5 :: coveredBytes kind tag body ++ [hi, lo]) s) := by
    rw [exec_hostFrameArrival lo hpower hcollecting hintime (awaitsLast_of_frame hbody hi), List.append_assoc]
    rfl
  rw [htaken]
  refine ⟨fun hcrc => ?differs, fun hcrc hroom => ?enters, fun hcrc hfull => ?discarded⟩
  case differs => rw [takeHostFrame_bad (mt hagrees.mp hcrc)]; rfl
  case enters =>
    rw [takeHostFrame_good (hagrees.mpr hcrc), frameOf_frame hbody, offerFrame_room _ (goodFrameCounted s) hroom]; rfl
  case discarded => rw [takeHostFrame_good (hagrees.mpr hcrc), offerFrame_full _ (goodFrameCounted s) hfull]; rfl

end Sys2Proof.Machine

/-! PROOFS. What a step can do: the shape of every command's answer, and the blocks each command may change. -/

namespace Sys2Proof.Machine

/-! ## The shapes of an answer -/

/-- A command that waits for a condition answers the state it found, or the condition holds and it has its effect. -/
theorem eq_or_of_whenDue {due : Bool} {f : State → State} {s t : State} (h : whenDue due s f = .next t) :
    t = s ∨ (due = true ∧ t = f s) := by
  unfold whenDue at h
  cases due with
  | false => exact .inl (by simpa using h.symm)
  | true => exact .inr ⟨rfl, by simpa using h.symm⟩

theorem whenDue_next (due : Bool) (s : State) (f : State → State) : ∃ t, whenDue due s f = .next t := ⟨_, rfl⟩

/-- The owner that a kind of command is interpreted by (spec 11 section 11.5). -/
def ownerOfKind (kind : Byte) : Owner :=
  match kind.toNat with
  | 0x01 => getStatusOwner
  | 0x02 => restartOwner
  | 0x03 => commitOwner
  | 0x08 => channelSetOwner
  | 0x09 => channelStatusOwner
  | 0x0A => channelRestartOwner
  | 0x10 => geometrySetOwner
  | 0x11 => geometryGetOwner
  | 0x12 => gradeSetOwner
  | 0x13 => tipSubscribeOwner
  | 0x18 => zoneWriteOwner
  | 0x19 => zoneClearOwner
  | 0x1A => zoneReadOwner
  | 0x1B => zoneSuspendOwner
  | 0x1C => zoneResumeOwner
  | 0x1D => reanchorOwner
  | 0x1E => slewSettingsOwner
  | 0x20 => cycleSettingsOwner
  | 0x21 => calibrateEmptyOwner
  | 0x22 => calibrateGainOwner
  | 0x23 => calibrateCancelOwner
  | 0x24 => truckClassOwner
  | 0x25 => loadNextOwner
  | 0x26 => loadCloseOwner
  | 0x27 => loadReadOwner
  | 0x28 => engineReportOwner
  | 0x29 => economyOwner
  | 0x2A => countersOwner
  | 0x30 => serviceItemOwner
  | 0x31 => serviceReadOwner
  | 0x32 => serviceAckOwner
  | 0x33 => serviceDoneOwner
  | 0x34 => serviceSuspendOwner
  | _ => fun _ s => (s, answerRefused .unknownKind)

/-- Every host command is its frame's taking, with the level, the lengths and the owner of its kind (R172, spec 11
section 11.5). -/
theorem exec_hostCommand {c : Instr} {f : CommandFrame} (h : hostFrameOf c = some f) (s : State) :
    exec c s = interpret f.kind (levelOfKind f.kind) (lengthOfKind f.kind) (ownerOfKind f.kind) f.tag f.body s := by
  cases c <;> simp only [hostFrameOf, reduceCtorEq, Option.some.injEq] at h <;> subst h <;> rfl

/-- What a host command leaves before its reply: the state it found; or, with its frame taken, that state or what its owner makes
of it once the common checks are passed (R172). -/
theorem interpret_cases {kind tag : Byte} {body : List Byte} {level : Authority} {ok : List Byte → Bool} {owner : Owner}
    {s t : State} (h : interpret kind level ok owner tag body s = .next t) :
    t = s ∨ CommandReady kind tag body s ∧ ∃ r, t = placeReply r (takeFrame s) ∨
      (ok body = true ∧ (kind ≠ 0x01 → s.rs.restartPending = false) ∧ level.rank ≤ s.mlu.authority.rank ∧
        t = placeReply r (owner body (takeFrame s)).1) := by
  rcases eq_or_of_whenDue h with rfl | ⟨ready, rfl⟩
  · exact .inl rfl
  · refine .inr ⟨(takeable_iff ..).1 ready,
      replyTo kind tag (checkedOwner kind level ok owner body (takeFrame s)).2, ?_⟩
    unfold runFrame checkedOwner
    simp only []
    split_ifs with hl hb ha
    · exact .inl rfl
    · exact .inl rfl
    · exact .inl rfl
    · refine .inr ⟨by simpa using hl, fun hk => ?_, Nat.not_lt.mp ha, rfl⟩
      simp only [takeFrame_rs, Bool.and_eq_true, bne_iff_ne, ne_eq, not_and_or, Bool.not_eq_true] at hb
      exact hb.resolve_right (fun e => e hk)

/-- An owner that reads fields gives back the state it was given, or acts on the fields it read. -/
theorem withFields_cases {α : Type} (read : List Byte → Option α) (act : α → State → State × Answer) (body : List Byte)
    (s : State) : (withFields read act body s).1 = s ∨ ∃ a, read body = some a ∧
      (withFields read act body s).1 = (act a s).1 := by
  unfold withFields
  cases h : read body with
  | none => exact .inl rfl
  | some a => exact .inr ⟨a, rfl, rfl⟩

/-! ## The blocks a command may change -/

/-- `t` differs from `s` in the Link Controller and the blocks named alone. -/
structure Touches (b : Blocks) (s t : State) : Prop where
  scu     : b.scu = false → t.scu = s.scu
  mlu     : b.mlu = false → t.mlu = s.mlu
  ps      : b.ps = false → t.ps = s.ps
  zt      : b.zt = false → t.zt = s.zt
  sl      : b.sl = false → t.sl = s.sl
  ct      : b.ct = false → t.ct = s.ct
  lr      : b.lr = false → t.lr = s.lr
  em      : b.em = false → t.em = s.em
  st      : b.st = false → t.st = s.st
  rs      : b.rs = false → t.rs = s.rs
  powered : t.powered = s.powered
  pending : t.pending = s.pending

theorem Touches.refl (b : Blocks) (s : State) : Touches b s s := by constructor <;> simp

theorem Touches.trans {b : Blocks} {s t u : State} (h : Touches b s t) (k : Touches b t u) : Touches b s u where
  scu e := (k.scu e).trans (h.scu e)
  mlu e := (k.mlu e).trans (h.mlu e)
  ps e := (k.ps e).trans (h.ps e)
  zt e := (k.zt e).trans (h.zt e)
  sl e := (k.sl e).trans (h.sl e)
  ct e := (k.ct e).trans (h.ct e)
  lr e := (k.lr e).trans (h.lr e)
  em e := (k.em e).trans (h.em e)
  st e := (k.st e).trans (h.st e)
  rs e := (k.rs e).trans (h.rs e)
  powered := k.powered.trans h.powered
  pending := k.pending.trans h.pending

theorem Frame.touches {b : Blocks} {s t : State} (h : Frame b s t) : Touches b s t where
  scu := h.scu
  mlu := h.mlu
  ps := h.ps
  zt := h.zt
  sl := h.sl
  ct := h.ct
  lr := h.lr
  em := h.em
  st := h.st
  rs := h.rs
  powered := h.powered
  pending := h.pending

theorem Touches.mono {a b : Blocks} {s t : State} (h : Touches a s t) (w : Blocks.within a b = true) : Touches b s t := by
  simp only [Blocks.within, Bool.and_eq_true, Bool.or_eq_true, Bool.not_eq_true'] at w
  obtain ⟨⟨⟨⟨⟨⟨⟨⟨⟨⟨w1, w2⟩, w3⟩, w4⟩, w5⟩, w6⟩, w7⟩, w8⟩, w9⟩, w10⟩, -⟩ := w
  constructor
  · exact fun e => h.scu (by simp_all)
  · exact fun e => h.mlu (by simp_all)
  · exact fun e => h.ps (by simp_all)
  · exact fun e => h.zt (by simp_all)
  · exact fun e => h.sl (by simp_all)
  · exact fun e => h.ct (by simp_all)
  · exact fun e => h.lr (by simp_all)
  · exact fun e => h.em (by simp_all)
  · exact fun e => h.st (by simp_all)
  · exact fun e => h.rs (by simp_all)
  · exact h.powered
  · exact h.pending

/-- An operation whose frame lies within the blocks named. -/
theorem Frame.touchesWithin {a b : Blocks} {s t : State} (h : Frame a s t) (w : Blocks.within a b = true) : Touches b s t :=
  (h.mono w).touches

theorem takeFrame_touches (b : Blocks) (s : State) : Touches b s (takeFrame s) := by constructor <;> simp

theorem placeReply_touches (b : Blocks) (r : Reply) (s : State) : Touches b s (placeReply r s) := by constructor <;> simp

/-- The blocks that a command may change, beside the Link Controller; a reset and the supply may change all. -/
def blocksOf : Instr → Blocks
  | .sensorFrameArrival .. =>
    { scu := true, mlu := true, ps := true, zt := true, sl := true, ct := true, em := true, st := true, rs := true
      choices := true }
  | .sensorFramingError .. | .sensorCharacter .. | .breakDetectorSample .. | .channelStatus .. => { scu := true }
  | .breakDetected .. | .breakEnd .. | .staleTimerExpiry .. | .silentTimerExpiry .. | .channelRestart .. =>
    { scu := true, mlu := true, ps := true, zt := true, sl := true, ct := true, choices := true }
  | .channelSet .. =>
    { scu := true, mlu := true, ps := true, zt := true, sl := true, ct := true, rs := true, choices := true }
  | .inputLevelChange .. => { mlu := true, zt := true, sl := true, ct := true, lr := true, em := true, choices := true }
  | .alarmCadence | .inputReading .. => { mlu := true }
  | .poseCompletion =>
    { scu := true, mlu := true, ps := true, zt := true, sl := true, ct := true, lr := true, em := true, st := true
      rs := true, choices := true }
  | .calibrationStepEnd => { scu := true, ct := true, rs := true }
  | .geometrySet .. => { scu := true, ps := true, ct := true, rs := true, choices := true }
  | .gradeSet .. => { scu := true, ps := true }
  | .tipSubscribe .. => { ps := true }
  | .zoneWrite .. | .zoneClear .. | .reanchor .. | .slewSettings .. =>
    { mlu := true, zt := true, sl := true, rs := true, choices := true }
  | .zoneRead .. => { zt := true }
  | .zoneSuspend .. | .zoneResume .. => { mlu := true, zt := true, sl := true, choices := true }
  | .cycleSettings .. => { scu := true, ct := true, rs := true }
  | .calibrateEmpty .. | .calibrateGain .. => { ct := true }
  | .calibrateCancel .. => { scu := true, ct := true }
  | .truckClassSet .. => { lr := true, rs := true }
  | .loadNext .. | .loadClose .. => { lr := true }
  | .engineReport .. => { lr := true, em := true, st := true, rs := true, choices := true }
  | .economySet .. | .countersRead .. | .idleTimerExpiry | .shutdownTimerExpiry => { em := true, rs := true }
  | .serviceItemSet .. | .serviceDone .. | .serviceSuspend .. => { em := true, st := true, rs := true }
  | .serviceAck .. => { st := true, rs := true }
  | .commit .. | .restart .. => { rs := true }
  | .commitAttemptEnd .. => { em := true, rs := true, choices := true }
  | .geometryGet .. | .loadRead .. | .serviceRead .. | .getStatus .. | .unknownKind .. | .hostFrameArrival ..
  | .hostFramingError | .hostLengthError .. | .hostGapTimeout .. | .hostCharacter .. | .transmitEnd => {}
  | .restartTakesEffect | .powerOn .. | .powerLoss .. =>
    { scu := true, mlu := true, ps := true, zt := true, sl := true, ct := true, lr := true, em := true, st := true
      rs := true, choices := true }

/-- A reset or a change of the supply. -/
def IsReset : Instr → Prop
  | .restartTakesEffect | .powerOn .. | .powerLoss .. => True
  | _ => False

end Sys2Proof.Machine

namespace Sys2Proof.Machine

/-! ## The frames of the owners -/

/-- What the acting on the fields keeps within some blocks, the owner that reads them does. -/
theorem withFields_frame {α : Type} {b : Blocks} {read : List Byte → Option α} {act : α → State → State × Answer}
    (h : ∀ a s, Frame b s (act a s).1) (body : List Byte) (s : State) : Frame b s (withFields read act body s).1 := by
  rcases withFields_cases read act body s with e | ⟨a, -, e⟩
  · rw [e]; exact Frame.refl _ _
  · rw [e]; exact h a s

/-- A mark that is set where a condition holds. -/
theorem markedIf_frame (p : Prop) [Decidable p] (s : State) : Frame { rs := true } s (if p then markRetained s else s) := by
  split_ifs
  · exact markRetained_frame s
  · exact Frame.refl _ _

theorem commitOwner_frame (body : List Byte) (s : State) : Frame { rs := true } s (commitOwner body s).1 := by
  unfold commitOwner; split_ifs
  · exact Frame.refl _ _
  · exact beginCommit_frame _ _

theorem channelSetOwner_frame (body : List Byte) (s : State) :
    Frame { scu := true, mlu := true, ps := true, zt := true, sl := true, ct := true, rs := true, choices := true } s
      (channelSetOwner body s).1 :=
  withFields_frame (fun _ s => ((markedIf_frame _ s).mono rfl).trans ((changeChannel_frame _ _ _).mono rfl)) body s

theorem channelStatusOwner_frame (body : List Byte) (s : State) : Frame { scu := true } s (channelStatusOwner body s).1 := by
  refine withFields_frame (fun ⟨ch, clear⟩ s => ?_) body s
  simp only []
  split_ifs
  · exact onChannel_frame _ _ _
  · exact Frame.refl _ _

theorem channelRestartOwner_frame (body : List Byte) (s : State) :
    Frame { scu := true, mlu := true, ps := true, zt := true, sl := true, ct := true, choices := true } s
      (channelRestartOwner body s).1 := by
  refine withFields_frame (fun a s => ?_) body s
  split_ifs
  · exact changeChannel_frame _ _ _
  · exact Frame.refl _ _

theorem geometrySetOwner_frame (body : List Byte) (s : State) :
    Frame { scu := true, ps := true, ct := true, rs := true, choices := true } s (geometrySetOwner body s).1 := by
  refine withFields_frame (fun g s => ?_) body s
  refine (anyOrder_frame rfl _ s fun f m u => ?_).trans ((requestComputation_frame _).mono rfl)
  have h : f ∈ [replaceGeometry g, hardFail .hardSettings] := by
    split_ifs at m <;> simp at m ⊢ <;> tauto
  simp only [List.mem_cons, List.not_mem_nil, or_false] at h
  rcases h with rfl | rfl
  · exact (replaceGeometry_frame _ _).mono rfl
  · exact (hardFail_frame _ _).mono rfl

theorem gradeSetOwner_frame (body : List Byte) (s : State) : Frame { scu := true, ps := true } s (gradeSetOwner body s).1 :=
  withFields_frame (fun _ s => ((onPs_frame _ s).mono rfl).trans (requestForGrade_frame _)) body s

theorem tipSubscribeOwner_frame (body : List Byte) (s : State) : Frame { ps := true } s (tipSubscribeOwner body s).1 := by
  unfold tipSubscribeOwner; dsimp only; exact onPs_frame _ s

theorem clearCommand_frame (k : Fin 16) (s : State) :
    Frame { mlu := true, zt := true, sl := true, rs := true, choices := true } s (clearCommand k s).1 := by
  unfold clearCommand; split_ifs
  · exact Frame.refl _ _
  · exact clearZone_frame k s

theorem zoneWriteOwner_frame (body : List Byte) (s : State) :
    Frame { mlu := true, zt := true, sl := true, rs := true, choices := true } s (zoneWriteOwner body s).1 := by
  refine withFields_frame (fun ⟨k, z⟩ s => ?_) body s
  cases z with
  | none => exact clearCommand_frame k s
  | some z =>
    simp only []
    split_ifs
    · exact Frame.refl _ _
    · exact Frame.refl _ _
    · exact replaceZone_frame _ _ _

theorem zoneClearOwner_frame (body : List Byte) (s : State) :
    Frame { mlu := true, zt := true, sl := true, rs := true, choices := true } s (zoneClearOwner body s).1 :=
  withFields_frame clearCommand_frame body s

theorem zoneReadOwner_frame (body : List Byte) (s : State) : Frame { zt := true } s (zoneReadOwner body s).1 := by
  refine withFields_frame (fun ⟨k, clear⟩ s => ?_) body s
  simp only []
  split_ifs
  · exact onZone_frame _ _ _
  · exact Frame.refl _ _

theorem zoneSuspendOwner_frame (body : List Byte) (s : State) :
    Frame { mlu := true, zt := true, sl := true, choices := true } s (zoneSuspendOwner body s).1 := by
  refine withFields_frame (fun k s => ?_) body s
  split
  · exact Frame.refl _ _
  · split
    · exact Frame.refl _ _
    · exact Frame.refl _ _
    · exact Frame.refl _ _
    · split_ifs
      · exact Frame.refl _ _
      · exact moveZone_frame _ _ _

theorem zoneResumeOwner_frame (body : List Byte) (s : State) :
    Frame { mlu := true, zt := true, sl := true, choices := true } s (zoneResumeOwner body s).1 := by
  refine withFields_frame (fun k s => ?_) body s
  split
  · exact Frame.refl _ _
  · split
    · exact Frame.refl _ _
    · exact Frame.refl _ _
    all_goals
      split_ifs
      · exact Frame.refl _ _
      · exact moveZone_frame _ _ _

theorem reanchorOwner_frame (body : List Byte) (s : State) :
    Frame { mlu := true, zt := true, sl := true, rs := true, choices := true } s (reanchorOwner body s).1 := by
  unfold reanchorOwner
  split_ifs
  · exact Frame.refl _ _
  · simp only []
    split_ifs
    · exact Frame.refl _ _
    · exact reanchorZones_frame _ _

theorem slewSettingsOwner_frame (body : List Byte) (s : State) :
    Frame { mlu := true, zt := true, sl := true, rs := true, choices := true } s (slewSettingsOwner body s).1 :=
  withFields_frame (fun _ s => ((onSl_frame _ s).mono rfl).trans (((markedIf_frame _ _).mono rfl).trans
    ((evaluateSlew_frame _).mono rfl))) body s

theorem cycleSettingsOwner_frame (body : List Byte) (s : State) :
    Frame { scu := true, ct := true, rs := true } s (cycleSettingsOwner body s).1 := by
  refine withFields_frame (fun op s => ?_) body s
  cases op with
  | read => exact Frame.refl _ _
  | write c => exact ((onCt_frame _ s).mono rfl).trans (((markedIf_frame _ _).mono rfl).trans ((hardFail_frame _ _).mono rfl))

theorem startRun_frame (k : RunKind) (s : State) : Frame { ct := true } s (startRun k s).1 := by
  unfold startRun; split_ifs
  · exact Frame.refl _ _
  · dsimp only; exact onCt_frame _ s

theorem calibrateEmptyOwner_frame (body : List Byte) (s : State) : Frame { ct := true } s (calibrateEmptyOwner body s).1 :=
  withFields_frame (fun _ => startRun_frame _) body s

theorem calibrateGainOwner_frame (body : List Byte) (s : State) : Frame { ct := true } s (calibrateGainOwner body s).1 :=
  withFields_frame (fun _ => startRun_frame _) body s

theorem calibrateCancelOwner_frame (body : List Byte) (s : State) :
    Frame { scu := true, ct := true } s (calibrateCancelOwner body s).1 := by
  unfold calibrateCancelOwner; split
  · exact Frame.refl _ _
  · exact endRun_frame _ _ _

theorem writeClass_frame (i : Fin 16) (c : TruckClass) (s : State) : Frame { lr := true, rs := true } s (writeClass i c s) :=
  ((onLr_frame _ s).mono rfl).trans ((markedIf_frame _ _).mono rfl)

theorem truckClassOwner_frame (body : List Byte) (s : State) :
    Frame { lr := true, rs := true } s (truckClassOwner body s).1 := by
  refine withFields_frame (fun op s => ?_) body s
  cases op with
  | read => exact Frame.refl _ _
  | write a =>
    simp only []
    split_ifs
    · exact Frame.refl _ _
    · exact writeClass_frame _ _ _

theorem loadNextOwner_frame (body : List Byte) (s : State) : Frame { lr := true } s (loadNextOwner body s).1 := by
  refine withFields_frame (fun ⟨i, flag⟩ s => ?_) body s
  simp only []
  split_ifs
  · exact Frame.refl _ _
  · exact (onLr_frame _ s).trans (reclass_frame _ _)
  · dsimp only; exact onLr_frame _ s

theorem loadCloseOwner_frame (body : List Byte) (s : State) : Frame { lr := true } s (loadCloseOwner body s).1 := by
  unfold loadCloseOwner; split
  · exact Frame.refl _ _
  · exact closeLoad_frame _ _

/-- A reading of a load changes nothing (R130). -/
theorem loadReadOwner_state (body : List Byte) (s : State) : (loadReadOwner body s).1 = s := by
  rcases withFields_cases loadRead? _ body s with e | ⟨a, -, e⟩
  · exact e
  · unfold loadReadOwner; rw [e]; split <;> rfl

theorem engineReportOwner_frame (body : List Byte) (s : State) :
    Frame { lr := true, em := true, st := true, rs := true, choices := true } s (engineReportOwner body s).1 :=
  takeReport_frame _ s

theorem economyOwner_frame (body : List Byte) (s : State) : Frame { em := true, rs := true } s (economyOwner body s).1 := by
  refine withFields_frame (fun op s => ?_) body s
  cases op with
  | read => exact Frame.refl _ _
  | write e => exact writeEconomy_frame e s

theorem clearCounters_frame (s : State) : Frame { em := true, rs := true } s (clearCounters s) :=
  ((onEm_frame _ s).mono rfl).trans ((markedIf_frame _ _).mono rfl)

theorem countersOwner_frame (body : List Byte) (s : State) : Frame { em := true, rs := true } s (countersOwner body s).1 := by
  refine withFields_frame (fun clear s => ?_) body s
  split_ifs
  · exact clearCounters_frame s
  · exact Frame.refl _ _

/-- An entry's new content and the cap it settles. -/
theorem settleReplaced_frame (i : Fin 24) (e : Option ServiceItem) (s : State) :
    Frame { em := true, st := true, rs := true } s (settleCap (replaceItem i e s)) :=
  ((replaceItem_frame i e s).mono rfl).trans ((settleCap_frame _).mono rfl)

theorem serviceItemOwner_frame (body : List Byte) (s : State) :
    Frame { em := true, st := true, rs := true } s (serviceItemOwner body s).1 :=
  withFields_frame (fun _ s => settleReplaced_frame _ _ s) body s

/-- A reading of service entries changes nothing (R156). -/
theorem serviceReadOwner_state (body : List Byte) (s : State) : (serviceReadOwner body s).1 = s := by
  rcases withFields_cases serviceRead? _ body s with e | ⟨a, -, e⟩
  · exact e
  · unfold serviceReadOwner; rw [e]

theorem serviceAckOwner_frame (body : List Byte) (s : State) : Frame { st := true, rs := true } s (serviceAckOwner body s).1 := by
  refine withFields_frame (fun is s => ?_) body s
  have h (e : Vector (Option ServiceEntry) 24) : Frame { st := true, rs := true } s { s with st := { s.st with entries := e } } := by
    constructor <;> simp [Queued.refl]
  simp only []
  split_ifs
  · exact h _
  · exact (h _).trans ((markRetained_frame _).mono rfl)

theorem serviceDoneOwner_frame (body : List Byte) (s : State) :
    Frame { em := true, st := true, rs := true } s (serviceDoneOwner body s).1 := by
  refine withFields_frame (fun i s => ?_) body s
  split
  · exact Frame.refl _ _
  · exact settleReplaced_frame _ _ s

theorem serviceSuspendOwner_frame (body : List Byte) (s : State) :
    Frame { em := true, st := true, rs := true } s (serviceSuspendOwner body s).1 := by
  refine withFields_frame (fun a s => ?_) body s
  obtain ⟨i, on⟩ := a
  simp only []
  split
  · exact Frame.refl _ _
  · simp only []
    split_ifs
    · exact Frame.refl _ _
    · exact settleReplaced_frame _ _ s

/-! ## The end of a commit attempt, and a host frame -/

/-- A host's COMMIT that comes at the end of a commit changes the store alone, beside the Link Controller (R143). -/
theorem commitRace_touches (s : State) : Touches { rs := true, choices := true } s (commitRace s) := by
  unfold commitRace
  split
  · next f _ _ =>
    have bumped : Touches { rs := true, choices := true } s { s with choices := s.choices + 1 } := by constructor <;> simp
    simp only []
    split_ifs
    · refine bumped.trans ((takeFrame_touches _ _).trans (Touches.trans ?_ (placeReply_touches _ _ _)))
      unfold checkedOwner
      split_ifs
      · exact Touches.refl _ _
      · exact Touches.refl _ _
      · exact Touches.refl _ _
      · exact (commitOwner_frame _ _).touchesWithin rfl
    · exact bumped
  · exact Touches.refl _ _

/-- A change of the store alone. -/
theorem withRs_touches (rs : Rs) (s : State) : Touches { em := true, rs := true, choices := true } s { s with rs := rs } := by
  constructor <;> simp

theorem endCommit_touches (r : CommitRecord) (done : Bool) (s : State) :
    Touches { em := true, rs := true, choices := true } s (endCommit r done s) := by
  exact (withRs_touches _ s).trans (((queueNotice_frame _ _).touchesWithin rfl).trans
    (((commitRace_touches _).mono rfl).trans ((takeCommitEnd_frame _ _).touchesWithin rfl)))

theorem endAttempt_touches (written : Bool) (image : Image) (r : CommitRecord) (s : State) :
    Touches { em := true, rs := true, choices := true } s (endAttempt written image r s) := by
  unfold endAttempt
  simp only []
  split_ifs
  · exact (withRs_touches _ s).trans (endCommit_touches _ _ _)
  · exact withRs_touches _ s
  · exact (withRs_touches _ s).trans (endCommit_touches _ _ _)

theorem takeHostFrame_touches (bytes : List Byte) (s : State) : Touches {} s (takeHostFrame bytes s) := by
  unfold takeHostFrame offerFrame
  simp only []
  split_ifs <;> constructor <;> simp

/-! ## The blocks of a command -/

/-- A host command keeps to the blocks that its owner keeps to. -/
theorem interpret_touches {kind tag : Byte} {body : List Byte} {level : Authority} {ok : List Byte → Bool} {owner : Owner}
    {b : Blocks} {s t : State} (e : interpret kind level ok owner tag body s = .next t)
    (h : ∀ u, Touches b u (owner body u).1) : Touches b s t := by
  rcases interpret_cases e with rfl | ⟨-, r, rfl | ⟨-, -, -, rfl⟩⟩
  · exact Touches.refl _ _
  · exact (takeFrame_touches b s).trans (placeReply_touches b r _)
  · exact (takeFrame_touches b s).trans ((h _).trans (placeReply_touches b r _))

/-- A command that waits for a condition keeps to the blocks of its effect. -/
theorem whenDue_touches {due : Bool} {f : State → State} {b : Blocks} {s t : State} (e : whenDue due s f = .next t)
    (h : Touches b s (f s)) : Touches b s t := by
  rcases eq_or_of_whenDue e with rfl | ⟨-, rfl⟩
  · exact Touches.refl _ _
  · exact h

/-- A change of the Link Controller alone. -/
theorem withLc_touches (b : Blocks) (lc : Lc) (s : State) : Touches b s { s with lc := lc } := by constructor <;> simp

/-- Every command but a reset and the supply keeps to its blocks, the queue of commands and the supply. -/
theorem exec_touches {c : Instr} {s t : State} (hc : ¬ IsReset c) (e : exec c s = .next t) : Touches (blocksOf c) s t := by
  cases c with
  | restartTakesEffect | powerOn | powerLoss => exact absurd trivial hc
  | sensorFrameArrival ch char =>
    change execSensorFrameArrival ch char s = _ at e
    unfold execSensorFrameArrival at e
    split at e
    · cases e; exact Touches.refl _ _
    · exact whenDue_touches e ((arriveFrame_frame _ _ _).touches)
  | sensorFramingError ch => exact whenDue_touches e ((onChannel_frame _ _ _).touches)
  | sensorCharacter ch char => exact whenDue_touches e ((onChannel_frame _ _ _).touches)
  | breakDetectorSample ch high => exact whenDue_touches e ((onChannel_frame _ _ _).touches)
  | breakDetected ch => exact whenDue_touches e ((changeChannel_frame _ _ _).touches)
  | breakEnd ch => exact whenDue_touches e ((changeChannel_frame _ _ _).touches)
  | staleTimerExpiry ch => exact whenDue_touches e ((changeChannel_frame _ _ _).touches)
  | silentTimerExpiry ch => exact whenDue_touches e ((changeChannel_frame _ _ _).touches)
  | inputLevelChange x => exact whenDue_touches e ((readInputs_frame _ _).touches)
  | inputReading x => exact whenDue_touches e ((onMlu_frame _ s).touches)
  | alarmCadence =>
    change execAlarmCadence s = _ at e
    unfold execAlarmCadence at e
    split at e
    · cases e; exact Touches.refl _ _
    · exact whenDue_touches e ((onMlu_frame _ s).touches)
  | poseCompletion =>
    change execPoseCompletion s = _ at e
    unfold execPoseCompletion at e
    split at e
    · cases e; exact Touches.refl _ _
    · exact whenDue_touches e ((completePose_frame _ _).touches)
  | calibrationStepEnd =>
    change execCalibrationStepEnd s = _ at e
    unfold execCalibrationStepEnd at e
    split at e
    · exact whenDue_touches e ((judgeStep_frame _ _ _).touches)
    · cases e; exact Touches.refl _ _
  | idleTimerExpiry =>
    change execIdleTimerExpiry s = _ at e
    unfold execIdleTimerExpiry at e
    exact whenDue_touches e (((onEm_frame _ s).trans (settleAdvice_frame _)).touchesWithin rfl)
  | shutdownTimerExpiry =>
    change execShutdownTimerExpiry s = _ at e
    unfold execShutdownTimerExpiry at e
    split at e
    · cases e; exact Touches.refl _ _
    · cases e; exact Touches.refl _ _
    · exact whenDue_touches e (((expireShutdown_frame _ s).trans ((settleAdvice_frame _).mono rfl)).touches)
  | commitAttemptEnd written image =>
    change execCommitAttemptEnd written image s = _ at e
    unfold execCommitAttemptEnd at e
    split at e
    · exact whenDue_touches e (endAttempt_touches _ _ _ _)
    · cases e; exact Touches.refl _ _
  | unknownKind kind tag body => exact whenDue_touches e ((takeFrame_touches _ s).trans (placeReply_touches _ _ _))
  | hostFrameArrival char =>
    change execHostFrameArrival char s = _ at e
    unfold execHostFrameArrival at e
    split at e
    · cases e; exact Touches.refl _ _
    · exact whenDue_touches e (takeHostFrame_touches _ _)
  | hostFramingError =>
    change execHostFramingError s = _ at e
    unfold execHostFramingError at e
    exact whenDue_touches e (withLc_touches _ _ s)
  | hostLengthError char =>
    change execHostLengthError char s = _ at e
    unfold execHostLengthError at e
    split at e
    · cases e; exact Touches.refl _ _
    · exact whenDue_touches e (withLc_touches _ _ s)
  | hostGapTimeout char =>
    change execHostGapTimeout char s = _ at e
    unfold execHostGapTimeout at e
    split at e
    · cases e; exact Touches.refl _ _
    · exact whenDue_touches e (withLc_touches _ _ s)
  | hostCharacter char =>
    change execHostCharacter char s = _ at e
    unfold execHostCharacter at e
    split at e <;> exact whenDue_touches e (withLc_touches _ _ s)
  | transmitEnd =>
    change execTransmitEnd s = _ at e
    unfold execTransmitEnd at e
    exact whenDue_touches e (withLc_touches _ _ s)
  | getStatus tag body => exact interpret_touches e (fun u => withLc_touches _ _ u)
  | restart tag body =>
    refine interpret_touches e (fun u => ?_)
    constructor <;> simp [restartOwner, blocksOf]
  | geometryGet tag body => exact interpret_touches e (fun u => Touches.refl _ u)
  | loadRead tag body =>
    refine interpret_touches e (fun u => ?_)
    rw [loadReadOwner_state]; exact Touches.refl _ u
  | serviceRead tag body =>
    refine interpret_touches e (fun u => ?_)
    rw [serviceReadOwner_state]; exact Touches.refl _ u
  | channelSet tag body => exact interpret_touches e (fun u => (channelSetOwner_frame body u).touches)
  | channelStatus tag body => exact interpret_touches e (fun u => (channelStatusOwner_frame body u).touches)
  | channelRestart tag body => exact interpret_touches e (fun u => (channelRestartOwner_frame body u).touches)
  | geometrySet tag body => exact interpret_touches e (fun u => (geometrySetOwner_frame body u).touches)
  | gradeSet tag body => exact interpret_touches e (fun u => (gradeSetOwner_frame body u).touches)
  | tipSubscribe tag body => exact interpret_touches e (fun u => (tipSubscribeOwner_frame body u).touches)
  | zoneWrite tag body => exact interpret_touches e (fun u => (zoneWriteOwner_frame body u).touches)
  | zoneClear tag body => exact interpret_touches e (fun u => (zoneClearOwner_frame body u).touches)
  | zoneRead tag body => exact interpret_touches e (fun u => (zoneReadOwner_frame body u).touches)
  | zoneSuspend tag body => exact interpret_touches e (fun u => (zoneSuspendOwner_frame body u).touches)
  | zoneResume tag body => exact interpret_touches e (fun u => (zoneResumeOwner_frame body u).touches)
  | reanchor tag body => exact interpret_touches e (fun u => (reanchorOwner_frame body u).touches)
  | slewSettings tag body => exact interpret_touches e (fun u => (slewSettingsOwner_frame body u).touches)
  | cycleSettings tag body => exact interpret_touches e (fun u => (cycleSettingsOwner_frame body u).touches)
  | calibrateEmpty tag body => exact interpret_touches e (fun u => (calibrateEmptyOwner_frame body u).touches)
  | calibrateGain tag body => exact interpret_touches e (fun u => (calibrateGainOwner_frame body u).touches)
  | calibrateCancel tag body => exact interpret_touches e (fun u => (calibrateCancelOwner_frame body u).touches)
  | truckClassSet tag body => exact interpret_touches e (fun u => (truckClassOwner_frame body u).touches)
  | loadNext tag body => exact interpret_touches e (fun u => (loadNextOwner_frame body u).touches)
  | loadClose tag body => exact interpret_touches e (fun u => (loadCloseOwner_frame body u).touches)
  | engineReport tag body => exact interpret_touches e (fun u => (engineReportOwner_frame body u).touches)
  | economySet tag body => exact interpret_touches e (fun u => (economyOwner_frame body u).touches)
  | countersRead tag body => exact interpret_touches e (fun u => (countersOwner_frame body u).touches)
  | serviceItemSet tag body => exact interpret_touches e (fun u => (serviceItemOwner_frame body u).touches)
  | serviceAck tag body => exact interpret_touches e (fun u => (serviceAckOwner_frame body u).touches)
  | serviceDone tag body => exact interpret_touches e (fun u => (serviceDoneOwner_frame body u).touches)
  | serviceSuspend tag body => exact interpret_touches e (fun u => (serviceSuspendOwner_frame body u).touches)
  | commit tag body => exact interpret_touches e (fun u => (commitOwner_frame body u).touches)

/-- Every command answers a next state: the events that read a record of the state do so by its cases, every other by waiting
for its condition. -/
theorem exec_next (c : Instr) (s : State) : ∃ t, exec c s = .next t := by
  cases c
  case sensorFrameArrival | hostFrameArrival | alarmCadence | poseCompletion | calibrationStepEnd | shutdownTimerExpiry |
      commitAttemptEnd | hostLengthError | hostGapTimeout | hostCharacter =>
    simp only [exec, execSensorFrameArrival, execHostFrameArrival, execAlarmCadence, execPoseCompletion,
      execCalibrationStepEnd, execShutdownTimerExpiry, execCommitAttemptEnd, execHostLengthError, execHostGapTimeout,
      execHostCharacter]
    split <;> exact ⟨_, rfl⟩
  all_goals exact ⟨_, rfl⟩

/-- A reset or a change of the supply, where it is due, has its effect. -/
theorem exec_reset {c : Instr} {s t : State} (e : exec c s = .next t) (hc : IsReset c) :
    t = s ∨ (s.powered = true ∧ t = restartReset s) ∨ (∃ strap, t = powerOn strap s) ∨ ∃ image, t = unpowered image s := by
  cases c <;> first | exact absurd hc id | skip
  case restartTakesEffect =>
    change execRestartTakesEffect s = _ at e
    rcases eq_or_of_whenDue e with h | ⟨due, h⟩
    · exact .inl h
    · simp only [Bool.and_eq_true] at due
      exact .inr (.inl ⟨due.1.1, h⟩)
  case powerOn strap =>
    rcases eq_or_of_whenDue e with h | ⟨-, h⟩
    · exact .inl h
    · exact .inr (.inr (.inl ⟨strap, h⟩))
  case powerLoss image =>
    rcases eq_or_of_whenDue e with h | ⟨-, h⟩
    · exact .inl h
    · exact .inr (.inr (.inr ⟨_, h⟩))

/-- No command changes the queue of commands. -/
theorem exec_pending {c : Instr} {s t : State} (e : exec c s = .next t) : t.pending = s.pending := by
  by_cases hc : IsReset c
  · rcases exec_reset e hc with rfl | ⟨-, rfl⟩ | ⟨strap, rfl⟩ | ⟨image, rfl⟩ <;> rfl
  · exact (exec_touches hc e).pending

/-! ## The step and the machine as a whole -/

/-- Settles O1: the front command leaves the queue before it runs. -/
theorem stepRunsFrontCommand : Obligations.StepRunsFrontCommand := by
  intro c rest s h
  rw [step, h]; rfl

/-- Settles O2: an empty queue leaves the tick, which a supplied part alone takes. -/
theorem emptyQueueTicksPartTime : Obligations.EmptyQueueTicksPartTime := by
  intro s h
  have ticks : step s = .next (tick s) := by simp only [step, h]
  exact ⟨fun hp => by rw [ticks, tick, if_pos hp], fun hp => by rw [ticks, tick, if_neg (by simp [hp])]⟩

/-- Settles O3: every command answers next, and none of its effects reaches the queue. -/
theorem everyCommandAnswersNext : Obligations.EveryCommandAnswersNext := by
  intro c s
  obtain ⟨t, e⟩ := exec_next c s
  exact ⟨t, e, exec_pending e⟩

end Sys2Proof.Machine

/-! PROOFS. What each command can do: the cases of its answer, for the proofs that follow a command through the blocks. -/

namespace Sys2Proof.Machine

/-! ## Events -/

/-- The ninth character of a frame on a running channel has the frame taken (R1, R3). -/
theorem sensorFrameArrival_cases {ch : Fin 6} {char : Byte} {s t : State} (e : exec (.sensorFrameArrival ch char) s = .next t) :
    t = s ∨ ∃ bytes, s.scu[ch].assembler = .collecting bytes ∧ channelRuns ch s = true ∧ bytes.length = 8 ∧
      t = arriveFrame ch (bytes ++ [char]) s := by
  change execSensorFrameArrival ch char s = _ at e
  unfold execSensorFrameArrival at e
  split at e
  · cases e; exact .inl rfl
  · next bytes h =>
    rcases eq_or_of_whenDue e with rfl | ⟨due, rfl⟩
    · exact .inl rfl
    · simp only [Bool.and_eq_true, beq_iff_eq] at due
      exact .inr ⟨bytes, h, due.1, due.2, rfl⟩

/-- A computation in flight is completed (R48). -/
theorem poseCompletion_cases {s t : State} (e : exec .poseCompletion s = .next t) :
    t = s ∨ ∃ c, s.ps.inFlight = some c ∧ t = completePose c s := by
  change execPoseCompletion s = _ at e
  unfold execPoseCompletion at e
  split at e
  · cases e; exact .inl rfl
  · next c h =>
    rcases eq_or_of_whenDue e with rfl | ⟨-, rfl⟩
    · exact .inl rfl
    · exact .inr ⟨c, h, rfl⟩

/-- The step of a run that is BUSY is judged (R111). -/
theorem calibrationStepEnd_cases {s t : State} (e : exec .calibrationStepEnd s = .next t) :
    t = s ∨ ∃ r w, s.ct.run = some r ∧ s.ct.step = some w ∧ t = judgeStep r w s := by
  change execCalibrationStepEnd s = _ at e
  unfold execCalibrationStepEnd at e
  split at e
  · next r w hr hw =>
    rcases eq_or_of_whenDue e with rfl | ⟨-, rfl⟩
    · exact .inl rfl
    · exact .inr ⟨r, w, hr, hw, rfl⟩
  · cases e; exact .inl rfl

/-- The cadence of PULSE or CHIRP switches the sounder (R33). -/
theorem alarmCadence_cases {s t : State} (e : exec .alarmCadence s = .next t) :
    t = s ∨ ∃ len, periodLength s.mlu.driven s.mlu.sounder = some len ∧
      t = onMlu (fun m => { m with sounder := !m.sounder, periodStart := m.periodStart + BitVec.ofNat 32 len }) s := by
  change execAlarmCadence s = _ at e
  unfold execAlarmCadence at e
  split at e
  · cases e; exact .inl rfl
  · next len h =>
    rcases eq_or_of_whenDue e with rfl | ⟨-, rfl⟩
    · exact .inl rfl
    · exact .inr ⟨len, h, rfl⟩

/-- A shutdown timer that has run its delay in AUTO_IDLE expires (R142). -/
theorem shutdownTimerExpiry_cases {s t : State} (e : exec .shutdownTimerExpiry s = .next t) :
    t = s ∨ ∃ start, s.em.shutdownTimer = .running start ∧ s.em.mode = .autoIdle ∧
      t = settleAdvice (expireShutdown start s) := by
  change execShutdownTimerExpiry s = _ at e
  unfold execShutdownTimerExpiry at e
  split at e
  · cases e; exact .inl rfl
  · cases e; exact .inl rfl
  · next start h =>
    rcases eq_or_of_whenDue e with rfl | ⟨due, rfl⟩
    · exact .inl rfl
    · simp only [Bool.and_eq_true, decide_eq_true_eq] at due
      exact .inr ⟨start, h, due.1.2, rfl⟩

/-- An attempt in flight ends (R164). -/
theorem commitAttemptEnd_cases {written : Bool} {image : Image} {s t : State}
    (e : exec (.commitAttemptEnd written image) s = .next t) :
    t = s ∨ ∃ r, s.rs.state = .committing r ∧ t = endAttempt written image r s := by
  change execCommitAttemptEnd written image s = _ at e
  unfold execCommitAttemptEnd at e
  split at e
  · next r h =>
    rcases eq_or_of_whenDue e with rfl | ⟨-, rfl⟩
    · exact .inl rfl
    · exact .inr ⟨r, h, rfl⟩
  · cases e; exact .inl rfl

/-! ## Owners -/

theorem channelSetOwner_cases (body : List Byte) (s : State) : (channelSetOwner body s).1 = s ∨
    ∃ ch new, channelSet? body = some (ch, new) ∧ (channelSetOwner body s).1 =
      changeChannel ch (Channel.reset new (frameComesNext ch s))
        (if new != s.scu[ch].settings then markRetained s else s) := by
  unfold channelSetOwner
  rcases withFields_cases channelSet? _ body s with e | ⟨⟨ch, new⟩, h, e⟩ <;> rw [e]
  · exact .inl rfl
  · exact .inr ⟨ch, new, h, rfl⟩

theorem channelRestartOwner_cases (body : List Byte) (s : State) : (channelRestartOwner body s).1 = s ∨
    ∃ ch : Fin 6, s.scu[ch].settings.enable = true ∧
      (channelRestartOwner body s).1 = changeChannel ch Channel.freshAcquisition s := by
  unfold channelRestartOwner
  rcases withFields_cases (fun b => index? 6 (u8 b 0)) _ body s with e | ⟨ch, -, e⟩ <;> rw [e]
  · exact .inl rfl
  · by_cases h : s.scu[ch].settings.enable = true
    · exact .inr ⟨ch, h, by rw [if_pos h]⟩
    · exact .inl (by rw [if_neg h])

theorem channelStatusOwner_cases (body : List Byte) (s : State) : (channelStatusOwner body s).1 = s ∨
    ∃ ch : Fin 6, (channelStatusOwner body s).1 = onChannel ch Channel.clearCounts s := by
  unfold channelStatusOwner
  rcases withFields_cases channelStatus? _ body s with e | ⟨⟨ch, clear⟩, -, e⟩ <;> rw [e]
  · exact .inl rfl
  · cases clear
    · exact .inl rfl
    · exact .inr ⟨ch, rfl⟩

theorem clearCommand_cases (k : Fin 16) (s : State) : (clearCommand k s).1 = s ∨
    (clearCommand k s).1 = replaceZone k none s := by
  unfold clearCommand clearZone
  split_ifs
  · exact .inl rfl
  · simp only []
    split
    · exact .inl rfl
    · exact .inr rfl

/-- A write puts a record in the state its flag gives, or clears the entry (R59, R60). -/
theorem zoneWriteOwner_cases (body : List Byte) (s : State) : (zoneWriteOwner body s).1 = s ∨
    ∃ k z, (∀ x ∈ z, x.state = writtenState x.record) ∧ (zoneWriteOwner body s).1 = replaceZone k z s := by
  unfold zoneWriteOwner
  rcases withFields_cases zoneWrite? _ body s with e | ⟨⟨k, z⟩, -, e⟩ <;> rw [e]
  · exact .inl rfl
  · cases z with
    | none => exact (clearCommand_cases k s).imp_right fun h => ⟨k, none, by simp, h⟩
    | some z =>
      simp only []
      split_ifs
      · exact .inl rfl
      · exact .inl rfl
      · exact .inr ⟨k, _, by simp, rfl⟩

theorem zoneClearOwner_cases (body : List Byte) (s : State) : (zoneClearOwner body s).1 = s ∨
    ∃ k, (zoneClearOwner body s).1 = replaceZone k none s := by
  unfold zoneClearOwner
  rcases withFields_cases zoneIndex? _ body s with e | ⟨k, -, e⟩ <;> rw [e]
  · exact .inl rfl
  · exact (clearCommand_cases k s).imp_right fun h => ⟨k, h⟩

theorem zoneReadOwner_cases (body : List Byte) (s : State) : (zoneReadOwner body s).1 = s ∨
    ∃ k, (zoneReadOwner body s).1 = onZone k (fun e => { e with intrusions := 0, cuts := 0 }) s := by
  unfold zoneReadOwner
  rcases withFields_cases zoneRead? _ body s with e | ⟨⟨k, clear⟩, -, e⟩ <;> rw [e]
  · exact .inl rfl
  · cases clear
    · exact .inl rfl
    · exact .inr ⟨k, rfl⟩

/-- An ARMED zone is suspended at or above its level (R62). -/
theorem zoneSuspendOwner_cases (body : List Byte) (s : State) : (zoneSuspendOwner body s).1 = s ∨
    ∃ (k : Fin 16) (z : Zone), s.zt.zones[k].held = some z ∧ z.state = .armed ∧
      z.record.suspendLevel.rank ≤ s.mlu.authority.rank ∧ (zoneSuspendOwner body s).1 = moveZone k .suspended s := by
  unfold zoneSuspendOwner
  rcases withFields_cases zoneIndex? _ body s with e | ⟨k, -, e⟩ <;> rw [e]
  · exact .inl rfl
  · split
    · exact .inl rfl
    · next z hz =>
      split
      · exact .inl rfl
      · exact .inl rfl
      · exact .inl rfl
      · next ha =>
        split_ifs with hr
        · exact .inl rfl
        · exact .inr ⟨k, z, hz, ha, Nat.not_lt.mp hr, rfl⟩

/-- A DORMANT or SUSPENDED zone is armed (R63). -/
theorem zoneResumeOwner_cases (body : List Byte) (s : State) : (zoneResumeOwner body s).1 = s ∨
    ∃ (k : Fin 16) (z : Zone), s.zt.zones[k].held = some z ∧ (z.state = .dormant ∨ z.state = .suspended) ∧
      (zoneResumeOwner body s).1 = moveZone k .armed s := by
  unfold zoneResumeOwner
  rcases withFields_cases zoneIndex? _ body s with e | ⟨k, -, e⟩ <;> rw [e]
  · exact .inl rfl
  · split
    · exact .inl rfl
    · next z hz =>
      split
      · exact .inl rfl
      · exact .inl rfl
      all_goals
        next hs =>
        split_ifs
        · exact .inl rfl
        · exact .inr ⟨k, z, hz, by simp [hs], rfl⟩

theorem reanchorOwner_cases (body : List Byte) (s : State) : (reanchorOwner body s).1 = s ∨
    ∃ d, (reanchorOwner body s).1 = reanchorZones d s := by
  unfold reanchorOwner
  split_ifs
  · exact .inl rfl
  · simp only []
    split_ifs
    · exact .inl rfl
    · exact .inr ⟨_, rfl⟩

theorem slewSettingsOwner_cases (body : List Byte) (s : State) : (slewSettingsOwner body s).1 = s ∨
    ∃ new, slewSettings? body = some new ∧ (slewSettingsOwner body s).1 =
      evaluateSlew (if new != s.sl.settings then markRetained (onSl (fun sl => { sl with settings := new }) s)
        else onSl (fun sl => { sl with settings := new }) s) := by
  unfold slewSettingsOwner
  rcases withFields_cases slewSettings? _ body s with e | ⟨new, h, e⟩ <;> rw [e]
  · exact .inl rfl
  · exact .inr ⟨new, h, rfl⟩

/-! ## The replacing of a zone -/

/-- Of the two actions that follow the replacing of a zone the first may be missing. -/
theorem mem_ite_append_singleton {α : Type} {p : Prop} [Decidable p] {f a b : α} (m : f ∈ (if p then [] else [a]) ++ [b]) :
    f = a ∨ f = b := by
  by_cases h : p
  · right; simpa [h] using m
  · simpa [h] using m

end Sys2Proof.Machine

/-! PROOFS. What every step keeps: the scheme of the invariants, and the load records (R121 to R129). -/

namespace Sys2Proof.Machine

/-! ## The scheme of an invariant -/

/-- A step is a tick, or a command on the state with the queue's rest. -/
theorem step_cases {s t : State} (h : step s = .next t) : t = tick s ∨ ∃ c q, exec c (s.withPending q) = .next t := by
  unfold step at h
  split at h
  · cases h; exact .inl rfl
  · exact .inr ⟨_, _, h⟩

/-- A tick changes part time alone, whether or not the part is supplied. -/
theorem tick_touches (s : State) : Touches {} s (tick s) := by
  unfold tick; split_ifs
  · exact withLc_touches _ _ s
  · exact Touches.refl _ _

/-- What a reading with its events delivers: the operations of R24 to R29. -/
theorem mem_inputEvents {changed : PerInput Bool} {inputs : PerInput Debouncer} {q : List (State → State)}
    {f : State → State} (m : q ∈ inputEvents changed inputs) (mf : f ∈ q) :
    f ∈ [takeActivity, takeSeatChange, travelZones, toUnknown, travelLoads, travelEndedAtCt, settleAuthority] := by
  simp only [inputEvents, activityEvents, travelEvents, List.mem_append] at m
  rcases m with ((((m | m) | m) | m) | m) | m <;> split_ifs at m <;> simp at m <;>
    first
    | (subst m; simp at mf; simp [mf])
    | (rcases m with rfl | rfl | rfl | rfl <;> simp at mf <;> simp [mf])

/-- What the reading itself and each of its events keep, a reading with its events keeps (assumption log 7). -/
theorem readInputs_keeps {P : State → Prop} (hc : ∀ s, P s → P { s with choices := s.choices + 1 }) (x : InputSamples)
    (reading : ∀ s, P s → P (takeReading x s))
    (h : ∀ f ∈ [takeActivity, takeSeatChange, travelZones, toUnknown, travelLoads, travelEndedAtCt, settleAuthority],
      ∀ s, P s → P (f s)) (s : State) (hs : P s) : P (readInputs x s) :=
  interleave_keeps hc _ _ (fun _ m _ mf => h _ (mem_inputEvents m mf)) (reading s hs)

/-- What the deliveries of a completed pose are (R48, R101, R107, R115, R140). -/
theorem mem_poseActions {p : Pose} {s : State} {q : List (State → State)} {f : State → State}
    (m : q ∈ [[deliverPoseToSl p], poseDeliveries s p, emDeliveries s p]) (mf : f ∈ q) :
    f ∈ [deliverPoseToSl p, hardFail .hardPose, arrivePass (dumpPass s p), takeActivity, takePhaseChange (nextPhase s p)] := by
  simp only [List.mem_cons, List.not_mem_nil, or_false] at m
  rcases m with rfl | rfl | rfl
  · simp at mf; simp [mf]
  · simp only [poseDeliveries, List.mem_append] at mf
    rcases mf with mf | mf <;> split_ifs at mf <;> simp at mf <;> simp [mf]
  · simp only [emDeliveries, phaseDelivery, List.mem_append] at mf
    rcases mf with mf | mf <;> split_ifs at mf <;> simp at mf <;> simp [mf]

/-- What the Cycle Tracker's record of a pose and each delivery keep, the deliveries of a pose keep (R48). -/
theorem deliverPose_keeps {P : State → Prop} (hc : ∀ s, P s → P { s with choices := s.choices + 1 }) (p : Pose) (s : State)
    (h : ∀ f ∈ [deliverPoseToSl p, hardFail .hardPose, arrivePass (dumpPass s p), takeActivity,
      takePhaseChange (nextPhase s p)], ∀ u, P u → P (f u)) (hs : P (takePoseAtCt p s)) : P (deliverPose p s) :=
  interleave_keeps hc _ _ (fun _ m _ mf => h _ (mem_poseActions m mf)) hs

/-! ## The load records (R121 to R129) -/

/-- The loads of a Load Recorder are whole. -/
def LrWhole (lr : Lr) : Prop :=
  (∀ l ∈ lr.openLoad, LoadWhole l ∧ l.state = .isOpen ∧ l.passes.length < 12 ∧ l.closed = none) ∧
    lr.history.length ≤ 16 ∧ (∀ l ∈ lr.history, LoadWhole l ∧ l.state ≠ .isOpen ∧ l.closed.isSome) ∧
    1 ≤ lr.nextNumber ∧ lr.nextNumber ≤ 65535

theorem loadsWhole_iff (s : State) : LoadsWhole s ↔ LrWhole s.lr := Iff.rfl

/-- What leaves the Load Recorder keeps the loads whole. -/
theorem LoadsWhole.of_touches {b : Blocks} {s t : State} (h : Touches b s t) (hb : b.lr = false) (hs : LoadsWhole s) :
    LoadsWhole t := by
  rw [loadsWhole_iff, h.lr hb]; exact hs

theorem LoadsWhole.of_frame {b : Blocks} {s t : State} (h : Frame b s t) (hb : b.lr = false) (hs : LoadsWhole s) :
    LoadsWhole t := hs.of_touches h.touches hb

/-- The loads' wholeness reads the open load, the history and the next number. -/
theorem LoadsWhole.of_records {s t : State} (h : LoadsWhole s) (isOpen : t.lr.openLoad = s.lr.openLoad)
    (history : t.lr.history = s.lr.history) (number : t.lr.nextNumber = s.lr.nextNumber) : LoadsWhole t := by
  unfold LoadsWhole; rw [isOpen, history, number]; exact h

/-- A load's wholeness reads its passes, its total and its number. -/
theorem LoadWhole.congr {l m : Load} (h : LoadWhole l) (total : m.total = l.total) (passes : m.passes = l.passes)
    (number : m.number = l.number) : LoadWhole m := by
  unfold LoadWhole; rw [total, passes, number]; exact h

/-- Closing any open load of whole passes, up to twelve, leaves the loads whole (R127). -/
theorem withLoadClosed_whole {how : LoadState} (hhow : how ≠ .isOpen) (now : Stamp) {lr : Lr} {l : Load}
    (hl : LoadWhole l) (h : LrWhole { lr with openLoad := none }) :
    LrWhole (withLoadClosed how now { lr with openLoad := some l }) := by
  obtain ⟨-, hlen, hist, hnum⟩ := h
  refine ⟨by simp [withLoadClosed], by simp [withLoadClosed], fun m hm => ?_, hnum⟩
  rcases List.mem_cons.1 (List.mem_of_mem_take hm) with rfl | hm
  · exact ⟨hl.congr rfl rfl rfl, hhow, rfl⟩
  · exact hist m hm

theorem LrWhole.withoutOpen {lr : Lr} (h : LrWhole lr) : LrWhole { lr with openLoad := none } :=
  ⟨by simp, h.2⟩

theorem closed_whole {how : LoadState} (hhow : how ≠ .isOpen) (now : Stamp) {lr : Lr} (h : LrWhole lr) :
    LrWhole (withLoadClosed how now lr) := by
  cases ho : lr.openLoad with
  | none => unfold withLoadClosed; rw [ho]; exact h
  | some l =>
    have e : lr = { lr with openLoad := some l } := by rw [← ho]
    rw [e]; exact withLoadClosed_whole hhow now (h.1 l ho).1 h.withoutOpen

/-- Making a load of a bay ready keeps the loads whole: a new load has no passes, and the next number (R121). -/
theorem withBayOpen_whole (bay : Fin 16) (now : Stamp) {lr : Lr} (h : LrWhole lr) : LrWhole (withBayOpen bay now lr) := by
  unfold withBayOpen
  split_ifs
  · exact h
  all_goals
    obtain ⟨-, hlen, hist, -⟩ := closed_whole (how := .closedNewBay) (by decide) now h
    have number := h.2.2.2
    refine ⟨?_, hlen, hist, by simp, by simp; try omega⟩
    rintro l ⟨⟩
    exact ⟨⟨rfl, rfl, by simp [openedLoad], h.2.2.2⟩, rfl, by simp [openedLoad], rfl⟩

/-- A pass appended to a whole load of fewer than twelve passes leaves it whole (R122). -/
theorem withPass_whole (p : Pass) (bay : Fin 16) {l : Load} (h : LoadWhole l) (room : l.passes.length < 12) :
    LoadWhole (withPass p bay l) := by
  obtain ⟨total, positions, -, number⟩ := h
  refine ⟨?_, ?_, by simp [withPass]; omega, number⟩
  · cases hp : p.payload <;> simp [withPass, total, hp]
  · simp [withPass, positions, List.range'_concat]; omega

/-- The open load with a pass, closed where it then holds twelve, leaves the loads whole (R122, R123). -/
theorem passFiled_whole (p : Pass) (bay : Fin 16) (now : Stamp) {lr : Lr} {old : Load} (ho : lr.openLoad = some old)
    (h : LrWhole lr) :
    LrWhole (if (withPass p bay old).passes.length = 12 then
        withLoadClosed .closedFull now { lr with openLoad := some (withPass p bay old) }
      else { lr with openLoad := some (withPass p bay old) }) := by
  obtain ⟨whole, isOpen, room, unclosed⟩ := h.1 old ho
  have filed := withPass_whole p bay whole room
  split_ifs with full
  · exact withLoadClosed_whole (by decide) now filed h.withoutOpen
  · refine ⟨?_, h.2⟩
    rintro l ⟨⟩
    exact ⟨filed, isOpen, lt_of_le_of_ne filed.2.2.1 full, unclosed⟩

theorem closeLoad_keeps_loadsWhole {how : LoadState} (hhow : how ≠ .isOpen) {s : State} (h : LoadsWhole s) :
    LoadsWhole (closeLoad how s) := by
  rw [closeLoad_eq]; exact closed_whole hhow _ h

theorem handlePass_keeps_loadsWhole (p : Pass) {s : State} (h : LoadsWhole s) : LoadsWhole (handlePass p s) := by
  unfold handlePass
  split
  · next bay _ =>
    rw [filePass_eq, loadsWhole_iff]
    exact passFiled_whole p bay _ (readyLoad_eq bay s).2.1 (withBayOpen_whole bay _ h)
  · exact h

theorem receivePass_keeps_loadsWhole (p : Pass) {s : State} (h : LoadsWhole s) : LoadsWhole (receivePass p s) := by
  refine anyOrder_keeps (fun s h => h) _ _ (fun f m u hu => ?_) (show LoadsWhole (countPass p s) from h)
  simp only [List.mem_cons, List.not_mem_nil, or_false] at m
  rcases m with rfl | rfl | rfl
  · exact handlePass_keeps_loadsWhole p hu
  · exact hu.of_frame (takeIncrement_frame _ _ _) rfl
  · exact hu.of_frame (takeIncrement_frame _ _ _) rfl

theorem takeTravelFirst_keeps_loadsWhole {s : State} (h : LoadsWhole s) : LoadsWhole (takeTravelFirst s) :=
  closeLoad_keeps_loadsWhole (s := s) (by decide) h

theorem arrivePass_keeps_loadsWhole (p : Pass) {s : State} (h : LoadsWhole s) : LoadsWhole (arrivePass p s) := by
  unfold arrivePass
  simp only []
  split_ifs
  · exact receivePass_keeps_loadsWhole p (takeTravelFirst_keeps_loadsWhole (s := { s with choices := s.choices + 1 }) h)
  · exact receivePass_keeps_loadsWhole (s := { s with choices := s.choices + 1 }) p h
  · exact receivePass_keeps_loadsWhole p h

theorem travelLoads_keeps_loadsWhole {s : State} (h : LoadsWhole s) : LoadsWhole (travelLoads s) := by
  unfold travelLoads
  split_ifs
  · exact h
  · exact closeLoad_keeps_loadsWhole (by decide) h

/-- An open load replaced by one with the same passes, total, number and state. -/
theorem setLoad_keeps_loadsWhole {s : State} {l m : Load} (ho : s.lr.openLoad = some l) (h : LoadsWhole s)
    (total : m.total = l.total) (passes : m.passes = l.passes) (number : m.number = l.number) (state : m.state = l.state)
    (closed : m.closed = l.closed) : LrWhole { s.lr with openLoad := some m } := by
  obtain ⟨whole, isOpen, room, unclosed⟩ := h.1 l ho
  refine ⟨?_, h.2⟩
  rintro _ ⟨⟩
  exact ⟨whole.congr total passes number, state.trans isOpen, by rw [passes]; exact room, closed.trans unclosed⟩

theorem chargeFuel_keeps_loadsWhole (ml : Nat) {s : State} (h : LoadsWhole s) : LoadsWhole (chargeFuel ml s) := by
  unfold chargeFuel
  cases ho : s.lr.openLoad with
  | none => exact h
  | some l => exact setLoad_keeps_loadsWhole ho h rfl rfl rfl rfl rfl

theorem reclass_keeps_loadsWhole (i : Fin 16) {s : State} (h : LoadsWhole s) : LoadsWhole (reclass i s) := by
  cases ho : s.lr.openLoad with
  | none => unfold reclass; rw [ho]; exact h
  | some l => rw [reclass_eq ho]; exact setLoad_keeps_loadsWhole ho h rfl rfl rfl rfl rfl

theorem integrateReport_keeps_loadsWhole {s : State} (h : LoadsWhole s) : LoadsWhole (integrateReport s) := by
  unfold integrateReport
  split
  · exact h
  · simp only []
    refine anyOrder_keeps (fun s h => h) _ _ (fun f m u hu => ?_) ?_
    · simp only [List.mem_cons, List.not_mem_nil, or_false] at m
      rcases m with rfl | rfl | rfl | rfl
      · exact chargeFuel_keeps_loadsWhole _ hu
      all_goals exact hu.of_frame (takeIncrement_frame _ _ _) rfl
    · exact (show LoadsWhole (onEm _ s) from h).of_frame (markedIf_frame _ _) rfl

theorem takeReport_keeps_loadsWhole (r : EngineReport) {s : State} (h : LoadsWhole s) : LoadsWhole (takeReport r s) :=
  ((show LoadsWhole (onEm _ (integrateReport s)) from integrateReport_keeps_loadsWhole h).of_frame
    (reportModeSteps_frame r _) rfl).of_frame (settleAdvice_frame _) rfl

theorem readInputs_keeps_loadsWhole (x : InputSamples) {s : State} (h : LoadsWhole s) : LoadsWhole (readInputs x s) := by
  refine readInputs_keeps (fun s h => h) x (fun s h => h) (fun f m u hu => ?_) s h
  simp only [List.mem_cons, List.not_mem_nil, or_false] at m
  rcases m with rfl | rfl | rfl | rfl | rfl | rfl | rfl
  · exact hu.of_frame (takeActivity_frame _) rfl
  · exact hu.of_frame (takeSeatChange_frame _) rfl
  · exact hu.of_frame (travelZones_frame _) rfl
  · exact hu.of_frame (toUnknown_frame _) rfl
  · exact travelLoads_keeps_loadsWhole hu
  · exact hu.of_frame (travelEndedAtCt_frame _) rfl
  · exact hu.of_frame (settleAuthority_frame _) rfl

theorem deliverPose_keeps_loadsWhole (p : Pose) {s : State} (h : LoadsWhole s) : LoadsWhole (deliverPose p s) := by
  refine deliverPose_keeps (fun s h => h) p s (fun f m u hu => ?_) (h.of_frame (takePoseAtCt_frame p s) rfl)
  simp only [List.mem_cons, List.not_mem_nil, or_false] at m
  rcases m with rfl | rfl | rfl | rfl | rfl
  · exact hu.of_frame (deliverPoseToSl_frame _ _) rfl
  · exact hu.of_frame (hardFail_frame _ _) rfl
  · exact arrivePass_keeps_loadsWhole _ hu
  · exact hu.of_frame (takeActivity_frame _) rfl
  · exact hu.of_frame (takePhaseChange_frame _ _) rfl

theorem completePose_keeps_loadsWhole (c : Computation) {s : State} (h : LoadsWhole s) : LoadsWhole (completePose c s) := by
  unfold completePose
  simp only []
  refine (deliverPose_keeps_loadsWhole _ ?_).of_frame (startPending_frame _) rfl
  exact ((show LoadsWhole (onPs _ s) from h).of_frame (settleOverdig_frame _ _) rfl).of_frame (serveTip_frame _ _) rfl

theorem truckClassOwner_keeps_loadsWhole (body : List Byte) {s : State} (h : LoadsWhole s) :
    LoadsWhole (truckClassOwner body s).1 := by
  unfold truckClassOwner
  rcases withFields_cases truckClassSet? _ body s with e | ⟨op, -, e⟩ <;> rw [e]
  · exact h
  · cases op with
    | read => exact h
    | write a =>
      simp only []
      split_ifs
      · exact h
      · unfold writeClass
        simp only []
        split_ifs <;> exact h.of_records rfl rfl rfl

theorem loadNextOwner_keeps_loadsWhole (body : List Byte) {s : State} (h : LoadsWhole s) :
    LoadsWhole (loadNextOwner body s).1 := by
  unfold loadNextOwner
  rcases withFields_cases loadNext? _ body s with e | ⟨⟨i, flag⟩, -, e⟩ <;> rw [e]
  · exact h
  · have next : LoadsWhole (onLr (fun lr => { lr with nextClass := i }) s) := h.of_records rfl rfl rfl
    simp only []
    split_ifs
    · exact h
    · exact reclass_keeps_loadsWhole i next
    · exact next

theorem loadCloseOwner_keeps_loadsWhole (body : List Byte) {s : State} (h : LoadsWhole s) :
    LoadsWhole (loadCloseOwner body s).1 := by
  unfold loadCloseOwner
  split
  · exact h
  · exact closeLoad_keeps_loadsWhole (by decide) h

/-- A host command keeps what its owner keeps, where the Link Controller is not read. -/
theorem interpret_keeps {P : State → Prop} (hlc : ∀ {s t : State}, Touches {} s t → P s → P t) {kind tag : Byte}
    {body : List Byte} {level : Authority} {ok : List Byte → Bool} {owner : Owner} {s t : State}
    (e : interpret kind level ok owner tag body s = .next t) (h : ∀ u, P u → P (owner body u).1) (hs : P s) : P t := by
  rcases interpret_cases e with rfl | ⟨-, r, rfl | ⟨-, -, -, rfl⟩⟩
  · exact hs
  · exact hlc (placeReply_touches _ r _) (hlc (takeFrame_touches _ s) hs)
  · exact hlc (placeReply_touches _ r _) (h _ (hlc (takeFrame_touches _ s) hs))

/-- A reset leaves no load and the first number (R131). -/
theorem lrFresh_whole (classes : Vector TruckClass 16) (passes : BitVec 32) (payload : BitVec 48) :
    LrWhole (Lr.fresh classes passes payload) :=
  ⟨by simp [Lr.fresh], by simp [Lr.fresh], by simp [Lr.fresh], le_refl 1, by simp [Lr.fresh]⟩

theorem exec_keeps_loadsWhole {c : Instr} {s t : State} (hs : LoadsWhole s) (e : exec c s = .next t) : LoadsWhole t := by
  have touches {s t : State} (h : Touches {} s t) (hs : LoadsWhole s) : LoadsWhole t := hs.of_touches h rfl
  cases c with
  | restartTakesEffect | powerOn | powerLoss =>
    rcases exec_reset e trivial with rfl | ⟨-, rfl⟩ | ⟨strap, rfl⟩ | ⟨image, rfl⟩
    · exact hs
    all_goals exact lrFresh_whole ..
  | inputLevelChange x =>
    rcases eq_or_of_whenDue e with rfl | ⟨-, rfl⟩
    · exact hs
    · exact readInputs_keeps_loadsWhole x hs
  | poseCompletion =>
    rcases poseCompletion_cases e with rfl | ⟨c, -, rfl⟩
    · exact hs
    · exact completePose_keeps_loadsWhole c hs
  | truckClassSet tag body => exact interpret_keeps touches e (fun _ h => truckClassOwner_keeps_loadsWhole body h) hs
  | loadNext tag body => exact interpret_keeps touches e (fun _ h => loadNextOwner_keeps_loadsWhole body h) hs
  | loadClose tag body => exact interpret_keeps touches e (fun _ h => loadCloseOwner_keeps_loadsWhole body h) hs
  | engineReport tag body => exact interpret_keeps touches e (fun _ h => takeReport_keeps_loadsWhole _ h) hs
  | _ => exact hs.of_touches (exec_touches id e) rfl

/-- Settles O13: each operation of the Load Recorder keeps the loads whole, and every other leaves them. -/
theorem stepKeepsLoadsWhole : Obligations.StepKeepsLoadsWhole := by
  intro s t hs h
  rcases step_cases h with rfl | ⟨c, q, e⟩
  · exact hs.of_touches (tick_touches s) rfl
  · exact exec_keeps_loadsWhole (s := s.withPending q) hs e

end Sys2Proof.Machine

/-! PROOFS. What every step keeps: the driven alarm pattern (R32, R33). -/

namespace Sys2Proof.Machine

/-! ## The parts of the compound operations -/

/-- What the parts of an evaluation keep, an evaluation on a pose keeps (R86 to R90). -/
theorem evaluateOn_keeps {P : State → Prop} (hc : ∀ s, P s → P { s with choices := s.choices + 1 })
    (intrusion : ∀ i k b s, P s → P (settleIntrusion i k b s)) (sl : ∀ f s, P s → P (onSl f s))
    (cut : ∀ set s, P s → P (onMlu (Mlu.takeCutSet set) s)) (alarm : ∀ a s, P s → P (requestSlAlarm a s))
    (count : ∀ a b c s, P s → P (countCuts a b c s)) (notice : ∀ n s, P s → P (queueNotice n s)) (p : Pose) {s : State}
    (hs : P s) : P (evaluateOn p s) := by
  unfold evaluateOn
  simp only []
  have settled : P (settleIntrusions (slewInputs s.sl p) (zoneOutcomes (slewInputs s.sl p) s.sl s.zt) s) := by
    refine anyOrder_keeps hc _ s (fun f m u hu => ?_) hs
    obtain ⟨k, -, rfl⟩ := List.mem_map.1 m
    exact intrusion _ _ _ u hu
  split_ifs
  · exact count _ _ _ _ (count _ _ _ _ (count _ _ _ _ (alarm _ _ (cut _ _ (sl _ _ settled)))))
  · exact notice _ _ (count _ _ _ _ (count _ _ _ _ (count _ _ _ _ (alarm _ _ (cut _ _ (sl _ _ settled))))))

/-- What an evaluation on a pose keeps, an evaluation keeps. -/
theorem evaluateSlew_keeps {P : State → Prop} (h : ∀ p s, P s → P (evaluateOn p s)) {s : State} (hs : P s) :
    P (evaluateSlew s) := by
  unfold evaluateSlew; split
  · exact hs
  · exact h _ _ hs

/-- What the change of health of a channel delivers (R18). -/
theorem mem_healthActions {ch : Fin 6} {a b : Health} {f : State → State} (m : f ∈ healthActions ch a b) :
    f ∈ [fun s => queueNotice (.channelHealth ch a b s.now) s, requestComputation, deliverHealthToSl b,
      deliverHealthToCt b] := by
  unfold healthActions at m
  split_ifs at m <;> simp at m ⊢ <;> tauto

/-- What a sample that has entered its FIFO delivers (R8, R10, R92). -/
theorem mem_sampleActions {ch : Fin 6} {h : Health} {x : Sample} {f : State → State} (m : f ∈ sampleActions ch h x) :
    f ∈ [requestComputation, readSlewTravel x, drainPressure] := by
  unfold sampleActions at m
  split_ifs at m <;> simp at m ⊢ <;> tauto

/-- What the change of a context and each delivery keep, the change with its deliveries keeps (R18). -/
theorem changeChannel_keeps {P : State → Prop} (hc : ∀ s, P s → P { s with choices := s.choices + 1 }) (ch : Fin 6)
    (g : Channel → Channel) {s : State} (h : ∀ a b, ∀ f ∈ [fun s => queueNotice (.channelHealth ch a b s.now) s,
      requestComputation, deliverHealthToSl b, deliverHealthToCt b], ∀ u, P u → P (f u)) (hs : P (onChannel ch g s)) :
    P (changeChannel ch g s) :=
  anyOrder_keeps hc _ _ (fun _ m => h _ _ _ (mem_healthActions m)) hs

/-- What the arrival of a frame runs: the deliveries of its sample and of its change of health (R8, R18). -/
theorem mem_arriveActions {ch : Fin 6} {a b h : Health} {x : Sample} {p : Prop} [Decidable p] {q : List (State → State)}
    {f : State → State}
    (m : q ∈ (if p then sampleActions ch h x else []) :: (healthActions ch a b).map fun f => [f]) (mf : f ∈ q) :
    f ∈ [fun s => queueNotice (.channelHealth ch a b s.now) s, requestComputation, deliverHealthToSl b,
      deliverHealthToCt b, readSlewTravel x, drainPressure] := by
  rcases List.mem_cons.1 m with rfl | m
  · split_ifs at mf
    · have := mem_sampleActions mf
      simp at this ⊢; tauto
    · simp at mf
  · obtain ⟨g, mg, rfl⟩ := List.mem_map.1 m
    obtain rfl : f = g := by simpa using mf
    have := mem_healthActions mg
    simp at this ⊢; tauto

/-- What the new context and each delivery keep, the arrival of a frame keeps (R8, R18). -/
theorem arriveFrame_keeps {P : State → Prop} (hc : ∀ s, P s → P { s with choices := s.choices + 1 }) (ch : Fin 6)
    (bytes : List Byte) {s : State}
    (h : ∀ a b x, ∀ f ∈ [fun s => queueNotice (.channelHealth ch a b s.now) s, requestComputation, deliverHealthToSl b,
      deliverHealthToCt b, readSlewTravel x, drainPressure], ∀ u, P u → P (f u))
    (hs : P (onChannel ch (fun _ => Channel.afterFrame ch bytes s.now { s.scu[ch] with assembler := .hunting }) s)) :
    P (arriveFrame ch bytes s) :=
  interleave_keeps hc _ _ (fun _ m _ mf => h _ _ _ _ (mem_arriveActions m mf)) hs

/-! ## The alarm (R32, R33) -/

/-- The sounder is silent while no pattern is driven, and sounds while STEADY is (R33). -/
def SounderFits (m : Mlu) : Prop := (m.driven = .off → m.sounder = false) ∧ (m.driven = .steady → m.sounder = true)

/-- The driven pattern is the highest-ranked of the slots, and the sounder fits it. -/
def AlarmRight (m : Mlu) : Prop := m.driven = m.slots.highest ∧ SounderFits m

theorem alarmFollowsSlots_iff (s : State) : AlarmFollowsSlots s ↔ AlarmRight s.mlu := Iff.rfl

/-- Working the driven pattern out afresh makes it right, whatever the slots (R32, R33). -/
theorem redrive_right (now : Stamp) {m : Mlu} (h : SounderFits m) : AlarmRight (Mlu.redrive now m) := by
  unfold Mlu.redrive
  simp only []
  split_ifs with hd
  · exact ⟨hd.symm, h⟩
  · exact ⟨rfl, fun e => by simp [show m.slots.highest = _ from e], fun e => by simp [show m.slots.highest = _ from e]⟩

theorem AlarmFollowsSlots.of_touches {b : Blocks} {s t : State} (h : Touches b s t) (hb : b.mlu = false)
    (hs : AlarmFollowsSlots s) : AlarmFollowsSlots t := by
  rw [alarmFollowsSlots_iff, h.mlu hb]; exact hs

theorem AlarmFollowsSlots.of_frame {b : Blocks} {s t : State} (h : Frame b s t) (hb : b.mlu = false)
    (hs : AlarmFollowsSlots s) : AlarmFollowsSlots t := hs.of_touches h.touches hb

theorem requestSlAlarm_keeps_alarm (a : AlarmPattern) {s : State} (h : AlarmFollowsSlots s) :
    AlarmFollowsSlots (requestSlAlarm a s) := redrive_right _ h.2
theorem requestPsAlarm_keeps_alarm (a : AlarmPattern) {s : State} (h : AlarmFollowsSlots s) :
    AlarmFollowsSlots (requestPsAlarm a s) := redrive_right _ h.2
theorem requestZtAlarm_keeps_alarm (a : AlarmPattern) {s : State} (h : AlarmFollowsSlots s) :
    AlarmFollowsSlots (requestZtAlarm a s) := redrive_right _ h.2

theorem evaluateSlew_keeps_alarm {s : State} (h : AlarmFollowsSlots s) : AlarmFollowsSlots (evaluateSlew s) := by
  refine evaluateSlew_keeps (fun p s h => ?_) h
  refine evaluateOn_keeps (fun s h => h) (fun i k b s h => h.of_frame (settleIntrusion_frame i k b s) rfl)
    (fun f s h => h) (fun set s h => h) (fun a s h => requestSlAlarm_keeps_alarm a h)
    (fun a b c s h => h.of_frame (countCuts_frame a b c s) rfl) (fun n s h => h) p h

theorem settleUnanchored_keeps_alarm {s : State} (h : AlarmFollowsSlots s) : AlarmFollowsSlots (settleUnanchored s) := by
  unfold settleUnanchored
  simp only []
  split_ifs
  · exact h
  · exact requestZtAlarm_keeps_alarm _ (s := { s with zt := { s.zt with unanchored := unanchoredCount s.zt.zones } }) h

theorem settleOverdig_keeps_alarm (p : Pose) {s : State} (h : AlarmFollowsSlots s) : AlarmFollowsSlots (settleOverdig p s) := by
  unfold settleOverdig
  simp only []
  split_ifs
  · exact requestPsAlarm_keeps_alarm _ (s := queueNotice _ (onPs _ s)) h
  · exact requestPsAlarm_keeps_alarm _ (s := queueNotice _ (onPs _ s)) h
  · exact h

theorem rearmZones_keeps_alarm (a : Authority) {s : State} (h : AlarmFollowsSlots s) : AlarmFollowsSlots (rearmZones a s) :=
  evaluateSlew_keeps_alarm ((h.of_frame (withZones_frame _ s) rfl).of_frame (zoneNotices_frame _ _) rfl)

theorem travelZones_keeps_alarm {s : State} (h : AlarmFollowsSlots s) : AlarmFollowsSlots (travelZones s) := by
  unfold travelZones
  simp only []
  split_ifs
  · exact evaluateSlew_keeps_alarm (settleUnanchored_keeps_alarm
      ((h.of_frame (withZones_frame _ s) rfl).of_frame (zoneNotices_frame _ _) rfl))
  · exact h

theorem replaceZone_keeps_alarm (k : Fin 16) (z : Option Zone) {s : State} (h : AlarmFollowsSlots s) :
    AlarmFollowsSlots (replaceZone k z s) := by
  unfold replaceZone
  simp only []
  refine anyOrder_keeps (fun s h => h) _ _ (fun f m u hu => ?_) ((h.of_frame (onZone_frame k _ s) rfl).of_frame
    (markedIf_frame _ _) rfl)
  rcases mem_ite_append_singleton m with rfl | rfl
  · exact settleUnanchored_keeps_alarm hu
  · exact evaluateSlew_keeps_alarm (hu.of_frame (forgetZone_frame k u) rfl)

theorem moveZone_keeps_alarm (k : Fin 16) (z : ZoneState) {s : State} (h : AlarmFollowsSlots s) :
    AlarmFollowsSlots (moveZone k z s) := evaluateSlew_keeps_alarm (h.of_frame (onZone_frame k _ s) rfl)

theorem reanchorZones_keeps_alarm (d : Angle) {s : State} (h : AlarmFollowsSlots s) :
    AlarmFollowsSlots (reanchorZones d s) := by
  unfold reanchorZones
  simp only []
  refine evaluateSlew_keeps_alarm (settleUnanchored_keeps_alarm (AlarmFollowsSlots.of_frame (zoneNotices_frame _ _) rfl ?_))
  split_ifs <;> exact h

theorem deliverHealthToSl_keeps_alarm (x : Health) {s : State} (h : AlarmFollowsSlots s) :
    AlarmFollowsSlots (deliverHealthToSl x s) := evaluateSlew_keeps_alarm (s := onSl _ s) h

theorem settleAuthority_keeps_alarm {s : State} (h : AlarmFollowsSlots s) : AlarmFollowsSlots (settleAuthority s) := by
  unfold settleAuthority
  simp only []
  split_ifs
  · exact h
  · exact rearmZones_keeps_alarm _ (s := queueNotice _ (onMlu _ s)) h

theorem readInputs_keeps_alarm (x : InputSamples) {s : State} (h : AlarmFollowsSlots s) :
    AlarmFollowsSlots (readInputs x s) := by
  refine readInputs_keeps (fun s h => h) x (fun s h => h) (fun f m u hu => ?_) s h
  simp only [List.mem_cons, List.not_mem_nil, or_false] at m
  rcases m with rfl | rfl | rfl | rfl | rfl | rfl | rfl
  · exact hu.of_frame (takeActivity_frame _) rfl
  · exact hu.of_frame (takeSeatChange_frame _) rfl
  · exact travelZones_keeps_alarm hu
  · exact hu.of_frame (toUnknown_frame _) rfl
  · exact hu.of_frame (travelLoads_frame _) rfl
  · exact hu.of_frame (travelEndedAtCt_frame _) rfl
  · exact settleAuthority_keeps_alarm hu

theorem completePose_keeps_alarm (c : Computation) {s : State} (h : AlarmFollowsSlots s) :
    AlarmFollowsSlots (completePose c s) := by
  unfold completePose
  simp only []
  refine AlarmFollowsSlots.of_frame (startPending_frame _) rfl ?_
  refine deliverPose_keeps (fun s h => h) _ _ (fun f m u hu => ?_) (AlarmFollowsSlots.of_frame (takePoseAtCt_frame _ _) rfl
    (AlarmFollowsSlots.of_frame (serveTip_frame _ _) rfl (settleOverdig_keeps_alarm _ h)))
  simp only [List.mem_cons, List.not_mem_nil, or_false] at m
  rcases m with rfl | rfl | rfl | rfl | rfl
  · exact evaluateSlew_keeps_alarm (s := onSl _ u) hu
  · exact hu.of_frame (hardFail_frame _ _) rfl
  · exact hu.of_frame (arrivePass_frame _ _) rfl
  · exact hu.of_frame (takeActivity_frame _) rfl
  · exact hu.of_frame (takePhaseChange_frame _ _) rfl

theorem changeChannel_keeps_alarm (ch : Fin 6) (g : Channel → Channel) {s : State} (h : AlarmFollowsSlots s) :
    AlarmFollowsSlots (changeChannel ch g s) := by
  refine changeChannel_keeps (fun s h => h) ch g (fun a b f m u hu => ?_) h
  simp only [List.mem_cons, List.not_mem_nil, or_false] at m
  rcases m with rfl | rfl | rfl | rfl
  · exact hu
  · exact hu.of_frame (requestComputation_frame _) rfl
  · exact deliverHealthToSl_keeps_alarm b hu
  · exact hu.of_frame (deliverHealthToCt_frame _ _) rfl

theorem arriveFrame_keeps_alarm (ch : Fin 6) (bytes : List Byte) {s : State} (h : AlarmFollowsSlots s) :
    AlarmFollowsSlots (arriveFrame ch bytes s) := by
  refine arriveFrame_keeps (fun s h => h) ch bytes (fun a b x f m u hu => ?_) h
  simp only [List.mem_cons, List.not_mem_nil, or_false] at m
  rcases m with rfl | rfl | rfl | rfl | rfl | rfl
  · exact hu
  · exact hu.of_frame (requestComputation_frame _) rfl
  · exact deliverHealthToSl_keeps_alarm b hu
  · exact hu.of_frame (deliverHealthToCt_frame _ _) rfl
  · exact hu.of_frame (readSlewTravel_frame _ _) rfl
  · exact hu.of_frame (drainPressure_frame _) rfl

/-- A reset drives the pattern of the Zone Table's slot alone, as the slot's request begins (R34, R74, R75). -/
theorem mluFresh_right (a : AlarmPattern) : AlarmRight (Mlu.fresh a) := by
  cases a <;> exact ⟨rfl, by decide, by decide⟩

theorem exec_keeps_alarm {c : Instr} {s t : State} (hs : AlarmFollowsSlots s) (e : exec c s = .next t) : AlarmFollowsSlots t := by
  have touches {s t : State} (h : Touches {} s t) (hs : AlarmFollowsSlots s) : AlarmFollowsSlots t := hs.of_touches h rfl
  cases c with
  | restartTakesEffect | powerOn | powerLoss =>
    rcases exec_reset e trivial with rfl | ⟨-, rfl⟩ | ⟨strap, rfl⟩ | ⟨image, rfl⟩
    · exact hs
    all_goals exact mluFresh_right _
  | sensorFrameArrival ch char =>
    rcases sensorFrameArrival_cases e with rfl | ⟨bytes, -, -, -, rfl⟩
    · exact hs
    · exact arriveFrame_keeps_alarm ch _ hs
  | breakDetected ch | breakEnd ch | staleTimerExpiry ch | silentTimerExpiry ch =>
    rcases eq_or_of_whenDue e with rfl | ⟨-, rfl⟩
    · exact hs
    · exact changeChannel_keeps_alarm ch _ hs
  | inputLevelChange x =>
    rcases eq_or_of_whenDue e with rfl | ⟨-, rfl⟩
    · exact hs
    · exact readInputs_keeps_alarm x hs
  | inputReading x =>
    rcases eq_or_of_whenDue e with rfl | ⟨-, rfl⟩ <;> exact hs
  | alarmCadence =>
    -- the cadence runs for PULSE and CHIRP alone, which neither rule of the sounder names
    rcases alarmCadence_cases e with rfl | ⟨len, hlen, rfl⟩
    · exact hs
    · refine ⟨hs.1, fun hd => ?_, fun hd => ?_⟩ <;>
      · rw [show s.mlu.driven = _ from hd] at hlen
        cases hlen
  | poseCompletion =>
    rcases poseCompletion_cases e with rfl | ⟨c, -, rfl⟩
    · exact hs
    · exact completePose_keeps_alarm c hs
  | channelSet tag body =>
    refine interpret_keeps touches e (fun u hu => ?_) hs
    rcases channelSetOwner_cases body u with h | ⟨ch, new, -, h⟩ <;> rw [h]
    · exact hu
    · exact changeChannel_keeps_alarm ch _ (hu.of_frame (markedIf_frame _ _) rfl)
  | channelRestart tag body =>
    refine interpret_keeps touches e (fun u hu => ?_) hs
    rcases channelRestartOwner_cases body u with h | ⟨ch, -, h⟩ <;> rw [h]
    · exact hu
    · exact changeChannel_keeps_alarm ch _ hu
  | zoneWrite tag body =>
    refine interpret_keeps touches e (fun u hu => ?_) hs
    rcases zoneWriteOwner_cases body u with h | ⟨k, z, -, h⟩ <;> rw [h]
    · exact hu
    · exact replaceZone_keeps_alarm k z hu
  | zoneClear tag body =>
    refine interpret_keeps touches e (fun u hu => ?_) hs
    rcases zoneClearOwner_cases body u with h | ⟨k, h⟩ <;> rw [h]
    · exact hu
    · exact replaceZone_keeps_alarm k none hu
  | zoneSuspend tag body =>
    refine interpret_keeps touches e (fun u hu => ?_) hs
    rcases zoneSuspendOwner_cases body u with h | ⟨k, z, -, -, -, h⟩ <;> rw [h]
    · exact hu
    · exact moveZone_keeps_alarm _ _ hu
  | zoneResume tag body =>
    refine interpret_keeps touches e (fun u hu => ?_) hs
    rcases zoneResumeOwner_cases body u with h | ⟨k, z, -, -, h⟩ <;> rw [h]
    · exact hu
    · exact moveZone_keeps_alarm _ _ hu
  | reanchor tag body =>
    refine interpret_keeps touches e (fun u hu => ?_) hs
    rcases reanchorOwner_cases body u with h | ⟨d, h⟩ <;> rw [h]
    · exact hu
    · exact reanchorZones_keeps_alarm d hu
  | slewSettings tag body =>
    refine interpret_keeps touches e (fun u hu => ?_) hs
    rcases slewSettingsOwner_cases body u with h | ⟨new, -, h⟩ <;> rw [h]
    · exact hu
    · exact evaluateSlew_keeps_alarm (AlarmFollowsSlots.of_frame (markedIf_frame _ _) rfl hu)
  | _ => exact hs.of_touches (exec_touches id e) rfl

/-- Settles O9: every request works the driven pattern out afresh, and the cadence switches only PULSE and CHIRP. -/
theorem stepKeepsAlarmFollowingSlots : Obligations.StepKeepsAlarmFollowingSlots := by
  intro s t hs h
  rcases step_cases h with rfl | ⟨c, q, e⟩
  · exact hs.of_touches (tick_touches s) rfl
  · exact exec_keeps_alarm (s := s.withPending q) hs e

end Sys2Proof.Machine

/-! PROOFS. What every step keeps: the channel contexts (R8, R12, R14, R16, R17, R19, R20, R23). -/

namespace Sys2Proof.Machine

/-! ## Changes of one context -/

/-- The eleven statistics of a channel stay within 16 bits (R19). -/
def StatsBounded (t : ChannelStats) : Prop :=
  ∀ n ∈ [t.framesSeen, t.accepted, t.framing, t.check, t.typeReject, t.foreign, t.chatter, t.overrun, t.missed,
    t.superseded, t.breaks], n ≤ 65535

theorem statsBounded_iff (t : ChannelStats) : StatsBounded t ↔ t.framesSeen ≤ 65535 ∧ t.accepted ≤ 65535 ∧
    t.framing ≤ 65535 ∧ t.check ≤ 65535 ∧ t.typeReject ≤ 65535 ∧ t.foreign ≤ 65535 ∧ t.chatter ≤ 65535 ∧
    t.overrun ≤ 65535 ∧ t.missed ≤ 65535 ∧ t.superseded ≤ 65535 ∧ t.breaks ≤ 65535 := by
  simp [StatsBounded]

theorem satAdd_max16_le (n k : Nat) : satAdd max16 n k ≤ 65535 := Nat.min_le_left _ _

/-- The part of a context's consistency that its health, its timers and its runs make (R12, R14, R16, R17, R20). -/
def HealthConsistent (c : Channel) : Prop :=
  (c.settings.enable = false ↔ c.health = .off) ∧ c.rejectRun ≤ 8 ∧
    (c.health = .acquiring ∨ c.health = .live ∨ c.health = .stale → c.rejectRun < 8) ∧ c.faultRun ≤ 3 ∧
    (c.staleTimer.isSome ↔ c.health = .live) ∧ (c.silentTimer.isSome ↔ c.health = .stale)

/-- The part that its FIFO makes (R8, R12). -/
def FifoConsistent (c : Channel) : Prop := c.fifo.length ≤ 4 ∧ (c.health = .off → c.fifo = [])

theorem channelConsistent_iff (c : Channel) :
    ChannelConsistent c ↔ HealthConsistent c ∧ FifoConsistent c ∧ StatsBounded c.stats := by
  unfold ChannelConsistent HealthConsistent FifoConsistent StatsBounded
  tauto

/-- A context in which nothing but the assembler, the break detector, the latched flags and the sample flags differ. -/
theorem ChannelConsistent.congr {c d : Channel} (h : ChannelConsistent c) (settings : d.settings = c.settings)
    (health : d.health = c.health) (reject : d.rejectRun = c.rejectRun) (fault : d.faultRun = c.faultRun)
    (stale : d.staleTimer = c.staleTimer) (silent : d.silentTimer = c.silentTimer)
    (fifo : d.fifo.length ≤ c.fifo.length) (stats : StatsBounded d.stats) : ChannelConsistent d := by
  rw [channelConsistent_iff] at h ⊢
  obtain ⟨hh, ⟨hlen, hoff⟩, -⟩ := h
  refine ⟨?_, ⟨fifo.trans hlen, fun e => ?_⟩, stats⟩
  · unfold HealthConsistent at hh ⊢
    rw [settings, health, reject, fault, stale, silent]; exact hh
  · rw [health] at e
    rw [hoff e] at fifo
    exact List.length_eq_zero_iff.1 (Nat.le_zero.1 fifo)

theorem ChannelConsistent.stats {c : Channel} (h : ChannelConsistent c) : StatsBounded c.stats :=
  ((channelConsistent_iff c).1 h).2.2

theorem emptied_consistent {c : Channel} (h : ChannelConsistent c) : ChannelConsistent (emptied c) := by
  have hs := (statsBounded_iff _).1 h.stats
  refine h.congr rfl rfl rfl rfl rfl rfl (Nat.zero_le _) ((statsBounded_iff _).2 ?_)
  simp only [emptied]
  omega

theorem drained_consistent {c : Channel} {left : List Sample} (hle : left.length ≤ c.fifo.length) (h : ChannelConsistent c) :
    ChannelConsistent (drained left c) := h.congr rfl rfl rfl rfl rfl rfl hle h.stats

theorem clearCounts_consistent {c : Channel} (h : ChannelConsistent c) : ChannelConsistent (Channel.clearCounts c) :=
  h.congr rfl rfl rfl rfl rfl rfl le_rfl ((statsBounded_iff _).2 (by simp [Channel.clearCounts]))

/-- An entry to ACQUIRING of an enabled channel (R12). -/
theorem enterAcquiring_consistent {c : Channel} (enabled : c.settings.enable = true) (fifo : c.fifo.length ≤ 4)
    (stats : StatsBounded c.stats) : ChannelConsistent c.enterAcquiring := by
  rw [channelConsistent_iff]
  refine ⟨?_, ⟨fifo, by simp [Channel.enterAcquiring, Channel.stopTimers]⟩, stats⟩
  simp [HealthConsistent, Channel.enterAcquiring, Channel.stopTimers, enabled]

theorem freshAcquisition_consistent {c : Channel} (enabled : c.settings.enable = true) (stats : StatsBounded c.stats) :
    ChannelConsistent c.freshAcquisition := enterAcquiring_consistent enabled (by simp) stats

/-- A failure of an enabled channel (R14 to R17). -/
theorem fail_consistent {c : Channel} (r : FailReason) (enabled : c.settings.enable = true) (fifo : c.fifo.length ≤ 4)
    (reject : c.rejectRun ≤ 8) (fault : c.faultRun ≤ 3) (stats : StatsBounded c.stats) :
    ChannelConsistent (c.fail r) := by
  rw [channelConsistent_iff]
  refine ⟨?_, ⟨fifo, by simp [Channel.fail, Channel.stopTimers]⟩, stats⟩
  simp [HealthConsistent, Channel.fail, Channel.stopTimers, enabled, reject, fault]

theorem disable_consistent {c : Channel} (disabled : c.settings.enable = false) (reject : c.rejectRun ≤ 8)
    (fault : c.faultRun ≤ 3) (stats : StatsBounded c.stats) : ChannelConsistent c.disable := by
  rw [channelConsistent_iff]
  refine ⟨?_, ⟨by simp [Channel.disable, Channel.stopTimers], by simp [Channel.disable, Channel.stopTimers]⟩, stats⟩
  simp [HealthConsistent, Channel.disable, Channel.stopTimers, disabled, reject, fault]

theorem reset_consistent (new : ChannelSettings) (completing : Bool) {c : Channel} (h : ChannelConsistent c) :
    ChannelConsistent (Channel.reset new completing c) := by
  obtain ⟨⟨-, reject, -, fault, -⟩, -, stats⟩ := (channelConsistent_iff c).1 h
  cases enabled : new.enable with
  | true =>
    simp only [Channel.reset, enabled, if_true]
    exact (freshAcquisition_consistent (c := { c with settings := new }) enabled stats).congr rfl rfl rfl rfl rfl rfl
      le_rfl stats
  | false =>
    simp only [Channel.reset, enabled, Bool.false_eq_true, if_false]
    exact disable_consistent (c := { c with settings := new }) enabled reject fault stats

theorem goStale_consistent {c : Channel} (live : c.health = .live) (h : ChannelConsistent c) : ChannelConsistent c.goStale := by
  rw [channelConsistent_iff] at h ⊢
  obtain ⟨⟨h1, h2, h3, h4, h5, h6⟩, ⟨h7, -⟩, hs⟩ := h
  refine ⟨?_, ⟨h7, by simp [Channel.goStale]⟩, hs⟩
  simp_all [HealthConsistent, Channel.goStale]

/-! ## A frame at one context -/

/-- A sample enters the FIFO of a channel that is not OFF (R8). -/
theorem enqueue_consistent (x : Sample) {c : Channel} (on : c.health ≠ .off) (h : ChannelConsistent c) :
    ChannelConsistent (c.enqueue x) := by
  obtain ⟨health, ⟨len, -⟩, stats⟩ := (channelConsistent_iff c).1 h
  have hs := (statsBounded_iff _).1 stats
  rw [channelConsistent_iff]
  unfold Channel.enqueue
  split_ifs
  · exact ⟨health, ⟨by simp [Channel.noteHead], fun e => absurd e on⟩, stats⟩
  · exact ⟨health, ⟨by simp; omega, fun e => absurd e on⟩, stats⟩
  · refine ⟨health, ⟨by simp [Channel.onStats]; omega, fun e => absurd e on⟩, (statsBounded_iff _).2 ?_⟩
    simp only [Channel.onStats, satAdd, max16]
    omega

/-- The health and the timers that an accepted sample gives fit each other (R13, R14). -/
theorem judgeSample_consistent (fault : Bool) (now : Stamp) {c : Channel} (h : ChannelConsistent c) :
    ChannelConsistent (Channel.judgeSample fault now c) := by
  rw [channelConsistent_iff] at h ⊢
  obtain ⟨⟨h1, h2, h3, h4, h5, h6⟩, ⟨h7, h8⟩, hs⟩ := h
  unfold Channel.judgeSample
  cases hh : c.health <;> simp only [hh] at h1 h3 h5 h6 h8 ⊢
  case acquiring =>
    split_ifs <;> refine ⟨?_, ⟨h7, by simp_all [Channel.goLive]⟩, hs⟩ <;> simp_all [HealthConsistent, Channel.goLive]
  case stale =>
    split_ifs <;> refine ⟨?_, ⟨h7, by simp_all [Channel.goLive]⟩, hs⟩ <;> simp_all [HealthConsistent, Channel.goLive]
  all_goals
    refine ⟨?_, ⟨h7, by simp_all⟩, hs⟩
    simp_all [HealthConsistent]

/-- The third FAULT sample in a row fails an enabled channel (R17). -/
theorem countFault_consistent (fault : Bool) {c : Channel} (enabled : c.settings.enable = true) (h : ChannelConsistent c) :
    ChannelConsistent (Channel.countFault fault c) := by
  obtain ⟨⟨h1, h2, h3, h4, h5, h6⟩, ⟨h7, h8⟩, hs⟩ := (channelConsistent_iff c).1 h
  unfold Channel.countFault
  simp only []
  generalize hn : (if fault = true then min 3 (c.faultRun + 1) else 0) = n
  have run : n ≤ 3 := by rw [← hn]; split_ifs <;> omega
  have counted : ChannelConsistent { c with faultRun := n } := by
    rw [channelConsistent_iff]; exact ⟨⟨h1, h2, h3, run, h5, h6⟩, ⟨h7, h8⟩, hs⟩
  split
  · exact counted
  · exact counted
  · exact counted
  · split_ifs
    · exact fail_consistent _ enabled h7 h2 run hs
    · exact counted

/-- An enabled channel is not OFF (R12). -/
theorem ChannelConsistent.not_off {c : Channel} (h : ChannelConsistent c) (enabled : c.settings.enable = true) :
    c.health ≠ .off := fun e => by
  have := h.1.2 e
  simp [enabled] at this

theorem judgeSample_settings (fault : Bool) (now : Stamp) (c : Channel) :
    (Channel.judgeSample fault now c).settings = c.settings := by
  unfold Channel.judgeSample
  cases c.health <;> simp only [] <;> split_ifs <;> rfl

theorem countFault_settings (fault : Bool) (c : Channel) : (Channel.countFault fault c).settings = c.settings := by
  unfold Channel.countFault
  simp only []
  split
  · rfl
  · rfl
  · rfl
  · split_ifs <;> rfl

/-- A frame accepted by an enabled channel (R6 to R8, R12 to R17). -/
theorem accept_consistent (ch : Fin 6) (bytes : List Byte) (now : Stamp) {c : Channel} (enabled : c.settings.enable = true)
    (h : ChannelConsistent c) : ChannelConsistent (Channel.accept ch bytes now c) := by
  unfold Channel.accept
  simp only []
  generalize hd : (if (Health.endsByGoodSample c.health && !decide (2 ≤ frameStatus bytes)) = true then c.enterAcquiring
    else c) = d
  have hdc : ChannelConsistent d ∧ d.settings = c.settings := by
    rw [← hd]
    split_ifs
    · exact ⟨enterAcquiring_consistent enabled h.2.1 h.stats, rfl⟩
    · exact ⟨h, rfl⟩
  obtain ⟨hc, hset⟩ := hdc
  have stats := (statsBounded_iff _).1 hc.stats
  have counted : ChannelConsistent { d.onStats fun t =>
      { t with accepted := satAdd max16 t.accepted 1
               missed := satAdd max16 t.missed (missedAt d.lastFrame (frameSeq bytes)) } with rejectRun := 0 } := by
    obtain ⟨⟨h1, -, -, h4, h5, h6⟩, hf, -⟩ := (channelConsistent_iff d).1 hc
    rw [channelConsistent_iff]
    refine ⟨⟨h1, Nat.zero_le _, fun _ => Nat.zero_lt_succ 7, h4, h5, h6⟩, hf, (statsBounded_iff _).2 ?_⟩
    simp only [Channel.onStats, satAdd, max16]
    omega
  have judged := countFault_consistent (decide (2 ≤ frameStatus bytes)) (by
    rw [judgeSample_settings]; exact hset ▸ enabled) (judgeSample_consistent (decide (2 ≤ frameStatus bytes)) now counted)
  refine enqueue_consistent _ (judged.not_off ?_) (judged.congr rfl rfl rfl rfl rfl rfl le_rfl judged.stats)
  rw [countFault_settings, judgeSample_settings]; exact hset ▸ enabled

/-- An identity reject at an enabled channel: the run that reaches 8 fails it (R16). -/
theorem rejectIdentity_consistent {c : Channel} (enabled : c.settings.enable = true) (h : ChannelConsistent c) :
    ChannelConsistent (Channel.rejectIdentity c) := by
  obtain ⟨⟨h1, h2, h3, h4, h5, h6⟩, ⟨h7, h8⟩, hs⟩ := (channelConsistent_iff c).1 h
  have counted (below : c.health = .acquiring ∨ c.health = .live ∨ c.health = .stale → min 8 (c.rejectRun + 1) < 8) :
      ChannelConsistent { c with rejectRun := min 8 (c.rejectRun + 1) } := by
    rw [channelConsistent_iff]
    exact ⟨⟨h1, Nat.min_le_left _ _, below, h4, h5, h6⟩, ⟨h7, h8⟩, hs⟩
  have judged : ChannelConsistent (if (min 8 (c.rejectRun + 1) == 8 && c.rejectRun != 8) = true then
      Channel.fail .miswired { c with rejectRun := min 8 (c.rejectRun + 1) }
      else { c with rejectRun := min 8 (c.rejectRun + 1) }) := by
    split_ifs with reached
    · exact fail_consistent _ enabled h7 (Nat.min_le_left _ _) h4 hs
    · refine counted fun h => ?_
      have := h3 h
      simp at reached
      omega
  unfold Channel.rejectIdentity
  simp only []
  split
  · exact judged
  · exact judged
  · exact judged
  · next hh => exact counted (by simp [hh])
  · next hh => exact counted (by simp [hh])

/-- What a frame makes of the context of an enabled channel, by its verdict (R3 to R8). -/
theorem afterFrame_consistent (ch : Fin 6) (bytes : List Byte) (now : Stamp) {c : Channel} (enabled : c.settings.enable = true)
    (h : ChannelConsistent c) : ChannelConsistent (Channel.afterFrame ch bytes now c) := by
  have stats := (statsBounded_iff _).1 h.stats
  have counted (f : ChannelStats → ChannelStats) (hf : StatsBounded (f c.stats)) : ChannelConsistent (c.onStats f) :=
    h.congr rfl rfl rfl rfl rfl rfl le_rfl hf
  unfold Channel.afterFrame Channel.seen
  split
  · refine counted _ ((statsBounded_iff _).2 ?_); simp only [satAdd, max16]; omega
  · refine rejectIdentity_consistent enabled (h.congr rfl rfl rfl rfl rfl rfl le_rfl ((statsBounded_iff _).2 ?_))
    simp only [Channel.onStats, satAdd, max16]; omega
  · refine rejectIdentity_consistent enabled (h.congr rfl rfl rfl rfl rfl rfl le_rfl ((statsBounded_iff _).2 ?_))
    simp only [Channel.onStats, satAdd, max16]; omega
  · refine h.congr rfl rfl rfl rfl rfl rfl le_rfl ((statsBounded_iff _).2 ?_)
    simp only [Channel.onStats, satAdd, max16]; omega
  · refine accept_consistent ch bytes now enabled (counted _ ((statsBounded_iff _).2 ?_))
    simp only [satAdd, max16]; omega

/-! ## Line events at one context -/

theorem takeBreak_consistent {c : Channel} (enabled : c.settings.enable = true) (h : ChannelConsistent c) :
    ChannelConsistent (Channel.takeBreak c) := by
  obtain ⟨⟨h1, h2, h3, h4, h5, h6⟩, ⟨h7, h8⟩, hs⟩ := (channelConsistent_iff c).1 h
  have counted : StatsBounded { c.stats with breaks := satAdd max16 c.stats.breaks 1 } := by
    have := (statsBounded_iff _).1 hs
    rw [statsBounded_iff]; simp only [satAdd, max16]; omega
  unfold Channel.takeBreak
  simp only []
  split
  · exact h.congr rfl rfl rfl rfl rfl rfl le_rfl hs
  · exact h.congr rfl rfl rfl rfl rfl rfl le_rfl counted
  · exact fail_consistent _ enabled h7 h2 h4 counted

theorem endBreak_consistent {c : Channel} (enabled : c.settings.enable = true) (h : ChannelConsistent c) :
    ChannelConsistent (Channel.endBreak c) := by
  unfold Channel.endBreak
  simp only []
  split_ifs
  · exact enterAcquiring_consistent enabled h.2.1 h.stats
  · exact h.congr rfl rfl rfl rfl rfl rfl le_rfl h.stats

/-! ## The six contexts -/

theorem ChannelsConsistent.of_touches {b : Blocks} {s t : State} (h : Touches b s t) (hb : b.scu = false)
    (hs : ChannelsConsistent s) : ChannelsConsistent t := by
  unfold ChannelsConsistent
  rw [h.scu hb]; exact hs

theorem ChannelsConsistent.of_frame {b : Blocks} {s t : State} (h : Frame b s t) (hb : b.scu = false)
    (hs : ChannelsConsistent s) : ChannelsConsistent t := hs.of_touches h.touches hb

/-- A consistent context in the place of one keeps all consistent. -/
theorem ChannelsConsistent.set {s t : State} (hs : ChannelsConsistent s) (ch : Fin 6) {c : Channel}
    (hc : ChannelConsistent c) (e : t.scu = s.scu.set ch c) : ChannelsConsistent t := by
  intro k
  have hk : t.scu[k] = if ch.val = k.val then c else s.scu[k] := by
    simp only [e, Fin.getElem_fin, Vector.getElem_set]
  rw [hk]
  split_ifs
  · exact hc
  · exact hs k

theorem onChannel_keeps_channels (ch : Fin 6) (f : Channel → Channel) {s : State} (hs : ChannelsConsistent s)
    (hc : ChannelConsistent (f s.scu[ch])) : ChannelsConsistent (onChannel ch f s) := hs.set ch hc rfl

theorem startComputation_keeps_channels {s : State} (hs : ChannelsConsistent s) :
    ChannelsConsistent (startComputation s) := by
  rw [startComputation_eq]
  intro ch
  fin_cases ch
  · exact emptied_consistent (hs 0)
  · exact emptied_consistent (hs 1)
  · exact emptied_consistent (hs 2)
  · exact emptied_consistent (hs 3)
  · exact emptied_consistent (hs 4)
  · exact hs 5

theorem requestComputation_keeps_channels {s : State} (hs : ChannelsConsistent s) :
    ChannelsConsistent (requestComputation s) := by
  unfold requestComputation
  split_ifs
  · exact hs
  · exact startComputation_keeps_channels hs

theorem withPressureTaken_keeps_channels (ct : Ct) {s : State} (hs : ChannelsConsistent s) :
    ChannelsConsistent (withPressureTaken ct s) :=
  hs.set 5 (drained_consistent (pressureTaken_length _ _ _) (hs 5)) rfl

theorem drainPressure_keeps_channels {s : State} (hs : ChannelsConsistent s) : ChannelsConsistent (drainPressure s) := by
  rw [drainPressure_eq]; exact withPressureTaken_keeps_channels _ hs

theorem endRun_keeps_channels (r : Run) (o : RunOutcome) {s : State} (hs : ChannelsConsistent s) :
    ChannelsConsistent (endRun r o s) := drainPressure_keeps_channels (s := queueNotice _ (onCt _ s)) hs

theorem hardFail_keeps_channels (cause : RunFailure) {s : State} (hs : ChannelsConsistent s) :
    ChannelsConsistent (hardFail cause s) := by
  unfold hardFail; split
  · exact hs
  · exact endRun_keeps_channels _ _ hs

theorem nextStep_keeps_channels {s : State} (hs : ChannelsConsistent s) : ChannelsConsistent (nextStep s) := by
  unfold nextStep; split
  · exact hs
  · exact drainPressure_keeps_channels (s := onCt _ s) hs

/-- A step judged counts a soft error, collects a mean, or writes the tables; then the run goes on or ends (R111 to R114). -/
theorem judgeStep_cases (r : Run) (w : Window) (s : State) : ∃ u,
    (u = s ∨ (∃ r', u = onCt (fun ct => { ct with run := some r' }) s) ∨ ∃ a b, u = writeTables a b s) ∧
      (judgeStep r w s = nextStep u ∨ ∃ r' o, judgeStep r w s = endRun r' o u) := by
  have soft (r : Run) : ∃ u,
      (u = s ∨ (∃ r', u = onCt (fun ct => { ct with run := some r' }) s) ∨ ∃ a b, u = writeTables a b s) ∧
        (softError r s = nextStep u ∨ ∃ r' o, softError r s = endRun r' o u) := by
    unfold softError
    simp only []
    split_ifs
    · exact ⟨s, .inl rfl, .inr ⟨_, _, rfl⟩⟩
    · exact ⟨s, .inl rfl, .inr ⟨_, _, rfl⟩⟩
    · exact ⟨_, .inr (.inl ⟨_, rfl⟩), .inl rfl⟩
  unfold judgeStep
  split
  · unfold judgeEmpty
    simp only []
    split_ifs
    · exact ⟨s, .inl rfl, .inl rfl⟩
    · exact soft r
    · exact ⟨s, .inl rfl, .inl rfl⟩
    · exact ⟨_, .inr (.inr ⟨_, _, rfl⟩), .inr ⟨_, _, rfl⟩⟩
    · exact ⟨_, .inr (.inl ⟨_, rfl⟩), .inl rfl⟩
  · unfold judgeGain
    split
    · split_ifs
      · exact soft r
      · exact ⟨_, .inr (.inr ⟨_, _, rfl⟩), .inr ⟨_, _, rfl⟩⟩
    · exact soft r

theorem judgeStep_keeps_channels (r : Run) (w : Window) {s : State} (hs : ChannelsConsistent s) :
    ChannelsConsistent (judgeStep r w s) := by
  obtain ⟨u, hu, h⟩ := judgeStep_cases r w s
  have hu : ChannelsConsistent u := by
    rcases hu with rfl | ⟨r', rfl⟩ | ⟨a, b, rfl⟩
    · exact hs
    · exact hs
    · exact hs.of_frame (writeTables_frame a b s) rfl
  rcases h with h | ⟨r', o, h⟩ <;> rw [h]
  · exact nextStep_keeps_channels hu
  · exact endRun_keeps_channels _ _ hu

theorem mem_ite_singleton {α : Type} {p : Prop} [Decidable p] {f a : α} (m : f ∈ if p then [a] else []) : p ∧ f = a := by
  split_ifs at m with h
  · exact ⟨h, by simpa using m⟩
  · simp at m

/-- A health of channel 5 at the Cycle Tracker ends a run or makes the force absent, in either order (R96, R115). -/
theorem mem_ctHealthActions {p q : Prop} [Decidable p] [Decidable q] {a : RunFailure} {g : Ct → Ct} {f : State → State}
    (m : f ∈ (if p then [hardFail a] else []) ++ if q then [onCt g] else []) : f = hardFail a ∨ f = onCt g := by
  by_cases hp : p <;> by_cases hq : q <;> simp [hp, hq] at m <;> tauto

theorem deliverHealthToCt_keeps_channels (h : Health) {s : State} (hs : ChannelsConsistent s) :
    ChannelsConsistent (deliverHealthToCt h s) := by
  unfold deliverHealthToCt
  simp only []
  refine anyOrder_keeps (fun s h => h) _ _ (fun f m u hu => ?_) hs
  rcases mem_ctHealthActions m with rfl | rfl
  · exact hardFail_keeps_channels _ hu
  · exact hu

theorem changeChannel_keeps_channels (ch : Fin 6) (g : Channel → Channel) {s : State} (hs : ChannelsConsistent s)
    (hc : ChannelConsistent (g s.scu[ch])) : ChannelsConsistent (changeChannel ch g s) := by
  refine changeChannel_keeps (fun s h => h) ch g (fun a b f m u hu => ?_) (onChannel_keeps_channels ch g hs hc)
  simp only [List.mem_cons, List.not_mem_nil, or_false] at m
  rcases m with rfl | rfl | rfl | rfl
  · exact hu
  · exact requestComputation_keeps_channels hu
  · exact hu.of_frame (deliverHealthToSl_frame _ _) rfl
  · exact deliverHealthToCt_keeps_channels _ hu

theorem arriveFrame_keeps_channels (ch : Fin 6) (bytes : List Byte) {s : State} (hs : ChannelsConsistent s)
    (enabled : s.scu[ch].settings.enable = true) : ChannelsConsistent (arriveFrame ch bytes s) := by
  refine arriveFrame_keeps (fun s h => h) ch bytes (fun a b x f m u hu => ?_) (onChannel_keeps_channels ch _ hs
    (afterFrame_consistent ch bytes _ (c := { s.scu[ch] with assembler := .hunting }) enabled
      ((hs ch).congr rfl rfl rfl rfl rfl rfl le_rfl (hs ch).stats)))
  simp only [List.mem_cons, List.not_mem_nil, or_false] at m
  rcases m with rfl | rfl | rfl | rfl | rfl | rfl
  · exact hu
  · exact requestComputation_keeps_channels hu
  · exact hu.of_frame (deliverHealthToSl_frame _ _) rfl
  · exact deliverHealthToCt_keeps_channels _ hu
  · exact hu.of_frame (readSlewTravel_frame _ _) rfl
  · exact drainPressure_keeps_channels hu

theorem completePose_keeps_channels (c : Computation) {s : State} (hs : ChannelsConsistent s) :
    ChannelsConsistent (completePose c s) := by
  unfold completePose startPending
  simp only []
  have delivered : ChannelsConsistent (deliverPose (assemblePose s.ps c s.now) (serveTip (assemblePose s.ps c s.now)
      (settleOverdig (assemblePose s.ps c s.now)
        (onPs (fun ps => { ps with pose := assemblePose s.ps c s.now, inFlight := none }) s)))) := by
    refine deliverPose_keeps (fun s h => h) _ _ (fun f m u hu => ?_) (ChannelsConsistent.of_frame (takePoseAtCt_frame _ _) rfl
      (ChannelsConsistent.of_frame (serveTip_frame _ _) rfl
        (ChannelsConsistent.of_frame (settleOverdig_frame _ _) rfl (s := onPs _ s) hs)))
    simp only [List.mem_cons, List.not_mem_nil, or_false] at m
    rcases m with rfl | rfl | rfl | rfl | rfl
    · exact hu.of_frame (deliverPoseToSl_frame _ _) rfl
    · exact hardFail_keeps_channels _ hu
    · exact hu.of_frame (arrivePass_frame _ _) rfl
    · exact hu.of_frame (takeActivity_frame _) rfl
    · exact hu.of_frame (takePhaseChange_frame _ _) rfl
  split_ifs
  · exact startComputation_keeps_channels (s := onPs _ _) delivered
  · exact delivered

theorem geometrySetOwner_keeps_channels (body : List Byte) {s : State} (hs : ChannelsConsistent s) :
    ChannelsConsistent (geometrySetOwner body s).1 := by
  unfold geometrySetOwner
  rcases withFields_cases geometrySet? _ body s with e | ⟨g, -, e⟩ <;> rw [e]
  · exact hs
  · refine requestComputation_keeps_channels (anyOrder_keeps (fun s h => h) _ _ (fun f m u hu => ?_) hs)
    rcases List.mem_cons.1 m with rfl | m
    · exact hu.of_frame (replaceGeometry_frame g u) rfl
    · obtain ⟨-, rfl⟩ := mem_ite_singleton m
      exact hardFail_keeps_channels _ hu

theorem gradeSetOwner_keeps_channels (body : List Byte) {s : State} (hs : ChannelsConsistent s) :
    ChannelsConsistent (gradeSetOwner body s).1 := by
  unfold gradeSetOwner requestForGrade
  rcases withFields_cases gradeSet? _ body s with e | ⟨g, -, e⟩ <;> rw [e]
  · exact hs
  · simp only []
    split_ifs
    · exact hs
    · exact startComputation_keeps_channels (s := onPs _ s) hs

theorem cycleSettingsOwner_keeps_channels (body : List Byte) {s : State} (hs : ChannelsConsistent s) :
    ChannelsConsistent (cycleSettingsOwner body s).1 := by
  unfold cycleSettingsOwner
  rcases withFields_cases cycleSettings? _ body s with e | ⟨op, -, e⟩ <;> rw [e]
  · exact hs
  · cases op with
    | read => exact hs
    | write c => exact hardFail_keeps_channels _ (ChannelsConsistent.of_frame (markedIf_frame _ _) rfl (s := onCt _ s) hs)

theorem calibrateCancelOwner_keeps_channels (body : List Byte) {s : State} (hs : ChannelsConsistent s) :
    ChannelsConsistent (calibrateCancelOwner body s).1 := by
  unfold calibrateCancelOwner
  split
  · exact hs
  · exact endRun_keeps_channels _ _ hs

/-- A reset context is consistent (R23). -/
theorem freshChannel_consistent (c : ChannelSettings) : ChannelConsistent c.freshChannel := by
  rw [channelConsistent_iff]
  refine ⟨?_, ⟨by simp [ChannelSettings.freshChannel], fun _ => rfl⟩, ?_⟩
  · cases h : c.enable <;> simp [HealthConsistent, ChannelSettings.freshChannel, ChannelSettings.resetHealth, h]
  · simp [statsBounded_iff, ChannelSettings.freshChannel]

theorem resetChannels_consistent (r : Retained) (ch : Fin 6) : ChannelConsistent (resetChannels r)[ch] := by
  have h : (resetChannels r)[ch] = r.channels[ch].freshChannel := by simp [resetChannels]
  rw [h]; exact freshChannel_consistent _

theorem reset_channelsConsistent : ChannelsConsistent State.reset := fun ch => by
  fin_cases ch <;> exact freshChannel_consistent _

theorem exec_keeps_channels {c : Instr} {s t : State} (hs : ChannelsConsistent s) (e : exec c s = .next t) :
    ChannelsConsistent t := by
  have touches {s t : State} (h : Touches {} s t) (hs : ChannelsConsistent s) : ChannelsConsistent t := hs.of_touches h rfl
  have runs {ch : Fin 6} {b : Bool} (due : (channelRuns ch s && b) = true) : s.scu[ch].settings.enable = true := by
    simp only [channelRuns, Bool.and_eq_true] at due
    exact due.1.2
  cases c with
  | restartTakesEffect | powerOn | powerLoss =>
    rcases exec_reset e trivial with rfl | ⟨-, rfl⟩ | ⟨strap, rfl⟩ | ⟨image, rfl⟩
    · exact hs
    · exact resetChannels_consistent _
    · exact resetChannels_consistent _
    · exact reset_channelsConsistent
  | sensorFrameArrival ch char =>
    rcases sensorFrameArrival_cases e with rfl | ⟨bytes, -, hr, -, rfl⟩
    · exact hs
    · exact arriveFrame_keeps_channels ch _ hs (runs (b := true) (by simp [hr]))
  | sensorCharacter ch char =>
    rcases eq_or_of_whenDue e with rfl | ⟨-, rfl⟩
    · exact hs
    · exact onChannel_keeps_channels ch _ hs ((hs ch).congr rfl rfl rfl rfl rfl rfl le_rfl (hs ch).stats)
  | sensorFramingError ch =>
    rcases eq_or_of_whenDue e with rfl | ⟨-, rfl⟩
    · exact hs
    · have stats := (statsBounded_iff _).1 (hs ch).stats
      refine onChannel_keeps_channels ch _ hs ((hs ch).congr rfl rfl rfl rfl rfl rfl le_rfl ((statsBounded_iff _).2 ?_))
      simp only [Channel.onStats, satAdd, max16]
      omega
  | breakDetectorSample ch high =>
    rcases eq_or_of_whenDue e with rfl | ⟨-, rfl⟩
    · exact hs
    · exact onChannel_keeps_channels ch _ hs ((hs ch).congr rfl rfl rfl rfl rfl rfl le_rfl (hs ch).stats)
  | breakDetected ch =>
    rcases eq_or_of_whenDue e with rfl | ⟨due, rfl⟩
    · exact hs
    · exact changeChannel_keeps_channels ch _ hs (takeBreak_consistent (runs due) (hs ch))
  | breakEnd ch =>
    rcases eq_or_of_whenDue e with rfl | ⟨due, rfl⟩
    · exact hs
    · exact changeChannel_keeps_channels ch _ hs (endBreak_consistent (runs due) (hs ch))
  | staleTimerExpiry ch =>
    rcases eq_or_of_whenDue e with rfl | ⟨due, rfl⟩
    · exact hs
    · simp only [Bool.and_eq_true, decide_eq_true_eq] at due
      exact changeChannel_keeps_channels ch _ hs (goStale_consistent due.1.2 (hs ch))
  | silentTimerExpiry ch =>
    rcases eq_or_of_whenDue e with rfl | ⟨due, rfl⟩
    · exact hs
    · rw [Bool.and_assoc] at due
      obtain ⟨⟨-, reject, -, fault, -⟩, ⟨len, -⟩, stats⟩ := (channelConsistent_iff _).1 (hs ch)
      exact changeChannel_keeps_channels ch _ hs (fail_consistent _ (runs due) len reject fault stats)
  | inputLevelChange x =>
    rcases eq_or_of_whenDue e with rfl | ⟨-, rfl⟩
    · exact hs
    · exact hs.of_frame (readInputs_frame x s) rfl
  | poseCompletion =>
    rcases poseCompletion_cases e with rfl | ⟨c, -, rfl⟩
    · exact hs
    · exact completePose_keeps_channels c hs
  | calibrationStepEnd =>
    rcases calibrationStepEnd_cases e with rfl | ⟨r, w, -, -, rfl⟩
    · exact hs
    · exact judgeStep_keeps_channels r w hs
  | channelSet tag body =>
    refine interpret_keeps touches e (fun u hu => ?_) hs
    rcases channelSetOwner_cases body u with h | ⟨ch, new, -, h⟩ <;> rw [h]
    · exact hu
    · have hm := hu.of_frame (markedIf_frame (new != u.scu[ch].settings) u) rfl
      exact changeChannel_keeps_channels ch _ hm (reset_consistent _ _ (hm ch))
  | channelRestart tag body =>
    refine interpret_keeps touches e (fun u hu => ?_) hs
    rcases channelRestartOwner_cases body u with h | ⟨ch, enabled, h⟩ <;> rw [h]
    · exact hu
    · exact changeChannel_keeps_channels ch _ hu (freshAcquisition_consistent enabled (hu ch).stats)
  | channelStatus tag body =>
    refine interpret_keeps touches e (fun u hu => ?_) hs
    rcases channelStatusOwner_cases body u with h | ⟨ch, h⟩ <;> rw [h]
    · exact hu
    · exact onChannel_keeps_channels ch _ hu (clearCounts_consistent (hu ch))
  | geometrySet tag body => exact interpret_keeps touches e (fun _ h => geometrySetOwner_keeps_channels body h) hs
  | gradeSet tag body => exact interpret_keeps touches e (fun _ h => gradeSetOwner_keeps_channels body h) hs
  | cycleSettings tag body => exact interpret_keeps touches e (fun _ h => cycleSettingsOwner_keeps_channels body h) hs
  | calibrateCancel tag body => exact interpret_keeps touches e (fun _ h => calibrateCancelOwner_keeps_channels body h) hs
  | _ => exact hs.of_touches (exec_touches id e) rfl

/-- Settles O7: each change of a context keeps it consistent, and so do the deliveries that empty a FIFO. -/
theorem stepKeepsChannelsConsistent : Obligations.StepKeepsChannelsConsistent := by
  intro s t hs h
  rcases step_cases h with rfl | ⟨c, q, e⟩
  · exact hs.of_touches (tick_touches s) rfl
  · exact exec_keeps_channels (s := s.withPending q) hs e

end Sys2Proof.Machine

/-! PROOFS. The free order of actions: every interleaving runs its actions one after another, each sequence in its own order. -/

namespace Sys2Proof.Machine

/-- The actions of a list run from `s` to `t` in their order; before each, and at the end, free choices may be read. -/
def Runs : List (State → State) → State → State → Prop
  | [], s, t => ∃ n, t = { s with choices := n }
  | f :: l, s, t => ∃ n, Runs l (f { s with choices := n }) t

theorem runs_foldl (l : List (State → State)) (s : State) : Runs l s (l.foldl (fun s f => f s) s) := by
  induction l generalizing s with
  | nil => exact ⟨s.choices, rfl⟩
  | cons f l ih => exact ⟨s.choices, ih (f s)⟩

/-- The first action of one of some sequences, and then the rest. -/
theorem flatten_perm_cons_set {α : Type} {qs : List (List α)} {k : Nat} {f : α} {r : List α} (h : k < qs.length)
    (e : qs[k] = f :: r) : qs.flatten.Perm (f :: (qs.set k r).flatten) := by
  induction qs generalizing k with
  | nil => simp at h
  | cons q qs ih =>
    cases k with
    | zero =>
      obtain rfl : q = f :: r := e
      exact List.Perm.refl _
    | succ k =>
      have h' : k < qs.length := Nat.lt_of_succ_lt_succ h
      have step := (ih h' e).append_left q
      exact step.trans List.perm_middle

theorem runInterleaved_runs (n : Nat) (qs : List (List (State → State))) (s : State)
    (h : (qs.map List.length).sum ≤ n) : ∃ l : List (State → State), l.Perm qs.flatten ∧ (∀ q ∈ qs, q.Sublist l) ∧
      Runs l s (runInterleaved n qs s) := by
  induction n generalizing qs s with
  | zero =>
    have empty : ∀ q ∈ qs, q = [] := fun q m =>
      List.length_eq_zero_iff.1 (Nat.le_zero.1 ((List.single_le_sum (by simp) _ (List.mem_map_of_mem m)).trans h))
    refine ⟨[], ?_, fun q m => by rw [empty q m], s.choices, rfl⟩
    rw [List.flatten_eq_nil_iff.2 empty]
  | succ n ih =>
    have flat : (qs.filter fun q => !q.isEmpty).flatten = qs.flatten := List.flatten_filter_not_isEmpty
    have sub {l : List (State → State)} (hl : ∀ q ∈ qs.filter (fun q => !q.isEmpty), q.Sublist l) (q) (m : q ∈ qs) :
        q.Sublist l := by
      cases q with
      | nil => exact List.nil_sublist l
      | cons f q => exact hl _ (List.mem_filter.2 ⟨m, rfl⟩)
    have total : ((qs.filter fun q => !q.isEmpty).map List.length).sum ≤ n + 1 := by
      rw [← List.length_flatten, flat, List.length_flatten]; exact h
    simp only [runInterleaved]
    split
    · next e =>
      rw [e] at flat sub
      exact ⟨[], by rw [← flat]; rfl, sub (by simp), s.choices, rfl⟩
    · next q e =>
      rw [e] at flat sub
      exact ⟨q, by rw [← flat]; simp, sub (by simp), runs_foldl q s⟩
    · next q r rest e =>
      have nonempty : ∀ p ∈ qs.filter (fun q => !q.isEmpty), p ≠ [] := fun p m e => by
        have := (List.mem_filter.1 m).2
        simp [e] at this
      rw [← e]
      generalize hL : (qs.filter fun q => !q.isEmpty) = live at *
      have hlen : 0 < live.length := by rw [e]; simp
      generalize hk : Config.freeChoice s.choices % live.length = k
      have hlt : k < live.length := hk ▸ Nat.mod_lt _ hlen
      rw [List.getD_eq_getElem _ _ hlt]
      have hne := nonempty _ (List.getElem_mem hlt)
      obtain ⟨f, c, hc⟩ := List.exists_cons_of_ne_nil hne
      rw [hc]
      have perm := flatten_perm_cons_set hlt hc
      have less : ((live.set k c).map List.length).sum ≤ n := by
        have := perm.length_eq
        rw [List.length_cons] at this
        rw [← List.length_flatten] at total ⊢
        omega
      obtain ⟨l, hperm, hsub, hruns⟩ := ih (live.set k c) (f { s with choices := s.choices + 1 }) less
      refine ⟨f :: l, ?_, sub fun p m => ?_, s.choices + 1, hruns⟩
      · rw [← flat]; exact (hperm.cons f).trans perm.symm
      · obtain ⟨j, hj, rfl⟩ := List.getElem_of_mem m
        by_cases hjk : j = k
        · subst hjk
          rw [hc]
          exact (hsub c (List.mem_set hlt c)).cons_cons f
        · refine (hsub _ ?_).cons f
          rw [← List.getElem_set_ne (Ne.symm hjk) (by simpa using hj)]
          exact List.getElem_mem _

/-- Sequences interleaved run their actions one after another, each sequence in its own order. -/
theorem interleave_runs (qs : List (List (State → State))) (s : State) : ∃ l : List (State → State),
    l.Perm qs.flatten ∧ (∀ q ∈ qs, q.Sublist l) ∧ Runs l s (interleave qs s) := runInterleaved_runs _ qs s le_rfl

/-- Actions in any order run in one of their orders. -/
theorem anyOrder_runs (fs : List (State → State)) (s : State) :
    ∃ l : List (State → State), l.Perm fs ∧ Runs l s (anyOrder fs s) := by
  obtain ⟨l, hperm, -, hruns⟩ := interleave_runs (fs.map fun f => [f]) s
  refine ⟨l, ?_, hruns⟩
  rwa [← List.flatMap_def, List.flatMap_singleton'] at hperm

/-! ## What a run of actions keeps and establishes -/

theorem Runs.keeps {P : State → Prop} (hc : ∀ s n, P s → P { s with choices := n }) {l : List (State → State)} {s t : State}
    (h : Runs l s t) (hf : ∀ f ∈ l, ∀ u, P u → P (f u)) (hs : P s) : P t := by
  induction l generalizing s with
  | nil => obtain ⟨n, rfl⟩ := h; exact hc s n hs
  | cons f l ih =>
    obtain ⟨n, h⟩ := h
    exact ih h (fun g m => hf g (List.mem_cons_of_mem _ m)) (hf f List.mem_cons_self _ (hc s n hs))

/-- What one of the actions establishes and the others keep holds at the end, under what all of them keep. -/
theorem Runs.establishes {P Q : State → Prop} (hP : ∀ s n, P s → P { s with choices := n })
    (hQ : ∀ s n, Q s → Q { s with choices := n }) {l : List (State → State)} {s t : State} (h : Runs l s t)
    (keepsP : ∀ f ∈ l, ∀ u, P u → P (f u)) (keepsQ : ∀ f ∈ l, ∀ u, P u → Q u → Q (f u))
    (est : Q s ∨ ∃ f ∈ l, ∀ u, P u → Q (f u)) (hs : P s) : P t ∧ Q t := by
  induction l generalizing s with
  | nil =>
    obtain ⟨n, rfl⟩ := h
    refine ⟨hP s n hs, hQ s n ?_⟩
    simpa using est
  | cons f l ih =>
    obtain ⟨n, h⟩ := h
    have rest := fun g m => keepsP g (List.mem_cons_of_mem f m)
    have restQ := fun g m => keepsQ g (List.mem_cons_of_mem f m)
    refine ih h rest restQ ?_ (keepsP f List.mem_cons_self _ (hP s n hs))
    rcases est with hq | ⟨g, mg, hg⟩
    · exact .inl (keepsQ f List.mem_cons_self _ (hP s n hs) (hQ s n hq))
    · rcases List.mem_cons.1 mg with rfl | mg
      · exact .inl (hg _ (hP s n hs))
      · exact .inr ⟨g, mg, hg⟩

/-- What one action of an interleaving establishes and the others keep holds after it. -/
theorem interleave_establishes {P Q : State → Prop} (hP : ∀ s n, P s → P { s with choices := n })
    (hQ : ∀ s n, Q s → Q { s with choices := n }) (qs : List (List (State → State))) {s : State}
    (keepsP : ∀ q ∈ qs, ∀ f ∈ q, ∀ u, P u → P (f u)) (keepsQ : ∀ q ∈ qs, ∀ f ∈ q, ∀ u, P u → Q u → Q (f u))
    (est : Q s ∨ ∃ q ∈ qs, ∃ f ∈ q, ∀ u, P u → Q (f u)) (hs : P s) : P (interleave qs s) ∧ Q (interleave qs s) := by
  obtain ⟨l, perm, -, runs⟩ := interleave_runs qs s
  have mem {f : State → State} : f ∈ l ↔ ∃ q ∈ qs, f ∈ q := by rw [perm.mem_iff, List.mem_flatten]
  refine runs.establishes hP hQ (fun f m => ?_) (fun f m => ?_) (est.imp_right ?_) hs
  · obtain ⟨q, mq, mf⟩ := mem.1 m; exact keepsP q mq f mf
  · obtain ⟨q, mq, mf⟩ := mem.1 m; exact keepsQ q mq f mf
  · rintro ⟨q, mq, f, mf, h⟩; exact ⟨f, mem.2 ⟨q, mq, mf⟩, h⟩

/-- What one action of some in any order establishes and the others keep holds after them. -/
theorem anyOrder_establishes {P Q : State → Prop} (hP : ∀ s n, P s → P { s with choices := n })
    (hQ : ∀ s n, Q s → Q { s with choices := n }) (fs : List (State → State)) {s : State}
    (keepsP : ∀ f ∈ fs, ∀ u, P u → P (f u)) (keepsQ : ∀ f ∈ fs, ∀ u, P u → Q u → Q (f u))
    (est : Q s ∨ ∃ f ∈ fs, ∀ u, P u → Q (f u)) (hs : P s) : P (anyOrder fs s) ∧ Q (anyOrder fs s) := by
  obtain ⟨l, perm, runs⟩ := anyOrder_runs fs s
  refine runs.establishes hP hQ (fun f m => keepsP f (perm.mem_iff.1 m)) (fun f m => keepsQ f (perm.mem_iff.1 m))
    (est.imp_right ?_) hs
  rintro ⟨f, mf, h⟩; exact ⟨f, perm.mem_iff.2 mf, h⟩

end Sys2Proof.Machine

/-! PROOFS. What every step keeps: calibration steps, waiting windows and pressure samples in order (R10, R18, R96, R111). -/

namespace Sys2Proof.Machine

/-! ## The Cycle Tracker -/

/-- A step is BUSY only during a run, windows wait only behind a step, and a window counts for a run only during one. -/
def CtOrdered (ct : Ct) : Prop :=
  (ct.step.isSome → ct.run.isSome) ∧ (ct.waiting ≠ [] → ct.step.isSome) ∧ ∀ w ∈ ct.window, w.forRun = true → ct.run.isSome

/-- Pressure samples wait only behind a step (R10, R96). -/
def WaitBehindStep (s : State) : Prop := s.scu[(5 : Fin 6)].fifo ≠ [] → s.ct.step.isSome

/-- The Cycle Tracker holds this health of the pressure channel, and the channel has it. -/
def PressureHealthAt (h : Health) (s : State) : Prop := s.ct.health = h ∧ s.scu[(5 : Fin 6)].health = h

theorem calibrationOrdered_iff (s : State) : CalibrationOrdered s ↔ CtOrdered s.ct ∧ WaitBehindStep s ∧
    s.ct.health = s.scu[(5 : Fin 6)].health := by
  unfold CalibrationOrdered CtOrdered WaitBehindStep
  tauto

theorem CalibrationOrdered.of_same {s t : State} (hs : CalibrationOrdered s) (scu : t.scu[(5 : Fin 6)] = s.scu[(5 : Fin 6)])
    (ct : t.ct = s.ct) : CalibrationOrdered t := by
  unfold CalibrationOrdered at hs ⊢
  rw [scu, ct]; exact hs

theorem CalibrationOrdered.of_touches {b : Blocks} {s t : State} (h : Touches b s t) (hscu : b.scu = false)
    (hct : b.ct = false) (hs : CalibrationOrdered s) : CalibrationOrdered t :=
  hs.of_same (by rw [h.scu hscu]) (h.ct hct)

theorem CalibrationOrdered.of_frame {b : Blocks} {s t : State} (h : Frame b s t) (hscu : b.scu = false)
    (hct : b.ct = false) (hs : CalibrationOrdered s) : CalibrationOrdered t := hs.of_touches h.touches hscu hct

/-- A change of the Cycle Tracker alone that leaves its step and its health. -/
theorem CalibrationOrdered.of_ct {s t : State} (hs : CalibrationOrdered s) (scu : t.scu = s.scu) (ordered : CtOrdered t.ct)
    (step : t.ct.step = s.ct.step) (health : t.ct.health = s.ct.health) : CalibrationOrdered t := by
  rw [calibrationOrdered_iff] at hs ⊢
  refine ⟨ordered, ?_, ?_⟩
  · unfold WaitBehindStep; rw [scu, step]; exact hs.2.1
  · rw [scu, health]; exact hs.2.2

theorem forceTaken_ordered (f : Int) {ct : Ct} (h : CtOrdered ct) : CtOrdered (forceTaken f ct) := by
  obtain ⟨hstep, hwait, hwin⟩ := h
  unfold forceTaken
  split
  · exact ⟨hstep, hwait, hwin⟩
  · next w hw =>
    have run := hwin w hw
    simp only []
    split_ifs with closed early counts
    · exact ⟨hstep, hwait, hwin⟩
    · exact ⟨hstep, hwait, fun v hv => by cases hv; exact run⟩
    · exact ⟨fun _ => counts.1, fun _ => rfl, fun v hv => by cases hv; exact run⟩
    · exact ⟨hstep, hwait, fun v hv => by cases hv; exact run⟩

theorem forceTaken_health (f : Int) (ct : Ct) : (forceTaken f ct).health = ct.health := by
  unfold forceTaken
  split
  · rfl
  · simp only []; split_ifs <;> rfl

/-- The samples that wait are taken until none is left or a step is BUSY (R10, R96). -/
theorem pressureTaken_ordered (g : Geometry) (fifo : List Sample) {ct : Ct} (h : CtOrdered ct) :
    CtOrdered (pressureTaken g ct fifo).1 ∧ (pressureTaken g ct fifo).1.health = ct.health ∧
      ((pressureTaken g ct fifo).2 ≠ [] → (pressureTaken g ct fifo).1.step.isSome) := by
  induction fifo generalizing ct with
  | nil => exact ⟨h, rfl, fun e => absurd rfl e⟩
  | cons x rest ih =>
    unfold pressureTaken
    split_ifs with busy fault
    · exact ⟨h, rfl, fun _ => busy⟩
    · exact ih h
    · obtain ⟨ordered, health, step⟩ := ih (forceTaken_ordered (x.a * g.ah - x.b * g.ar) h)
      exact ⟨ordered, health.trans (forceTaken_health _ _), step⟩

/-! ## The taking of the samples that wait -/

/-- The Cycle Tracker has taken the samples that wait, as far as its step lets it, and no health has changed. -/
structure PressureWasTaken (s t : State) : Prop where
  ordered : CtOrdered t.ct
  behind  : WaitBehindStep t
  copy    : t.ct.health = s.ct.health
  health  : t.scu[(5 : Fin 6)].health = s.scu[(5 : Fin 6)].health

theorem PressureWasTaken.calibrationOrdered {s t : State} (h : PressureWasTaken s t)
    (hs : s.ct.health = s.scu[(5 : Fin 6)].health) : CalibrationOrdered t :=
  (calibrationOrdered_iff t).2 ⟨h.ordered, h.behind, h.copy.trans (hs.trans h.health.symm)⟩

theorem withPressureTaken_wasTaken {ct : Ct} {s : State} (h : CtOrdered ct) (health : ct.health = s.ct.health) :
    PressureWasTaken s (withPressureTaken ct s) := by
  obtain ⟨ordered, copy, step⟩ := pressureTaken_ordered s.ps.geometry s.scu[(5 : Fin 6)].fifo h
  have at5 : (withPressureTaken ct s).scu[(5 : Fin 6)] =
      drained (pressureTaken s.ps.geometry ct s.scu[(5 : Fin 6)].fifo).2 s.scu[(5 : Fin 6)] := by
    simp [withPressureTaken]
  refine ⟨ordered, ?_, copy.trans health, by rw [at5]; rfl⟩
  unfold WaitBehindStep
  rw [at5]; exact step

theorem drainPressure_wasTaken {s : State} (h : CtOrdered s.ct) : PressureWasTaken s (drainPressure s) := by
  rw [drainPressure_eq]; exact withPressureTaken_wasTaken h rfl

theorem endRun_wasTaken (r : Run) (o : RunOutcome) (s : State) : PressureWasTaken s (endRun r o s) := by
  have ended : CtOrdered (endedRun s.ct) := by
    refine ⟨fun h => h, fun h => absurd rfl h, fun w hw e => ?_⟩
    obtain ⟨v, -, rfl⟩ := Option.mem_map.1 hw
    cases e
  have taken := withPressureTaken_wasTaken (s := s) ended rfl
  rw [endRun_eq]
  exact ⟨taken.ordered, taken.behind, taken.copy, taken.health⟩

theorem nextStep_wasTaken {s : State} (h : CtOrdered s.ct) (step : s.ct.step.isSome) : PressureWasTaken s (nextStep s) := by
  obtain ⟨hstep, hwait, hwin⟩ := h
  cases waiting : s.ct.waiting with
  | cons w rest =>
    rw [nextStep_cons waiting]
    exact ⟨⟨fun _ => hstep step, fun _ => rfl, hwin⟩, fun _ => rfl, rfl, rfl⟩
  | nil =>
    have ready : CtOrdered { s.ct with step := none } := ⟨fun h => by simp at h, fun h => absurd waiting h, hwin⟩
    rw [nextStep_nil waiting]
    exact withPressureTaken_wasTaken ready rfl

theorem judgeStep_wasTaken {r : Run} {w : Window} {s : State} (h : CtOrdered s.ct) (step : s.ct.step = some w) :
    PressureWasTaken s (judgeStep r w s) := by
  obtain ⟨hstep, hwait, hwin⟩ := h
  obtain ⟨u, hu, hj⟩ := judgeStep_cases r w s
  have hu : CtOrdered u.ct ∧ u.ct.step = some w ∧ u.ct.health = s.ct.health ∧ u.scu = s.scu := by
    rcases hu with rfl | ⟨r', rfl⟩ | ⟨a, b, rfl⟩
    · exact ⟨⟨hstep, hwait, hwin⟩, step, rfl, rfl⟩
    · exact ⟨⟨fun _ => rfl, hwait, fun _ _ _ => rfl⟩, step, rfl, rfl⟩
    · have ct : (writeTables a b s).ct = { s.ct with fempty := a, gain := b } := by
        unfold writeTables; simp only []; split_ifs <;> rfl
      rw [ct]
      exact ⟨⟨hstep, hwait, hwin⟩, step, rfl, (writeTables_frame a b s).scu rfl⟩
  obtain ⟨ordered, ustep, copy, scu⟩ := hu
  have taken : PressureWasTaken u (judgeStep r w s) := by
    rcases hj with hj | ⟨r', o, hj⟩ <;> rw [hj]
    · exact nextStep_wasTaken ordered (by rw [ustep]; rfl)
    · exact endRun_wasTaken r' o u
  exact ⟨taken.ordered, taken.behind, taken.copy.trans copy, taken.health.trans (by rw [scu])⟩

/-- A hard error ends a run, and with none active leaves the state (R115). -/
theorem hardFail_wasTaken_or (cause : RunFailure) (s : State) : hardFail cause s = s ∨ PressureWasTaken s (hardFail cause s) := by
  unfold hardFail
  split
  · exact .inl rfl
  · exact .inr (endRun_wasTaken _ _ s)

theorem hardFail_keeps_ordered (cause : RunFailure) {s : State} (h : CtOrdered s.ct) : CtOrdered (hardFail cause s).ct := by
  rcases hardFail_wasTaken_or cause s with e | e
  · rw [e]; exact h
  · exact e.ordered

theorem hardFail_keeps_behind (cause : RunFailure) {s : State} (h : WaitBehindStep s) : WaitBehindStep (hardFail cause s) := by
  rcases hardFail_wasTaken_or cause s with e | e
  · rw [e]; exact h
  · exact e.behind

theorem hardFail_health (cause : RunFailure) (s : State) : (hardFail cause s).ct.health = s.ct.health ∧
    (hardFail cause s).scu[(5 : Fin 6)].health = s.scu[(5 : Fin 6)].health := by
  rcases hardFail_wasTaken_or cause s with e | e
  · rw [e]; exact ⟨rfl, rfl⟩
  · exact ⟨e.copy, e.health⟩

theorem hardFail_keeps_calibration (cause : RunFailure) {s : State} (h : CalibrationOrdered s) :
    CalibrationOrdered (hardFail cause s) := by
  rcases hardFail_wasTaken_or cause s with e | e
  · rw [e]; exact h
  · exact e.calibrationOrdered ((calibrationOrdered_iff s).1 h).2.2

/-! ## The pressure channel and its copy -/

theorem deliverHealthToCt_keeps {P : State → Prop} (hc : ∀ s, P s → P { s with choices := s.choices + 1 }) (h : Health)
    {s : State} (copied : P (onCt (fun ct => { ct with health := h }) s))
    (fails : ∀ u, P u → P (hardFail .hardPressure u)) (cleared : ∀ u, P u → P (onCt (fun ct => { ct with force := none }) u)) :
    P (deliverHealthToCt h s) := by
  unfold deliverHealthToCt
  refine anyOrder_keeps hc _ _ (fun f m u hu => ?_) copied
  rcases mem_ctHealthActions m with rfl | rfl
  · exact fails u hu
  · exact cleared u hu

theorem deliverHealthToCt_keeps_ordered (h : Health) {s : State} (hs : CtOrdered s.ct) :
    CtOrdered (deliverHealthToCt h s).ct :=
  deliverHealthToCt_keeps (P := fun s => CtOrdered s.ct) (fun _ h => h) h hs (fun _ h => hardFail_keeps_ordered _ h)
    (fun _ h => h)

theorem deliverHealthToCt_keeps_behind (h : Health) {s : State} (hs : WaitBehindStep s) :
    WaitBehindStep (deliverHealthToCt h s) :=
  deliverHealthToCt_keeps (fun _ h => h) h hs (fun _ h => hardFail_keeps_behind _ h) (fun _ h => h)

theorem deliverHealthToCt_copies (h : Health) (s : State) : (deliverHealthToCt h s).ct.health = h :=
  deliverHealthToCt_keeps (P := fun s => s.ct.health = h) (fun _ h => h) h rfl
    (fun u hu => (hardFail_health _ u).1.trans hu) (fun _ h => h)

theorem deliverHealthToCt_health (h : Health) (s : State) :
    (deliverHealthToCt h s).scu[(5 : Fin 6)].health = s.scu[(5 : Fin 6)].health :=
  deliverHealthToCt_keeps (P := fun u => u.scu[(5 : Fin 6)].health = s.scu[(5 : Fin 6)].health) (fun _ h => h) h rfl
    (fun u hu => (hardFail_health _ u).2.trans hu) (fun _ h => h)

/-- A change of health of the pressure channel is noticed and goes to the Cycle Tracker alone (R18). -/
theorem healthActions_pressure (a b : Health) : healthActions 5 a b =
    if a = b then [] else [fun s => queueNotice (.channelHealth 5 a b s.now) s, deliverHealthToCt b] := by
  unfold healthActions
  split_ifs <;> simp_all

/-- A change of health of any other channel does not go to the Cycle Tracker (R18). -/
theorem mem_healthActions_other {ch : Fin 6} (hch : ch ≠ 5) {a b : Health} {f : State → State}
    (m : f ∈ healthActions ch a b) :
    f ∈ [fun s => queueNotice (.channelHealth ch a b s.now) s, requestComputation, deliverHealthToSl b] := by
  unfold healthActions at m
  rw [if_neg hch] at m
  split_ifs at m <;> simp at m ⊢ <;> tauto

theorem mem_sampleActions_other {ch : Fin 6} (hch : ch ≠ 5) {h : Health} {x : Sample} {f : State → State}
    (m : f ∈ sampleActions ch h x) : f ∈ [requestComputation, readSlewTravel x] := by
  unfold sampleActions at m
  rw [if_neg hch] at m
  split_ifs at m <;> simp at m ⊢ <;> tauto

theorem requestComputation_keeps_calibration {s : State} (h : CalibrationOrdered s) :
    CalibrationOrdered (requestComputation s) := by
  rw [requestComputation_eq]
  split_ifs
  · exact h
  · exact h.of_same rfl rfl

theorem onChannel_other (ch : Fin 6) (f : Channel → Channel) (s : State) {k : Fin 6} (h : k ≠ ch) :
    (onChannel ch f s).scu[k] = s.scu[k] := by
  have : ch.val ≠ k.val := fun e => h (Fin.ext e.symm)
  simp [onChannel, this]

theorem onChannel_self (ch : Fin 6) (f : Channel → Channel) (s : State) : (onChannel ch f s).scu[ch] = f s.scu[ch] := by
  simp [onChannel]

/-- The deliveries of another channel leave the Cycle Tracker and the pressure channel. -/
theorem otherDelivery_keeps_calibration {ch : Fin 6} {a b : Health} {x : Sample} {f : State → State}
    (m : f ∈ [fun s => queueNotice (.channelHealth ch a b s.now) s, requestComputation, deliverHealthToSl b,
      readSlewTravel x]) {s : State} (h : CalibrationOrdered s) : CalibrationOrdered (f s) := by
  simp only [List.mem_cons, List.not_mem_nil, or_false] at m
  rcases m with rfl | rfl | rfl | rfl
  · exact h
  · exact requestComputation_keeps_calibration h
  · exact h.of_frame (deliverHealthToSl_frame _ _) rfl rfl
  · exact h.of_frame (readSlewTravel_frame _ _) rfl rfl

/-- The deliveries of the pressure channel, once its context is settled: the copy follows its health, and the samples that
wait are taken where one was accepted (R10, R18, R96). -/
theorem pressureDeliveries_calibrate {qs : List (List (State → State))} {a new : Health} {s : State}
    (sub : ∀ q ∈ qs, ∀ f ∈ q, f ∈ [fun s => queueNotice (.channelHealth 5 a new s.now) s, deliverHealthToCt new,
      drainPressure])
    (ordered : CtOrdered s.ct) (health : s.scu[(5 : Fin 6)].health = new)
    (copied : s.ct.health = new ∨ ∃ q ∈ qs, deliverHealthToCt new ∈ q)
    (taken : WaitBehindStep s ∨ ∃ q ∈ qs, drainPressure ∈ q) : CalibrationOrdered (interleave qs s) := by
  have keeps : ∀ q ∈ qs, ∀ f ∈ q, ∀ u, CtOrdered u.ct ∧ u.scu[(5 : Fin 6)].health = new →
      CtOrdered (f u).ct ∧ (f u).scu[(5 : Fin 6)].health = new := by
    intro q mq f mf u ⟨hu, hh⟩
    have m := sub q mq f mf
    simp only [List.mem_cons, List.not_mem_nil, or_false] at m
    rcases m with rfl | rfl | rfl
    · exact ⟨hu, hh⟩
    · exact ⟨deliverHealthToCt_keeps_ordered new hu, (deliverHealthToCt_health new u).trans hh⟩
    · exact ⟨(drainPressure_wasTaken hu).ordered, (drainPressure_wasTaken hu).health.trans hh⟩
  have copies := interleave_establishes (P := fun u => CtOrdered u.ct ∧ u.scu[(5 : Fin 6)].health = new)
    (Q := fun u => u.ct.health = new) (fun _ _ h => h) (fun _ _ h => h) qs keeps (fun q mq f mf u hu hq => by
      have m := sub q mq f mf
      simp only [List.mem_cons, List.not_mem_nil, or_false] at m
      rcases m with rfl | rfl | rfl
      · exact hq
      · exact deliverHealthToCt_copies new u
      · exact (drainPressure_wasTaken hu.1).copy.trans hq)
    (copied.imp_right fun ⟨q, mq, m⟩ => ⟨q, mq, _, m, fun u _ => deliverHealthToCt_copies new u⟩) ⟨ordered, health⟩
  have takes := interleave_establishes (P := fun u => CtOrdered u.ct ∧ u.scu[(5 : Fin 6)].health = new)
    (Q := WaitBehindStep) (fun _ _ h => h) (fun _ _ h => h) qs keeps (fun q mq f mf u hu hq => by
      have m := sub q mq f mf
      simp only [List.mem_cons, List.not_mem_nil, or_false] at m
      rcases m with rfl | rfl | rfl
      · exact hq
      · exact deliverHealthToCt_keeps_behind new hq
      · exact (drainPressure_wasTaken hu.1).behind)
    (taken.imp_right fun ⟨q, mq, m⟩ => ⟨q, mq, _, m, fun u hu => (drainPressure_wasTaken hu.1).behind⟩) ⟨ordered, health⟩
  exact (calibrationOrdered_iff _).2 ⟨copies.1.1, takes.2, copies.2.trans copies.1.2.symm⟩

theorem changeChannel_keeps_calibration (ch : Fin 6) (g : Channel → Channel) {s : State}
    (fifo : (g s.scu[ch]).fifo = s.scu[ch].fifo ∨ (g s.scu[ch]).fifo = []) (hs : CalibrationOrdered s) :
    CalibrationOrdered (changeChannel ch g s) := by
  unfold changeChannel
  by_cases hch : ch = 5
  · subst hch
    obtain ⟨ordered, behind, copy⟩ := (calibrationOrdered_iff s).1 hs
    rw [healthActions_pressure]
    refine pressureDeliveries_calibrate (a := s.scu[(5 : Fin 6)].health) (new := (g s.scu[(5 : Fin 6)]).health)
      (fun q mq f mf => ?_) ordered (by rw [onChannel_self]) ?_ (.inl ?_)
    · obtain ⟨f', m, rfl⟩ := List.mem_map.1 mq
      obtain rfl : f = f' := by simpa using mf
      split_ifs at m <;> simp at m ⊢; tauto
    · by_cases h : s.scu[(5 : Fin 6)].health = (g s.scu[(5 : Fin 6)]).health
      · exact .inl (copy.trans h)
      · exact .inr ⟨[deliverHealthToCt (g s.scu[(5 : Fin 6)]).health], by rw [if_neg h]; simp, by simp⟩
    · unfold WaitBehindStep
      rw [onChannel_self]
      rcases fifo with h | h <;> rw [h]
      · exact behind
      · exact fun e => absurd rfl e
  · refine anyOrder_keeps (fun s h => h) _ _ (fun f m u hu => ?_)
      (hs.of_same (onChannel_other ch g s (Ne.symm hch)) rfl)
    exact otherDelivery_keeps_calibration (ch := ch) (a := s.scu[ch].health) (b := (g s.scu[ch]).health)
      (x := { a := 0, b := 0, stamp := 0, flags := {} })
      (by have := mem_healthActions_other hch m; simp at this ⊢; tauto) hu

theorem rejectIdentity_fifo (c : Channel) : (Channel.rejectIdentity c).fifo = c.fifo := by
  unfold Channel.rejectIdentity
  simp only []
  split
  all_goals first | rfl | (split_ifs <;> rfl)

/-- A frame that is not accepted leaves the FIFO (R3 to R5). -/
theorem afterFrame_fifo {ch : Fin 6} {bytes : List Byte} {now : Stamp} {c : Channel}
    (h : judgeFrame ch bytes now c ≠ .accepted) : (Channel.afterFrame ch bytes now c).fifo = c.fifo := by
  unfold Channel.afterFrame
  split
  · rfl
  · exact rejectIdentity_fifo _
  · exact rejectIdentity_fifo _
  · rfl
  · next e => exact absurd e h

theorem arriveFrame_keeps_calibration (ch : Fin 6) (bytes : List Byte) {s : State} (hs : CalibrationOrdered s) :
    CalibrationOrdered (arriveFrame ch bytes s) := by
  unfold arriveFrame
  simp only []
  by_cases hch : ch = 5
  · subst hch
    obtain ⟨ordered, behind, copy⟩ := (calibrationOrdered_iff s).1 hs
    rw [healthActions_pressure]
    generalize hc : ({ s.scu[(5 : Fin 6)] with assembler := .hunting } : Channel) = c
    have fifo : c.fifo = s.scu[(5 : Fin 6)].fifo := by rw [← hc]
    refine pressureDeliveries_calibrate (a := s.scu[(5 : Fin 6)].health) (new := (Channel.afterFrame 5 bytes s.now c).health)
      (fun q mq f mf => ?_) ordered (by rw [onChannel_self]) ?_ ?_
    · rcases List.mem_cons.1 mq with rfl | m
      · split_ifs at mf
        · simp [sampleActions] at mf; simp [mf]
        · simp at mf
      · obtain ⟨f', m, rfl⟩ := List.mem_map.1 m
        obtain rfl : f = f' := by simpa using mf
        split_ifs at m <;> simp at m ⊢; tauto
    · by_cases h : s.scu[(5 : Fin 6)].health = (Channel.afterFrame 5 bytes s.now c).health
      · exact .inl (copy.trans h)
      · exact .inr ⟨[deliverHealthToCt (Channel.afterFrame 5 bytes s.now c).health], by rw [if_neg h]; simp, by simp⟩
    · by_cases accepted : judgeFrame 5 bytes s.now c = .accepted
      · exact .inr ⟨_, List.mem_cons_self, by rw [if_pos accepted]; simp [sampleActions]⟩
      · refine .inl ?_
        unfold WaitBehindStep
        rw [onChannel_self, afterFrame_fifo accepted, fifo]
        exact behind
  · refine interleave_keeps (fun s h => h) _ _ (fun q mq f mf u hu => ?_)
      (hs.of_same (onChannel_other ch _ s (Ne.symm hch)) rfl)
    rcases List.mem_cons.1 mq with rfl | m
    · split_ifs at mf
      · exact otherDelivery_keeps_calibration (ch := ch) (a := .off) (b := .off)
          (by have := mem_sampleActions_other hch mf; simp at this ⊢; tauto) hu
      · simp at mf
    · obtain ⟨f', mh, rfl⟩ := List.mem_map.1 m
      obtain rfl : f = f' := by simpa using mf
      exact otherDelivery_keeps_calibration (x := { a := 0, b := 0, stamp := 0, flags := {} })
        (by have := mem_healthActions_other hch mh; simp at this ⊢; tauto) hu

/-! ## Poses, readings and commands -/

theorem startComputation_keeps_calibration {s : State} (h : CalibrationOrdered s) :
    CalibrationOrdered (startComputation s) := by
  rw [startComputation_eq]; exact h.of_same rfl rfl

theorem complete_ordered {w : Window} {ct : Ct} (h : CtOrdered ct) (run : w.forRun = true → ct.run.isSome) :
    CtOrdered (Ct.complete w ct) := by
  obtain ⟨hstep, hwait, -⟩ := h
  unfold Ct.complete Ct.hand
  simp only []
  split_ifs with counts
  · simp only [Bool.and_eq_true] at counts
    cases step : ct.step with
    | none => exact ⟨fun _ => counts.1, fun _ => rfl, fun v hv => by cases hv; exact run⟩
    | some x => exact ⟨fun _ => counts.1, fun _ => by simp, fun v hv => by cases hv; exact run⟩
  · exact ⟨hstep, hwait, fun v hv => by cases hv; exact run⟩

/-- The closing of a window keeps the step that is BUSY, and the health (R103, R111). -/
theorem complete_step (w : Window) (ct : Ct) :
    (ct.step.isSome → (Ct.complete w ct).step.isSome) ∧ (Ct.complete w ct).health = ct.health := by
  unfold Ct.complete Ct.hand
  simp only []
  split_ifs
  · cases step : ct.step <;> simp
  · exact ⟨id, rfl⟩

/-- What the Cycle Tracker makes of a pose keeps a BUSY step, the health and the order (R98 to R103). -/
def CtFollows (a b : Ct) : Prop := CtOrdered b ∧ (a.step.isSome → b.step.isSome) ∧ b.health = a.health

theorem CalibrationOrdered.of_follows {s t : State} (hs : CalibrationOrdered s) (scu : t.scu = s.scu)
    (h : CtFollows s.ct t.ct) : CalibrationOrdered t := by
  obtain ⟨-, behind, copy⟩ := (calibrationOrdered_iff s).1 hs
  obtain ⟨ordered, step, health⟩ := h
  rw [calibrationOrdered_iff]
  unfold WaitBehindStep at behind ⊢
  rw [scu, health]
  exact ⟨ordered, fun e => step (behind e), copy⟩

theorem closeAtDump_follows {s : State} (h : CtOrdered s.ct) : CtFollows s.ct (closeAtDump s).ct := by
  unfold closeAtDump
  split
  · next w hw =>
    split_ifs
    · exact ⟨complete_ordered h (h.2.2 w hw), complete_step w s.ct⟩
    · exact ⟨h, id, rfl⟩
  · exact ⟨h, id, rfl⟩

theorem moveWindow_follows (p : Pose) {s : State} (h : CtOrdered s.ct) : CtFollows s.ct (moveWindow p s).ct := by
  obtain ⟨hstep, hwait, hwin⟩ := h
  unfold moveWindow
  split
  · exact ⟨⟨hstep, hwait, fun w hw => by cases hw⟩, id, rfl⟩
  · split_ifs
    · exact ⟨⟨hstep, hwait, fun w hw e => by cases hw; exact e⟩, id, rfl⟩
    · exact ⟨⟨hstep, hwait, hwin⟩, id, rfl⟩
  · split_ifs
    · obtain ⟨⟨cstep, cwait, -⟩, busy, health⟩ := closeAtDump_follows ⟨hstep, hwait, hwin⟩
      exact ⟨⟨cstep, cwait, fun w hw => by cases hw⟩, busy, health⟩
    · exact ⟨⟨hstep, hwait, hwin⟩, id, rfl⟩
  · exact ⟨⟨hstep, hwait, hwin⟩, id, rfl⟩

theorem takePoseAtCt_keeps_calibration (p : Pose) {s : State} (h : CalibrationOrdered s) :
    CalibrationOrdered (takePoseAtCt p s) :=
  h.of_follows ((takePoseAtCt_frame p s).scu rfl) (moveWindow_follows p ((calibrationOrdered_iff s).1 h).1)

theorem setPhase_keeps_calibration (new : Phase) {s : State} (h : CalibrationOrdered s) :
    CalibrationOrdered (setPhase new s) := by
  unfold setPhase
  split_ifs
  · exact h
  · exact CalibrationOrdered.of_frame (takePhaseChange_frame _ _) rfl rfl (s := onCt _ s) h

theorem toUnknown_keeps_calibration {s : State} (h : CalibrationOrdered s) : CalibrationOrdered (toUnknown s) := by
  obtain ⟨⟨hstep, hwait, -⟩, -, -⟩ := (calibrationOrdered_iff s).1 h
  exact setPhase_keeps_calibration _ (s := onCt _ s)
    (h.of_follows rfl ⟨⟨hstep, hwait, fun w hw => by cases hw⟩, id, rfl⟩)

theorem travelEndedAtCt_keeps_calibration {s : State} (h : CalibrationOrdered s) :
    CalibrationOrdered (travelEndedAtCt s) := by
  unfold travelEndedAtCt
  split
  · split_ifs
    · exact h
    · exact setPhase_keeps_calibration _ h
  · exact h

theorem readInputs_keeps_calibration (x : InputSamples) {s : State} (h : CalibrationOrdered s) :
    CalibrationOrdered (readInputs x s) := by
  refine readInputs_keeps (fun s h => h) x (fun s h => h) (fun f m u hu => ?_) s h
  simp only [List.mem_cons, List.not_mem_nil, or_false] at m
  rcases m with rfl | rfl | rfl | rfl | rfl | rfl | rfl
  · exact hu.of_frame (takeActivity_frame _) rfl rfl
  · exact hu.of_frame (takeSeatChange_frame _) rfl rfl
  · exact hu.of_frame (travelZones_frame _) rfl rfl
  · exact toUnknown_keeps_calibration hu
  · exact hu.of_frame (travelLoads_frame _) rfl rfl
  · exact travelEndedAtCt_keeps_calibration hu
  · exact hu.of_frame (settleAuthority_frame _) rfl rfl

theorem completePose_keeps_calibration (c : Computation) {s : State} (hs : CalibrationOrdered s) :
    CalibrationOrdered (completePose c s) := by
  unfold completePose startPending
  simp only []
  have delivered : CalibrationOrdered (deliverPose (assemblePose s.ps c s.now) (serveTip (assemblePose s.ps c s.now)
      (settleOverdig (assemblePose s.ps c s.now)
        (onPs (fun ps => { ps with pose := assemblePose s.ps c s.now, inFlight := none }) s)))) := by
    refine deliverPose_keeps (fun s h => h) _ _ (fun f m u hu => ?_) (takePoseAtCt_keeps_calibration _
      (CalibrationOrdered.of_frame (serveTip_frame _ _) rfl rfl
        (CalibrationOrdered.of_frame (settleOverdig_frame _ _) rfl rfl (s := onPs _ s) hs)))
    simp only [List.mem_cons, List.not_mem_nil, or_false] at m
    rcases m with rfl | rfl | rfl | rfl | rfl
    · exact hu.of_frame (deliverPoseToSl_frame _ _) rfl rfl
    · exact hardFail_keeps_calibration _ hu
    · exact hu.of_frame (arrivePass_frame _ _) rfl rfl
    · exact hu.of_frame (takeActivity_frame _) rfl rfl
    · exact hu.of_frame (takePhaseChange_frame _ _) rfl rfl
  split_ifs
  · exact startComputation_keeps_calibration (s := onPs _ _) delivered
  · exact delivered

theorem geometrySetOwner_keeps_calibration (body : List Byte) {s : State} (hs : CalibrationOrdered s) :
    CalibrationOrdered (geometrySetOwner body s).1 := by
  unfold geometrySetOwner
  rcases withFields_cases geometrySet? _ body s with e | ⟨g, -, e⟩ <;> rw [e]
  · exact hs
  · refine requestComputation_keeps_calibration (anyOrder_keeps (fun s h => h) _ _ (fun f m u hu => ?_) hs)
    rcases List.mem_cons.1 m with rfl | m
    · exact hu.of_frame (replaceGeometry_frame g u) rfl rfl
    · obtain ⟨-, rfl⟩ := mem_ite_singleton m
      exact hardFail_keeps_calibration _ hu

theorem gradeSetOwner_keeps_calibration (body : List Byte) {s : State} (hs : CalibrationOrdered s) :
    CalibrationOrdered (gradeSetOwner body s).1 := by
  unfold gradeSetOwner requestForGrade
  rcases withFields_cases gradeSet? _ body s with e | ⟨g, -, e⟩ <;> rw [e]
  · exact hs
  · simp only []
    split_ifs
    · exact hs
    · exact startComputation_keeps_calibration (s := onPs _ s) hs

theorem cycleSettingsOwner_keeps_calibration (body : List Byte) {s : State} (hs : CalibrationOrdered s) :
    CalibrationOrdered (cycleSettingsOwner body s).1 := by
  unfold cycleSettingsOwner
  rcases withFields_cases cycleSettings? _ body s with e | ⟨op, -, e⟩ <;> rw [e]
  · exact hs
  · cases op with
    | read => exact hs
    | write c =>
      exact hardFail_keeps_calibration _ (CalibrationOrdered.of_frame (markedIf_frame _ _) rfl rfl (s := onCt _ s) hs)

theorem startRun_keeps_calibration (kind : RunKind) {s : State} (hs : CalibrationOrdered s) :
    CalibrationOrdered (startRun kind s).1 := by
  obtain ⟨⟨-, hwait, -⟩, -, -⟩ := (calibrationOrdered_iff s).1 hs
  unfold startRun
  split_ifs
  · exact hs
  · exact hs.of_follows rfl ⟨⟨fun _ => rfl, hwait, fun _ _ _ => rfl⟩, id, rfl⟩

theorem calibrateCancelOwner_keeps_calibration (body : List Byte) {s : State} (hs : CalibrationOrdered s) :
    CalibrationOrdered (calibrateCancelOwner body s).1 := by
  unfold calibrateCancelOwner
  split
  · exact hs
  · exact (endRun_wasTaken _ _ s).calibrationOrdered ((calibrationOrdered_iff s).1 hs).2.2

theorem onChannel_keeps_calibration (ch : Fin 6) {f : Channel → Channel} (health : ∀ c, (f c).health = c.health)
    (fifo : ∀ c, (f c).fifo = c.fifo) {s : State} (hs : CalibrationOrdered s) : CalibrationOrdered (onChannel ch f s) := by
  by_cases hch : ch = 5
  · subst hch
    unfold CalibrationOrdered at hs ⊢
    rw [onChannel_self, health, fifo]; exact hs
  · exact hs.of_same (onChannel_other ch f s (Ne.symm hch)) rfl

/-! ## Every command -/

/-- A line event, a timer or an acquisition leaves a FIFO as it is or empties it (R12, R14, R15). -/
theorem takeBreak_fifo (c : Channel) : (Channel.takeBreak c).fifo = c.fifo := by
  unfold Channel.takeBreak
  simp only []
  split <;> rfl

theorem endBreak_fifo (c : Channel) : (Channel.endBreak c).fifo = c.fifo := by
  unfold Channel.endBreak
  simp only []
  split_ifs <;> rfl

theorem reset_fifo (new : ChannelSettings) (b : Bool) (c : Channel) : (Channel.reset new b c).fifo = [] := by
  unfold Channel.reset
  simp only []
  split_ifs <;> rfl

theorem freshState_calibration {s : State} {settings : CycleSettings} {fempty : Vector Int 8} {gain : Vector Nat 8}
    (ct : s.ct = .fresh settings fempty gain s.scu[(5 : Fin 6)].health) (fifo : s.scu[(5 : Fin 6)].fifo = []) :
    CalibrationOrdered s := by
  rw [calibrationOrdered_iff]
  refine ⟨?_, fun h => absurd fifo h, by rw [ct]; rfl⟩
  rw [ct]
  exact ⟨fun h => by simp [Ct.fresh] at h, fun h => absurd rfl h, fun w hw => by simp [Ct.fresh] at hw⟩

theorem resetChannels_at (r : Retained) (ch : Fin 6) : (resetChannels r)[ch] = r.channels[ch].freshChannel := by
  simp [resetChannels]

theorem resetState_calibration (r : Retained) (un : Fin 16 → Bool) (rs : Rs) (rate : LinkRate) (tx : Transmitter)
    (started : Notice) (s : State) : CalibrationOrdered (resetState r un rs rate tx started s) := by
  have at5 : (resetState r un rs rate tx started s).scu[(5 : Fin 6)] = r.channels[(5 : Fin 6)].freshChannel :=
    resetChannels_at r 5
  refine freshState_calibration (settings := r.cycle) (fempty := r.fempty) (gain := r.gain) ?_ ?_ <;> rw [at5] <;> rfl

theorem exec_keeps_calibration {c : Instr} {s t : State} (hs : CalibrationOrdered s) (e : exec c s = .next t) :
    CalibrationOrdered t := by
  have touches {s t : State} (h : Touches {} s t) (hs : CalibrationOrdered s) : CalibrationOrdered t :=
    hs.of_touches h rfl rfl
  cases c with
  | restartTakesEffect | powerOn | powerLoss =>
    rcases exec_reset e trivial with rfl | ⟨-, rfl⟩ | ⟨strap, rfl⟩ | ⟨image, rfl⟩
    · exact hs
    · exact resetState_calibration ..
    · exact resetState_calibration ..
    · exact freshState_calibration rfl rfl
  | sensorFrameArrival ch char =>
    rcases sensorFrameArrival_cases e with rfl | ⟨bytes, -, -, -, rfl⟩
    · exact hs
    · exact arriveFrame_keeps_calibration ch _ hs
  | sensorCharacter ch char | sensorFramingError ch | breakDetectorSample ch high =>
    rcases eq_or_of_whenDue e with rfl | ⟨-, rfl⟩
    · exact hs
    · exact onChannel_keeps_calibration ch (by intro; rfl) (by intro; rfl) hs
  | breakDetected ch =>
    rcases eq_or_of_whenDue e with rfl | ⟨-, rfl⟩
    · exact hs
    · exact changeChannel_keeps_calibration ch _ (.inl (takeBreak_fifo _)) hs
  | breakEnd ch =>
    rcases eq_or_of_whenDue e with rfl | ⟨-, rfl⟩
    · exact hs
    · exact changeChannel_keeps_calibration ch _ (.inl (endBreak_fifo _)) hs
  | staleTimerExpiry ch | silentTimerExpiry ch =>
    rcases eq_or_of_whenDue e with rfl | ⟨-, rfl⟩
    · exact hs
    · exact changeChannel_keeps_calibration ch _ (.inl rfl) hs
  | inputLevelChange x =>
    rcases eq_or_of_whenDue e with rfl | ⟨-, rfl⟩
    · exact hs
    · exact readInputs_keeps_calibration x hs
  | poseCompletion =>
    rcases poseCompletion_cases e with rfl | ⟨c, -, rfl⟩
    · exact hs
    · exact completePose_keeps_calibration c hs
  | calibrationStepEnd =>
    rcases calibrationStepEnd_cases e with rfl | ⟨r, w, -, hw, rfl⟩
    · exact hs
    · obtain ⟨ordered, -, copy⟩ := (calibrationOrdered_iff s).1 hs
      exact (judgeStep_wasTaken ordered hw).calibrationOrdered copy
  | channelSet tag body =>
    refine interpret_keeps touches e (fun u hu => ?_) hs
    rcases channelSetOwner_cases body u with h | ⟨ch, new, -, h⟩ <;> rw [h]
    · exact hu
    · exact changeChannel_keeps_calibration ch _ (.inr (reset_fifo _ _ _)) (hu.of_frame (markedIf_frame _ u) rfl rfl)
  | channelRestart tag body =>
    refine interpret_keeps touches e (fun u hu => ?_) hs
    rcases channelRestartOwner_cases body u with h | ⟨ch, -, h⟩ <;> rw [h]
    · exact hu
    · exact changeChannel_keeps_calibration ch _ (.inr rfl) hu
  | channelStatus tag body =>
    refine interpret_keeps touches e (fun u hu => ?_) hs
    rcases channelStatusOwner_cases body u with h | ⟨ch, h⟩ <;> rw [h]
    · exact hu
    · exact onChannel_keeps_calibration ch (by intro; rfl) (by intro; rfl) hu
  | geometrySet tag body => exact interpret_keeps touches e (fun _ h => geometrySetOwner_keeps_calibration body h) hs
  | gradeSet tag body => exact interpret_keeps touches e (fun _ h => gradeSetOwner_keeps_calibration body h) hs
  | cycleSettings tag body => exact interpret_keeps touches e (fun _ h => cycleSettingsOwner_keeps_calibration body h) hs
  | calibrateEmpty tag body =>
    refine interpret_keeps touches e (fun u hu => ?_) hs
    unfold calibrateEmptyOwner
    rcases withFields_cases calibrateEmpty? _ body u with h | ⟨bands, -, h⟩ <;> rw [h]
    · exact hu
    · exact startRun_keeps_calibration _ hu
  | calibrateGain tag body =>
    refine interpret_keeps touches e (fun u hu => ?_) hs
    unfold calibrateGainOwner
    rcases withFields_cases calibrateGain? _ body u with h | ⟨load, -, h⟩ <;> rw [h]
    · exact hu
    · exact startRun_keeps_calibration _ hu
  | calibrateCancel tag body =>
    exact interpret_keeps touches e (fun _ h => calibrateCancelOwner_keeps_calibration body h) hs
  | _ => exact hs.of_touches (exec_touches id e) rfl rfl

/-- Settles O12: what takes pressure samples takes them until a step is BUSY, and each delivery of the pressure channel's health
reaches the copy, in whatever order they run. -/
theorem stepKeepsCalibrationOrder : Obligations.StepKeepsCalibrationOrder := by
  intro s t hs h
  rcases step_cases h with rfl | ⟨c, q, e⟩
  · exact hs.of_touches (tick_touches s) rfl rfl
  · exact exec_keeps_calibration (s := s.withPending q) hs e

end Sys2Proof.Machine

/-! PROOFS. What every step keeps: the Economy Manager's timers and marks by its mode, and its advice (R139, R142 to R146). -/

namespace Sys2Proof.Machine

/-! ## Changes of mode -/

/-- The marks and timers follow the mode (R139, R142 to R144). -/
def ModeRight (em : Em) : Prop :=
  (em.idleTimer.isSome ↔ em.mode = .work ∨ em.mode = .eco) ∧ (em.shutdownTimer ≠ .stopped ↔ em.mode = .autoIdle) ∧
    (em.deferred = true → em.mode = .autoIdle) ∧ (em.wait ≠ .none ↔ em.mode = .shutdownPending) ∧
    (em.cancel = true → em.mode = .work) ∧ (em.failed = true → em.mode = .shutdownAdvised)

theorem economyFollowsMode_iff (s : State) : EconomyFollowsMode s ↔ ModeRight s.em ∧ AdviceStands s.em s.em.lastAdvice := by
  unfold EconomyFollowsMode ModeRight
  tauto

theorem EconomyFollowsMode.of_em {s t : State} (e : t.em = s.em) (hs : EconomyFollowsMode s) : EconomyFollowsMode t := by
  unfold EconomyFollowsMode
  rw [e]; exact hs

theorem EconomyFollowsMode.of_touches {b : Blocks} {s t : State} (h : Touches b s t) (hb : b.em = false)
    (hs : EconomyFollowsMode s) : EconomyFollowsMode t := hs.of_em (h.em hb)

theorem EconomyFollowsMode.of_frame {b : Blocks} {s t : State} (h : Frame b s t) (hb : b.em = false)
    (hs : EconomyFollowsMode s) : EconomyFollowsMode t := hs.of_em (h.em hb)

/-- Settling the advice leaves it standing, whatever changed before (R145). -/
theorem settleAdvice_follows {s : State} (h : ModeRight s.em) : EconomyFollowsMode (settleAdvice s) := by
  rw [economyFollowsMode_iff, settleAdvice_em]
  exact ⟨h, advice_stands _ _⟩

/-- A change to a mode in which no commit is waited for. -/
theorem setMode_right (now : Stamp) {m : EngineMode} (hm : m ≠ .shutdownPending) {em : Em} (h : ModeRight em) :
    ModeRight (Em.setMode now m em) := by
  obtain ⟨h1, h2, h3, h4, h5, h6⟩ := h
  unfold Em.setMode
  by_cases he : m = em.mode
  · rw [if_pos he]; exact ⟨h1, h2, h3, h4, h5, h6⟩
  · rw [if_neg he]
    cases m <;> cases hmode : em.mode <;> simp_all [ModeRight, EngineMode.isWorking]

/-- The entry to SHUTDOWN_PENDING, with a commit waited for (R143). -/
theorem setMode_pending_right (now : Stamp) {w : CommitWait} (hw : w ≠ .none) {em : Em} (h : ModeRight em)
    (auto : em.mode = .autoIdle) : ModeRight { Em.setMode now .shutdownPending em with wait := w } := by
  obtain ⟨h1, h2, h3, h4, h5, h6⟩ := h
  unfold Em.setMode
  simp_all [ModeRight, EngineMode.isWorking]

/-- The two changes of mode of a shutdown granted to a CLEAN store (R143). -/
theorem setMode_advised_right (now : Stamp) {em : Em} (h : ModeRight em) (auto : em.mode = .autoIdle) :
    ModeRight (Em.setMode now .shutdownAdvised (Em.setMode now .shutdownPending em)) := by
  obtain ⟨h1, h2, h3, h4, h5, h6⟩ := h
  unfold Em.setMode
  simp_all [ModeRight, EngineMode.isWorking]

theorem requestCommit_em (s : State) : (requestCommit s).em = s.em := (requestCommit_frame s).em rfl

theorem testShutdown_right {s : State} (h : ModeRight s.em) (auto : s.em.mode = .autoIdle) :
    ModeRight (testShutdown s).em := by
  unfold testShutdown
  split_ifs
  · unfold enterPending
    simp only []
    split
    · exact setMode_advised_right s.now h auto
    · simp only [onEm_em, requestCommit_em]
      exact setMode_pending_right s.now (by decide) h auto
    · simp only [onEm_em, requestCommit_em]
      exact setMode_pending_right s.now (by decide) h auto
    · exact setMode_pending_right s.now (by decide) h auto
  · obtain ⟨h1, h2, -, h4, h5, h6⟩ := h
    exact ⟨h1, h2, fun _ => auto, h4, h5, h6⟩

theorem expireShutdown_right (start : Stamp) {s : State} (h : ModeRight s.em) (auto : s.em.mode = .autoIdle) :
    ModeRight (expireShutdown start s).em := by
  obtain ⟨h1, -, h3, h4, h5, h6⟩ := h
  exact testShutdown_right (s := onEm _ s) ⟨h1, by simp [auto], h3, h4, h5, h6⟩ auto

theorem expireIdle_right {s : State} (h : ModeRight s.em) : ModeRight (expireIdle s).em :=
  setMode_right s.now (by decide) h

theorem reworkIdle_right {s : State} (h : ModeRight s.em) : ModeRight (reworkIdle s).em := by
  unfold reworkIdle
  split_ifs
  · exact expireIdle_right h
  · exact h

theorem reworkShutdown_right {s : State} (h : ModeRight s.em) : ModeRight (reworkShutdown s).em := by
  unfold reworkShutdown
  split
  · next start auto _ =>
    split_ifs
    · exact expireShutdown_right start h auto
    · obtain ⟨h1, -, -, h4, h5, h6⟩ := h
      exact ⟨h1, by simp [auto], fun _ => auto, h4, h5, h6⟩
  · exact h

/-! ## What the Economy Manager takes -/

theorem takeActivity_keeps_mode {s : State} (h : EconomyFollowsMode s) : EconomyFollowsMode (takeActivity s) := by
  obtain ⟨right, -⟩ := (economyFollowsMode_iff s).1 h
  refine settleAdvice_follows ?_
  have working (hm : s.em.mode = .work ∨ s.em.mode = .eco) : ModeRight { s.em with idleTimer := some s.now } := by
    obtain ⟨-, h2, h3, h4, h5, h6⟩ := right
    exact ⟨by simpa using hm, h2, h3, h4, h5, h6⟩
  simp only [onEm_em]
  split
  · exact right
  · next e => exact working (.inl e)
  · next e => exact working (.inr e)
  all_goals exact setMode_right s.now (by decide) right

theorem takeSeatChange_keeps_mode {s : State} (h : EconomyFollowsMode s) : EconomyFollowsMode (takeSeatChange s) :=
  settleAdvice_follows (reworkIdle_right ((economyFollowsMode_iff s).1 h).1)

theorem takePhaseChange_keeps_mode (p : Phase) {s : State} (h : EconomyFollowsMode s) :
    EconomyFollowsMode (takePhaseChange p s) := by
  obtain ⟨right, -⟩ := (economyFollowsMode_iff s).1 h
  refine settleAdvice_follows ?_
  simp only [onEm_em]
  split
  · split_ifs
    · exact setMode_right s.now (by decide) right
    · exact right
  · split_ifs
    · exact right
    · exact setMode_right s.now (by decide) right
  · exact right

theorem takeCap_keeps_mode (cap : Nat) {s : State} (h : EconomyFollowsMode s) : EconomyFollowsMode (takeCap cap s) :=
  settleAdvice_follows (s := onEm _ s) ((economyFollowsMode_iff s).1 h).1

theorem settleCap_keeps_mode {s : State} (h : EconomyFollowsMode s) : EconomyFollowsMode (settleCap s) := by
  unfold settleCap
  simp only []
  split_ifs
  · exact h
  · exact takeCap_keeps_mode _ (s := { s with st := { s.st with reportedCap := lowestCap s.st.entries } }) h

theorem incrementEntries_em (b : Basis) (n : Nat) (s : State) :
    ((List.finRange 24).foldl (fun s i => incrementEntry b n i s) s).em = s.em :=
  (foldl_frame _ (fun s i => incrementEntry_frame b n i s) _ s).em rfl

theorem takeIncrement_keeps_mode (b : Basis) (n : Nat) {s : State} (h : EconomyFollowsMode s) :
    EconomyFollowsMode (takeIncrement b n s) := by
  unfold takeIncrement
  split_ifs
  · exact h
  · have folded := h.of_em (incrementEntries_em b n s)
    exact settleCap_keeps_mode (folded.of_frame (markedIf_frame _ _) rfl)

theorem takeCommitEnd_keeps_mode (failed : Bool) {s : State} (h : EconomyFollowsMode s) :
    EconomyFollowsMode (takeCommitEnd failed s) := by
  obtain ⟨⟨h1, h2, h3, h4, h5, h6⟩, -⟩ := (economyFollowsMode_iff s).1 h
  unfold takeCommitEnd
  split
  · exact h
  · next prior =>
    have pending := h4.1 (by simp [prior])
    refine settleAdvice_follows ?_
    simp only [onEm_em, requestCommit_em]
    exact ⟨h1, h2, h3, by simp [pending], h5, h6⟩
  · next own =>
    have pending := h4.1 (by simp [own])
    refine settleAdvice_follows ?_
    have advised := setMode_right s.now (m := .shutdownAdvised) (by decide) ⟨h1, h2, h3, h4, h5, h6⟩
    have mode : (Em.setMode s.now .shutdownAdvised s.em).mode = .shutdownAdvised := by simp [Em.setMode, pending]
    obtain ⟨a1, a2, a3, -, a5, -⟩ := advised
    exact ⟨a1, a2, a3, by simp [mode], a5, fun _ => mode⟩

theorem writeEconomy_keeps_mode (e : EconomySettings) {s : State} (h : EconomyFollowsMode s) :
    EconomyFollowsMode (writeEconomy e s) := by
  obtain ⟨right, -⟩ := (economyFollowsMode_iff s).1 h
  unfold writeEconomy
  simp only []
  refine settleAdvice_follows ?_
  have stored : ModeRight (if (e != s.em.settings) = true then markRetained (onEm (fun em => { em with settings := e }) s)
      else onEm (fun em => { em with settings := e }) s).em := by
    rw [(markedIf_frame (e != s.em.settings) (onEm (fun em => { em with settings := e }) s)).em rfl]
    exact right
  have worked := reworkShutdown_right (reworkIdle_right stored)
  generalize reworkShutdown (reworkIdle _) = u at worked ⊢
  simp only [onEm_em]
  split_ifs
  · exact setMode_right u.now (m := .work) (by decide) worked
  · exact worked

theorem reportModeSteps_right (r : EngineReport) {s : State} (h : ModeRight s.em) :
    ModeRight (reportModeSteps r s).em := by
  unfold reportModeSteps
  by_cases running : r.running = true
  · simp only [running, Bool.not_true, Bool.false_eq_true, if_false]
    split
    · exact setMode_right s.now (by decide) h
    · next auto =>
      split
      · exact testShutdown_right h auto
      · exact h
    · exact h
  · simp [running, ModeRight, Em.stop]

/-! ## Reports, passes and turns -/

theorem integrateReport_keeps_mode {s : State} (h : EconomyFollowsMode s) : EconomyFollowsMode (integrateReport s) := by
  unfold integrateReport
  split
  · exact h
  · next c _ =>
    have integrated : EconomyFollowsMode (onEm (fun _ =>
        if c.report.running = true then Em.integrateTime c (min (reportInterval s c) 1000)
          (Em.integrateFuel c (reportInterval s c) s.em)
        else Em.integrateFuel c (reportInterval s c) s.em) s) := by
      cases hr : c.report.running <;> exact h
    refine anyOrder_keeps (fun s h => h) _ _ (fun f m u hu => ?_) (integrated.of_frame (markedIf_frame _ _) rfl)
    simp only [List.mem_cons, List.not_mem_nil, or_false] at m
    rcases m with rfl | rfl | rfl | rfl
    · exact hu.of_frame (chargeFuel_frame _ _) rfl
    all_goals exact takeIncrement_keeps_mode _ _ hu

theorem takeReport_keeps_mode (r : EngineReport) {s : State} (h : EconomyFollowsMode s) :
    EconomyFollowsMode (takeReport r s) := by
  obtain ⟨right, -⟩ := (economyFollowsMode_iff _).1 (integrateReport_keeps_mode h)
  exact settleAdvice_follows (reportModeSteps_right r (s := onEm _ _) right)

theorem receivePass_keeps_mode (p : Pass) {s : State} (h : EconomyFollowsMode s) : EconomyFollowsMode (receivePass p s) := by
  refine anyOrder_keeps (fun s h => h) _ _ (fun f m u hu => ?_) (h.of_frame (countPass_frame p s) rfl)
  simp only [List.mem_cons, List.not_mem_nil, or_false] at m
  rcases m with rfl | rfl | rfl
  · exact hu.of_frame (handlePass_frame _ _) rfl
  all_goals exact takeIncrement_keeps_mode _ _ hu

theorem arrivePass_keeps_mode (p : Pass) {s : State} (h : EconomyFollowsMode s) : EconomyFollowsMode (arrivePass p s) := by
  unfold arrivePass
  simp only []
  split_ifs
  · exact receivePass_keeps_mode p ((show EconomyFollowsMode { s with choices := s.choices + 1 } from h).of_frame
      (takeTravelFirst_frame _) rfl)
  · exact receivePass_keeps_mode (s := { s with choices := s.choices + 1 }) p h
  · exact receivePass_keeps_mode p h

theorem readSlewTravel_keeps_mode (x : Sample) {s : State} (h : EconomyFollowsMode s) :
    EconomyFollowsMode (readSlewTravel x s) := by
  have turn {u : State} (hu : EconomyFollowsMode u) : EconomyFollowsMode (countTurn u) := by
    unfold countTurn
    exact takeIncrement_keeps_mode _ _ ((hu.of_frame (onSl_frame _ u) rfl).of_frame (markRetained_frame _) rfl)
  unfold readSlewTravel
  simp only []
  split
  · exact h
  · split
    · exact h
    · split
      · exact turn (h.of_em rfl)
      · exact h

/-! ## Every command -/

theorem setPhase_keeps_mode (p : Phase) {s : State} (h : EconomyFollowsMode s) : EconomyFollowsMode (setPhase p s) := by
  unfold setPhase
  split_ifs
  · exact h
  · exact takePhaseChange_keeps_mode p (s := onCt _ s) h

theorem travelEndedAtCt_keeps_mode {s : State} (h : EconomyFollowsMode s) : EconomyFollowsMode (travelEndedAtCt s) := by
  unfold travelEndedAtCt
  split
  · split_ifs
    · exact h
    · exact setPhase_keeps_mode _ h
  · exact h

theorem readInputs_keeps_mode (x : InputSamples) {s : State} (h : EconomyFollowsMode s) :
    EconomyFollowsMode (readInputs x s) := by
  refine readInputs_keeps (fun s h => h) x (fun s h => h) (fun f m u hu => ?_) s h
  simp only [List.mem_cons, List.not_mem_nil, or_false] at m
  rcases m with rfl | rfl | rfl | rfl | rfl | rfl | rfl
  · exact takeActivity_keeps_mode hu
  · exact takeSeatChange_keeps_mode hu
  · exact hu.of_frame (travelZones_frame _) rfl
  · exact setPhase_keeps_mode _ (s := onCt _ u) hu
  · exact hu.of_frame (travelLoads_frame _) rfl
  · exact travelEndedAtCt_keeps_mode hu
  · exact hu.of_frame (settleAuthority_frame _) rfl

theorem completePose_keeps_mode (c : Computation) {s : State} (hs : EconomyFollowsMode s) :
    EconomyFollowsMode (completePose c s) := by
  unfold completePose
  simp only []
  refine EconomyFollowsMode.of_frame (startPending_frame _) rfl ?_
  refine deliverPose_keeps (fun s h => h) _ _ (fun f m u hu => ?_) (EconomyFollowsMode.of_frame (takePoseAtCt_frame _ _) rfl
    (EconomyFollowsMode.of_frame (serveTip_frame _ _) rfl (EconomyFollowsMode.of_frame (settleOverdig_frame _ _) rfl
      (s := onPs _ s) hs)))
  simp only [List.mem_cons, List.not_mem_nil, or_false] at m
  rcases m with rfl | rfl | rfl | rfl | rfl
  · exact hu.of_frame (deliverPoseToSl_frame _ _) rfl
  · exact hu.of_frame (hardFail_frame _ _) rfl
  · exact arrivePass_keeps_mode _ hu
  · exact takeActivity_keeps_mode hu
  · exact takePhaseChange_keeps_mode _ hu

theorem arriveFrame_keeps_mode (ch : Fin 6) (bytes : List Byte) {s : State} (hs : EconomyFollowsMode s) :
    EconomyFollowsMode (arriveFrame ch bytes s) := by
  refine arriveFrame_keeps (fun s h => h) ch bytes (fun a b x f m u hu => ?_) hs
  simp only [List.mem_cons, List.not_mem_nil, or_false] at m
  rcases m with rfl | rfl | rfl | rfl | rfl | rfl
  · exact hu
  · exact hu.of_frame (requestComputation_frame _) rfl
  · exact hu.of_frame (deliverHealthToSl_frame _ _) rfl
  · exact hu.of_frame (deliverHealthToCt_frame _ _) rfl
  · exact readSlewTravel_keeps_mode x hu
  · exact hu.of_frame (drainPressure_frame _) rfl

theorem endCommit_keeps_mode (r : CommitRecord) (done : Bool) {s : State} (h : EconomyFollowsMode s) :
    EconomyFollowsMode (endCommit r done s) :=
  takeCommitEnd_keeps_mode _ (EconomyFollowsMode.of_touches (commitRace_touches _) rfl (s := queueNotice _ _) h)

theorem endAttempt_keeps_mode (written : Bool) (image : Image) (r : CommitRecord) {s : State} (h : EconomyFollowsMode s) :
    EconomyFollowsMode (endAttempt written image r s) := by
  have read : EconomyFollowsMode { s with rs := { s.rs with image := image } } := h
  unfold endAttempt
  simp only []
  split_ifs
  · exact endCommit_keeps_mode r true read
  · exact h
  · exact endCommit_keeps_mode r false read

theorem settleReplaced_keeps_mode (i : Fin 24) (item : Option ServiceItem) {s : State} (h : EconomyFollowsMode s) :
    EconomyFollowsMode (settleCap (replaceItem i item s)) := settleCap_keeps_mode (h.of_frame (replaceItem_frame i item s) rfl)

theorem serviceItemOwner_keeps_mode (body : List Byte) {s : State} (h : EconomyFollowsMode s) :
    EconomyFollowsMode (serviceItemOwner body s).1 := by
  unfold serviceItemOwner
  rcases withFields_cases serviceItemSet? _ body s with e | ⟨⟨i, d⟩, -, e⟩ <;> rw [e]
  · exact h
  · exact settleReplaced_keeps_mode i _ h

theorem serviceDoneOwner_keeps_mode (body : List Byte) {s : State} (h : EconomyFollowsMode s) :
    EconomyFollowsMode (serviceDoneOwner body s).1 := by
  unfold serviceDoneOwner
  rcases withFields_cases (fun b => index? 24 (u8 b 0)) _ body s with e | ⟨i, -, e⟩ <;> rw [e]
  · exact h
  · split
    · exact h
    · exact settleReplaced_keeps_mode i _ h

theorem serviceSuspendOwner_keeps_mode (body : List Byte) {s : State} (h : EconomyFollowsMode s) :
    EconomyFollowsMode (serviceSuspendOwner body s).1 := by
  unfold serviceSuspendOwner
  rcases withFields_cases serviceSuspend? _ body s with e | ⟨⟨i, on⟩, -, e⟩ <;> rw [e]
  · exact h
  · simp only []
    split
    · exact h
    · simp only []
      split_ifs
      · exact h
      · exact settleReplaced_keeps_mode i _ h

theorem emFresh_right (r : Retained) (cap : Nat) : ModeRight (Em.fresh r cap) ∧
    AdviceStands (Em.fresh r cap) (Em.fresh r cap).lastAdvice := by
  simp [ModeRight, AdviceStands, Em.fresh, Reasons.ofCap]

theorem exec_keeps_mode {c : Instr} {s t : State} (hs : EconomyFollowsMode s) (e : exec c s = .next t) :
    EconomyFollowsMode t := by
  have touches {s t : State} (h : Touches {} s t) (hs : EconomyFollowsMode s) : EconomyFollowsMode t := hs.of_touches h rfl
  cases c with
  | restartTakesEffect | powerOn | powerLoss =>
    rcases exec_reset e trivial with rfl | ⟨-, rfl⟩ | ⟨strap, rfl⟩ | ⟨image, rfl⟩
    · exact hs
    all_goals exact (economyFollowsMode_iff _).2 (emFresh_right _ _)
  | sensorFrameArrival ch char =>
    rcases sensorFrameArrival_cases e with rfl | ⟨bytes, -, -, -, rfl⟩
    · exact hs
    · exact arriveFrame_keeps_mode ch _ hs
  | inputLevelChange x =>
    rcases eq_or_of_whenDue e with rfl | ⟨-, rfl⟩
    · exact hs
    · exact readInputs_keeps_mode x hs
  | poseCompletion =>
    rcases poseCompletion_cases e with rfl | ⟨c, -, rfl⟩
    · exact hs
    · exact completePose_keeps_mode c hs
  | engineReport tag body => exact interpret_keeps touches e (fun _ h => takeReport_keeps_mode _ h) hs
  | countersRead tag body =>
    refine interpret_keeps touches e (fun u hu => ?_) hs
    unfold countersOwner
    rcases withFields_cases (fun b => flag? (u8 b 0)) _ body u with h | ⟨clear, -, h⟩ <;> rw [h]
    · exact hu
    · cases clear
      · exact hu
      · exact (show EconomyFollowsMode (onEm (fun em => { em with histogram := Vector.replicate 8 0, gaps := 0 }) u)
          from hu).of_frame (markedIf_frame _ _) rfl
  | economySet tag body =>
    refine interpret_keeps touches e (fun u hu => ?_) hs
    unfold economyOwner
    rcases withFields_cases economySet? _ body u with h | ⟨op, -, h⟩ <;> rw [h]
    · exact hu
    · cases op with
      | read => exact hu
      | write x => exact writeEconomy_keeps_mode x hu
  | idleTimerExpiry =>
    change execIdleTimerExpiry s = _ at e
    unfold execIdleTimerExpiry at e
    rcases eq_or_of_whenDue e with rfl | ⟨-, rfl⟩
    · exact hs
    · exact settleAdvice_follows (expireIdle_right ((economyFollowsMode_iff s).1 hs).1)
  | shutdownTimerExpiry =>
    rcases shutdownTimerExpiry_cases e with rfl | ⟨start, -, auto, rfl⟩
    · exact hs
    · exact settleAdvice_follows (expireShutdown_right start ((economyFollowsMode_iff s).1 hs).1 auto)
  | serviceItemSet tag body => exact interpret_keeps touches e (fun _ h => serviceItemOwner_keeps_mode body h) hs
  | serviceDone tag body => exact interpret_keeps touches e (fun _ h => serviceDoneOwner_keeps_mode body h) hs
  | serviceSuspend tag body => exact interpret_keeps touches e (fun _ h => serviceSuspendOwner_keeps_mode body h) hs
  | commitAttemptEnd written image =>
    rcases commitAttemptEnd_cases e with rfl | ⟨r, -, rfl⟩
    · exact hs
    · exact endAttempt_keeps_mode written image r hs
  | _ => exact hs.of_touches (exec_touches id e) rfl

/-- Settles O14: every change of mode sets the marks and timers the new mode requires, and every event the Economy Manager takes
ends with the advice settled. -/
theorem stepKeepsEconomyFollowingMode : Obligations.StepKeepsEconomyFollowingMode := by
  intro s t hs h
  rcases step_cases h with rfl | ⟨c, q, e⟩
  · exact hs.of_touches (tick_touches s) rfl
  · exact exec_keeps_mode (s := s.withPending q) hs e

end Sys2Proof.Machine

/-! PROOFS. What every step keeps: the service items' states and the power cap (R146, R150, R154). -/

namespace Sys2Proof.Machine

/-! ## What a change of mode leaves -/

/-- Nothing of the Economy Manager differs but its mode, the timers and marks that go with it, the wait and the last advice. -/
def ModeMoved (a b : Em) : Prop :=
  b = { a with
    mode := b.mode, idleTimer := b.idleTimer, shutdownTimer := b.shutdownTimer, deferred := b.deferred
    cancel := b.cancel, failed := b.failed, wait := b.wait, lastAdvice := b.lastAdvice }

theorem ModeMoved.refl (a : Em) : ModeMoved a a := by cases a; rfl

theorem ModeMoved.trans {a b c : Em} (h : ModeMoved a b) (k : ModeMoved b c) : ModeMoved a c := by
  unfold ModeMoved at *
  rw [k, h]

theorem ModeMoved.cap {a b : Em} (h : ModeMoved a b) : b.cap = a.cap := by rw [h]
theorem ModeMoved.settings {a b : Em} (h : ModeMoved a b) : b.settings = a.settings := by rw [h]
theorem ModeMoved.fuelTotal {a b : Em} (h : ModeMoved a b) : b.fuelTotal = a.fuelTotal := by rw [h]
theorem ModeMoved.engineSeconds {a b : Em} (h : ModeMoved a b) : b.engineSeconds = a.engineSeconds := by rw [h]
theorem ModeMoved.weightedSeconds {a b : Em} (h : ModeMoved a b) : b.weightedSeconds = a.weightedSeconds := by rw [h]
theorem ModeMoved.histogram {a b : Em} (h : ModeMoved a b) : b.histogram = a.histogram := by rw [h]

theorem setMode_moved (now : Stamp) (m : EngineMode) (em : Em) : ModeMoved em (Em.setMode now m em) := by
  unfold Em.setMode
  by_cases h : m = em.mode
  · rw [if_pos h]; exact ModeMoved.refl em
  · rw [if_neg h]; rfl

theorem settleAdvice_moved (s : State) : ModeMoved s.em (settleAdvice s).em := by
  rw [settleAdvice_em]; rfl

theorem enterPending_moved (s : State) : ModeMoved s.em (enterPending s).em := by
  have pending := setMode_moved s.now .shutdownPending s.em
  unfold enterPending
  simp only []
  split
  · exact pending.trans (setMode_moved _ _ _)
  · simp only [onEm_em, requestCommit_em]; exact pending.trans rfl
  · simp only [onEm_em, requestCommit_em]; exact pending.trans rfl
  · exact pending.trans rfl

theorem testShutdown_moved (s : State) : ModeMoved s.em (testShutdown s).em := by
  unfold testShutdown
  split_ifs
  · exact enterPending_moved s
  · rfl

theorem expireShutdown_moved (start : Stamp) (s : State) : ModeMoved s.em (expireShutdown start s).em :=
  ModeMoved.trans (b := { s.em with shutdownTimer := .expired start }) rfl
    (testShutdown_moved (onEm (fun em => { em with shutdownTimer := .expired start }) s))

theorem reworkIdle_moved (s : State) : ModeMoved s.em (reworkIdle s).em := by
  unfold reworkIdle
  split_ifs
  · exact setMode_moved _ _ _
  · exact ModeMoved.refl _

theorem reworkShutdown_moved (s : State) : ModeMoved s.em (reworkShutdown s).em := by
  unfold reworkShutdown
  split
  · split_ifs
    · exact expireShutdown_moved _ s
    · rfl
  · exact ModeMoved.refl _

theorem takeActivity_moved (s : State) : ModeMoved s.em (takeActivity s).em := by
  refine ModeMoved.trans ?_ (settleAdvice_moved _)
  simp only [onEm_em]
  split
  · exact ModeMoved.refl _
  · rfl
  · rfl
  all_goals exact setMode_moved _ _ _

theorem takeSeatChange_moved (s : State) : ModeMoved s.em (takeSeatChange s).em :=
  (reworkIdle_moved s).trans (settleAdvice_moved _)

theorem takePhaseChange_moved (p : Phase) (s : State) : ModeMoved s.em (takePhaseChange p s).em := by
  refine ModeMoved.trans ?_ (settleAdvice_moved _)
  simp only [onEm_em]
  split
  · split_ifs
    · exact setMode_moved _ _ _
    · exact ModeMoved.refl _
  · split_ifs
    · exact ModeMoved.refl _
    · exact setMode_moved _ _ _
  · exact ModeMoved.refl _

theorem takeCommitEnd_moved (failed : Bool) (s : State) : ModeMoved s.em (takeCommitEnd failed s).em := by
  unfold takeCommitEnd
  split
  · exact ModeMoved.refl _
  · refine ModeMoved.trans ?_ (settleAdvice_moved _)
    simp only [onEm_em, requestCommit_em]; rfl
  · refine ModeMoved.trans ?_ (settleAdvice_moved _)
    exact (setMode_moved s.now .shutdownAdvised s.em).trans (by rfl)

theorem reportModeSteps_moved (r : EngineReport) (s : State) : ModeMoved s.em (reportModeSteps r s).em := by
  unfold reportModeSteps
  split
  · rfl
  · split
    · exact setMode_moved _ _ _
    · split
      · exact testShutdown_moved s
      · exact ModeMoved.refl _
    · exact ModeMoved.refl _

theorem setPhase_moved (p : Phase) (s : State) : ModeMoved s.em (setPhase p s).em := by
  unfold setPhase
  split_ifs
  · exact ModeMoved.refl _
  · exact takePhaseChange_moved p (onCt (fun ct => { ct with phase := p }) s)

theorem toUnknown_moved (s : State) : ModeMoved s.em (toUnknown s).em :=
  setPhase_moved .unknown (onCt (fun ct => { ct with window := none }) s)

theorem travelEndedAtCt_moved (s : State) : ModeMoved s.em (travelEndedAtCt s).em := by
  unfold travelEndedAtCt
  split
  · split_ifs
    · exact ModeMoved.refl _
    · exact setPhase_moved _ s
  · exact ModeMoved.refl _

/-- A reading moves the mode alone (R26, R139 to R141). -/
theorem readInputs_moved (x : InputSamples) (s : State) : ModeMoved s.em (readInputs x s).em := by
  refine readInputs_keeps (P := fun u => ModeMoved s.em u.em) (fun _ h => h) x (fun _ h => h) (fun f m u hu => ?_) s
    (ModeMoved.refl _)
  have same {b : Blocks} {t : State} (h : Frame b u t) (hb : b.em = false) : ModeMoved s.em t.em := by rw [h.em hb]; exact hu
  simp only [List.mem_cons, List.not_mem_nil, or_false] at m
  rcases m with rfl | rfl | rfl | rfl | rfl | rfl | rfl
  · exact hu.trans (takeActivity_moved u)
  · exact hu.trans (takeSeatChange_moved u)
  · exact same (travelZones_frame _) rfl
  · exact hu.trans (toUnknown_moved u)
  · exact same (travelLoads_frame _) rfl
  · exact hu.trans (travelEndedAtCt_moved u)
  · exact same (settleAuthority_frame _) rfl

theorem endCommit_moved (r : CommitRecord) (done : Bool) (s : State) : ModeMoved s.em (endCommit r done s).em := by
  unfold endCommit
  refine ModeMoved.trans ?_ (takeCommitEnd_moved _ _)
  rw [(commitRace_touches _).em rfl]
  exact ModeMoved.refl _

theorem endAttempt_moved (written : Bool) (image : Image) (r : CommitRecord) (s : State) :
    ModeMoved s.em (endAttempt written image r s).em := by
  unfold endAttempt
  simp only []
  split_ifs
  · exact endCommit_moved r true { s with rs := { s.rs with image := image } }
  · exact ModeMoved.refl _
  · exact endCommit_moved r false { s with rs := { s.rs with image := image } }

/-! ## The lowest cap -/

theorem foldl_lowest {α : Type} (p : α → Prop) [DecidablePred p] (cap : α → Nat) {f : Nat → Option α → Nat}
    (hsome : ∀ c e, f c (some e) = if p e then min c (cap e) else c) (hnone : ∀ c, f c none = c) (l : List (Option α))
    (init : Nat) : l.foldl f init ≤ init ∧ (∀ e, some e ∈ l → p e → l.foldl f init ≤ cap e) ∧
      (l.foldl f init = init ∨ ∃ e, some e ∈ l ∧ p e ∧ cap e = l.foldl f init) := by
  induction l generalizing init with
  | nil => simp
  | cons x l ih =>
    cases x with
    | none => simpa [hnone] using ih init
    | some x =>
      simp only [List.foldl_cons, List.mem_cons, Option.some.injEq, hsome]
      by_cases hp : p x
      · rw [if_pos hp]
        obtain ⟨h1, h2, h3⟩ := ih (min init (cap x))
        refine ⟨h1.trans (Nat.min_le_left _ _), ?_, ?_⟩
        · rintro e (rfl | m) he
          · exact h1.trans (Nat.min_le_right _ _)
          · exact h2 e m he
        · rcases h3 with h3 | ⟨e, m, he, hc⟩
          · rcases Nat.le_total init (cap x) with h | h
            · left; rw [h3, Nat.min_eq_left h]
            · right; exact ⟨x, .inl rfl, hp, by rw [h3, Nat.min_eq_right h]⟩
          · right; exact ⟨e, .inr m, he, hc⟩
      · rw [if_neg hp]
        obtain ⟨h1, h2, h3⟩ := ih init
        refine ⟨h1, ?_, h3.imp_right fun ⟨e, m, h⟩ => ⟨e, .inr m, h⟩⟩
        rintro e (rfl | m) he
        · exact absurd he hp
        · exact h2 e m he

/-- The cap once an entry is counted. -/
def cappedBy (cap : Nat) (e : Option ServiceEntry) : Nat :=
  match e with
  | some e => if e.state = .overdue ∧ e.item.definition.severity = .derate then min cap e.item.definition.cap else cap
  | none => cap

theorem lowestCap_eq (entries : Vector (Option ServiceEntry) 24) : lowestCap entries = entries.toList.foldl cappedBy 100 :=
  rfl

/-- The cap worked out is the lowest of the OVERDUE DERATE items (R154). -/
theorem lowestCap_isLowest (entries : Vector (Option ServiceEntry) 24) : IsLowestCap entries (lowestCap entries) := by
  rw [lowestCap_eq]
  obtain ⟨h1, h2, h3⟩ := foldl_lowest (fun e : ServiceEntry => e.state = .overdue ∧ e.item.definition.severity = .derate)
    (fun e => e.item.definition.cap) (f := cappedBy) (fun c e => rfl) (fun c => rfl) entries.toList 100
  refine ⟨h1, fun i e he ho hd => h2 e ?_ ⟨ho, hd⟩, h3.imp_right ?_⟩
  · rw [Vector.mem_toList_iff, ← Option.mem_def.1 he]
    exact Vector.getElem_mem i.isLt
  · rintro ⟨e, m, ⟨ho, hd⟩, hc⟩
    obtain ⟨i, hi, he⟩ := Vector.getElem_of_mem (Vector.mem_toList_iff.1 m)
    exact ⟨⟨i, hi⟩, e, he, ho, hd, hc⟩

/-! ## The service table -/

/-- Every item is in the state its mark and count give (R150). -/
def EntriesSettled (entries : Vector (Option ServiceEntry) 24) : Prop :=
  ∀ i : Fin 24, ∀ e ∈ entries[i], e.state = ServiceItem.evaluate e.item

theorem serviceSettled_iff (s : State) : ServiceSettled s ↔ EntriesSettled s.st.entries ∧
    IsLowestCap s.st.entries s.st.reportedCap ∧ s.em.cap = s.st.reportedCap := Iff.rfl

theorem ServiceSettled.of_cap {s t : State} (st : t.st = s.st) (cap : t.em.cap = s.em.cap) (hs : ServiceSettled s) :
    ServiceSettled t := by
  rw [serviceSettled_iff] at hs ⊢
  rw [st, cap]; exact hs

theorem ServiceSettled.of_touches {b : Blocks} {s t : State} (h : Touches b s t) (hst : b.st = false) (hem : b.em = false)
    (hs : ServiceSettled s) : ServiceSettled t := hs.of_cap (h.st hst) (by rw [h.em hem])

theorem ServiceSettled.of_frame {b : Blocks} {s t : State} (h : Frame b s t) (hst : b.st = false) (hem : b.em = false)
    (hs : ServiceSettled s) : ServiceSettled t := hs.of_touches h.touches hst hem

theorem ServiceSettled.of_moved {b : Blocks} {s t : State} (h : Frame b s t) (hst : b.st = false) (m : ModeMoved s.em t.em)
    (hs : ServiceSettled s) : ServiceSettled t := hs.of_cap (h.st hst) m.cap

/-- The settling of the cap, from entries whose states are right (R146, R154). -/
theorem settleCap_settled {s : State} (entries : EntriesSettled s.st.entries) (cap : s.em.cap = s.st.reportedCap) :
    ServiceSettled (settleCap s) := by
  rw [serviceSettled_iff]
  unfold settleCap
  simp only []
  split_ifs with h
  · exact ⟨entries, h ▸ lowestCap_isLowest _, cap⟩
  · unfold takeCap
    rw [settleAdvice_eq]
    exact ⟨entries, lowestCap_isLowest _, rfl⟩

theorem set_settled {entries : Vector (Option ServiceEntry) 24} (h : EntriesSettled entries) (i : Fin 24)
    {x : Option ServiceEntry} (hx : ∀ e ∈ x, e.state = ServiceItem.evaluate e.item) : EntriesSettled (entries.set i x) := by
  intro k e he
  have hk : (entries.set i x)[k] = if i.val = k.val then x else entries[k] := by
    simp only [Fin.getElem_fin, Vector.getElem_set]
  rw [hk] at he
  split_ifs at he
  · exact hx e he
  · exact h k e he

theorem incrementEntry_settled (b : Basis) (n : Nat) (i : Fin 24) {s : State} (h : EntriesSettled s.st.entries) :
    EntriesSettled (incrementEntry b n i s).st.entries ∧
      (incrementEntry b n i s).st.reportedCap = s.st.reportedCap := by
  unfold incrementEntry
  split
  · exact ⟨h, rfl⟩
  · next e _ =>
    have set : EntriesSettled (s.st.entries.set i (some (ServiceEntry.increment n e))) := by
      refine set_settled h i fun x hx => ?_
      cases hx
      rfl
    split_ifs
    · simp only []
      split_ifs <;> exact ⟨set, rfl⟩
    · exact ⟨h, rfl⟩

theorem takeIncrement_keeps_service (b : Basis) (n : Nat) {s : State} (h : ServiceSettled s) :
    ServiceSettled (takeIncrement b n s) := by
  obtain ⟨entries, -, cap⟩ := (serviceSettled_iff s).1 h
  unfold takeIncrement
  split_ifs
  · exact h
  · have folded (l : List (Fin 24)) (u : State) (hu : EntriesSettled u.st.entries) :
        EntriesSettled (l.foldl (fun s i => incrementEntry b n i s) u).st.entries ∧
          (l.foldl (fun s i => incrementEntry b n i s) u).st.reportedCap = u.st.reportedCap := by
      induction l generalizing u with
      | nil => exact ⟨hu, rfl⟩
      | cons i l ih =>
        obtain ⟨h1, h2⟩ := incrementEntry_settled b n i hu
        obtain ⟨h3, h4⟩ := ih _ h1
        exact ⟨h3, h4.trans h2⟩
    obtain ⟨hu, hc⟩ := folded (List.finRange 24) s entries
    have em := incrementEntries_em b n s
    generalize (List.finRange 24).foldl (fun s i => incrementEntry b n i s) s = u at hu hc em ⊢
    have marked := markedIf_frame (s.st.entries.toList.any (reaches b)) u
    refine settleCap_settled ?_ ?_
    · rw [marked.st rfl]; exact hu
    · rw [marked.st rfl, marked.em rfl, em, hc]; exact cap

theorem replaceItem_settled (i : Fin 24) (item : Option ServiceItem) {s : State} (h : ServiceSettled s) :
    ServiceSettled (settleCap (replaceItem i item s)) := by
  obtain ⟨entries, -, cap⟩ := (serviceSettled_iff s).1 h
  have set : EntriesSettled (s.st.entries.set i (item.map entryOf)) := by
    refine set_settled entries i fun e he => ?_
    obtain ⟨x, -, rfl⟩ := Option.mem_map.1 he
    rfl
  have marked := markedIf_frame ((s.st.entries[i].map ServiceEntry.item) != item) (setEntry i (item.map entryOf) s)
  refine settleCap_settled ?_ ?_
  · unfold replaceItem; simp only []; rw [marked.st rfl]; exact set
  · unfold replaceItem; simp only []; rw [marked.st rfl, marked.em rfl]; exact cap

/-! ## Every command -/

theorem integrateReport_keeps_service {s : State} (h : ServiceSettled s) : ServiceSettled (integrateReport s) := by
  unfold integrateReport
  split
  · exact h
  · next c _ =>
    have integrated : ServiceSettled (onEm (fun _ =>
        if c.report.running = true then Em.integrateTime c (min (reportInterval s c) 1000)
          (Em.integrateFuel c (reportInterval s c) s.em)
        else Em.integrateFuel c (reportInterval s c) s.em) s) := by
      cases hr : c.report.running <;> exact h
    refine anyOrder_keeps (fun s h => h) _ _ (fun f m u hu => ?_) (integrated.of_frame (markedIf_frame _ _) rfl rfl)
    simp only [List.mem_cons, List.not_mem_nil, or_false] at m
    rcases m with rfl | rfl | rfl | rfl
    · exact hu.of_frame (chargeFuel_frame _ _) rfl rfl
    all_goals exact takeIncrement_keeps_service _ _ hu

theorem takeReport_keeps_service (r : EngineReport) {s : State} (h : ServiceSettled s) : ServiceSettled (takeReport r s) := by
  have copied : ServiceSettled (onEm (fun em => { em with copy := some { report := r, stamp := (integrateReport s).now } })
      (integrateReport s)) := integrateReport_keeps_service h
  exact (copied.of_moved (reportModeSteps_frame r _) rfl (reportModeSteps_moved r _)).of_moved (settleAdvice_frame _) rfl
    (settleAdvice_moved _)

theorem receivePass_keeps_service (p : Pass) {s : State} (h : ServiceSettled s) : ServiceSettled (receivePass p s) := by
  refine anyOrder_keeps (fun s h => h) _ _ (fun f m u hu => ?_) (h.of_frame (countPass_frame p s) rfl rfl)
  simp only [List.mem_cons, List.not_mem_nil, or_false] at m
  rcases m with rfl | rfl | rfl
  · exact hu.of_frame (handlePass_frame _ _) rfl rfl
  all_goals exact takeIncrement_keeps_service _ _ hu

theorem arrivePass_keeps_service (p : Pass) {s : State} (h : ServiceSettled s) : ServiceSettled (arrivePass p s) := by
  unfold arrivePass
  simp only []
  split_ifs
  · exact receivePass_keeps_service p ((show ServiceSettled { s with choices := s.choices + 1 } from h).of_frame
      (takeTravelFirst_frame _) rfl rfl)
  · exact receivePass_keeps_service (s := { s with choices := s.choices + 1 }) p h
  · exact receivePass_keeps_service p h

theorem countTurn_keeps_service {s : State} (h : ServiceSettled s) : ServiceSettled (countTurn s) := by
  unfold countTurn
  exact takeIncrement_keeps_service _ _ ((h.of_frame (onSl_frame _ s) rfl rfl).of_frame (markRetained_frame _) rfl rfl)

theorem readSlewTravel_keeps_service (x : Sample) {s : State} (h : ServiceSettled s) :
    ServiceSettled (readSlewTravel x s) := by
  unfold readSlewTravel
  simp only []
  split
  · exact h
  · split
    · exact h
    · split
      · exact countTurn_keeps_service (h.of_frame (onSl_frame _ s) rfl rfl)
      · exact h

theorem completePose_keeps_service (c : Computation) {s : State} (hs : ServiceSettled s) :
    ServiceSettled (completePose c s) := by
  unfold completePose
  simp only []
  refine ServiceSettled.of_frame (startPending_frame _) rfl rfl ?_
  refine deliverPose_keeps (fun s h => h) _ _ (fun f m u hu => ?_) (ServiceSettled.of_frame (takePoseAtCt_frame _ _) rfl rfl
    (ServiceSettled.of_frame (serveTip_frame _ _) rfl rfl (ServiceSettled.of_frame (settleOverdig_frame _ _) rfl rfl
      (s := onPs _ s) hs)))
  simp only [List.mem_cons, List.not_mem_nil, or_false] at m
  rcases m with rfl | rfl | rfl | rfl | rfl
  · exact hu.of_frame (deliverPoseToSl_frame _ _) rfl rfl
  · exact hu.of_frame (hardFail_frame _ _) rfl rfl
  · exact arrivePass_keeps_service _ hu
  · exact hu.of_moved (takeActivity_frame _) rfl (takeActivity_moved u)
  · exact hu.of_moved (takePhaseChange_frame _ _) rfl (takePhaseChange_moved _ u)

theorem arriveFrame_keeps_service (ch : Fin 6) (bytes : List Byte) {s : State} (hs : ServiceSettled s) :
    ServiceSettled (arriveFrame ch bytes s) := by
  refine arriveFrame_keeps (fun s h => h) ch bytes (fun a b x f m u hu => ?_) hs
  simp only [List.mem_cons, List.not_mem_nil, or_false] at m
  rcases m with rfl | rfl | rfl | rfl | rfl | rfl
  · exact hu
  · exact hu.of_frame (requestComputation_frame _) rfl rfl
  · exact hu.of_frame (deliverHealthToSl_frame _ _) rfl rfl
  · exact hu.of_frame (deliverHealthToCt_frame _ _) rfl rfl
  · exact readSlewTravel_keeps_service x hu
  · exact hu.of_frame (drainPressure_frame _) rfl rfl

theorem writeEconomy_cap (e : EconomySettings) (s : State) : (writeEconomy e s).em.cap = s.em.cap := by
  have stored : (if (e != s.em.settings) = true then markRetained (onEm (fun em => { em with settings := e }) s)
      else onEm (fun em => { em with settings := e }) s).em.cap = s.em.cap := by
    rw [(markedIf_frame (e != s.em.settings) (onEm (fun em => { em with settings := e }) s)).em rfl]; rfl
  unfold writeEconomy
  simp only []
  rw [(settleAdvice_moved _).cap, onEm_em]
  have worked := (((reworkIdle_moved _).trans (reworkShutdown_moved _)).cap).trans stored
  generalize reworkShutdown (reworkIdle _) = v at worked ⊢
  split_ifs
  · exact (setMode_moved _ _ _).cap.trans worked
  · exact worked

theorem serviceItemOwner_keeps_service (body : List Byte) {s : State} (h : ServiceSettled s) :
    ServiceSettled (serviceItemOwner body s).1 := by
  unfold serviceItemOwner
  rcases withFields_cases serviceItemSet? _ body s with e | ⟨⟨i, d⟩, -, e⟩ <;> rw [e]
  · exact h
  · exact replaceItem_settled i _ h

theorem serviceDoneOwner_keeps_service (body : List Byte) {s : State} (h : ServiceSettled s) :
    ServiceSettled (serviceDoneOwner body s).1 := by
  unfold serviceDoneOwner
  rcases withFields_cases (fun b => index? 24 (u8 b 0)) _ body s with e | ⟨i, -, e⟩ <;> rw [e]
  · exact h
  · split
    · exact h
    · exact replaceItem_settled i _ h

theorem serviceSuspendOwner_keeps_service (body : List Byte) {s : State} (h : ServiceSettled s) :
    ServiceSettled (serviceSuspendOwner body s).1 := by
  unfold serviceSuspendOwner
  rcases withFields_cases serviceSuspend? _ body s with e | ⟨⟨i, on⟩, -, e⟩ <;> rw [e]
  · exact h
  · simp only []
    split
    · exact h
    · simp only []
      split_ifs
      · exact h
      · exact replaceItem_settled i _ h

/-- An acknowledgement clears attention alone (R157). -/
theorem serviceAckOwner_keeps_service (body : List Byte) {s : State} (h : ServiceSettled s) :
    ServiceSettled (serviceAckOwner body s).1 := by
  obtain ⟨entries, ⟨low, every, some'⟩, cap⟩ := (serviceSettled_iff s).1 h
  unfold serviceAckOwner
  rcases withFields_cases serviceAck? _ body s with e | ⟨is, -, e⟩ <;> rw [e]
  · exact h
  · simp only []
    generalize hE : (s.st.entries.mapFinIdx fun i e h => if ackReaches is ⟨i, h⟩ e = true then
      e.map ServiceEntry.clearAttention else e) = E
    have at' (i : Fin 24) : E[i] = if ackReaches is i s.st.entries[i] = true then
        s.st.entries[i].map ServiceEntry.clearAttention else s.st.entries[i] := by
      rw [← hE]; simp
    have acked : ServiceSettled { s with st := { s.st with entries := E } } := by
      refine ⟨fun i e he => ?_, ⟨low, fun i e he => ?_, some'.imp_right ?_⟩, cap⟩
      · rw [at'] at he
        split_ifs at he
        · obtain ⟨x, hx, rfl⟩ := Option.mem_map.1 he
          exact entries i x hx
        · exact entries i e he
      · rw [at'] at he
        split_ifs at he
        · obtain ⟨x, hx, rfl⟩ := Option.mem_map.1 he
          exact every i x hx
        · exact every i e he
      · rintro ⟨i, e, he, hx⟩
        by_cases hr : ackReaches is i s.st.entries[i] = true
        · exact ⟨i, ServiceEntry.clearAttention e, by rw [at', if_pos hr]; exact Option.mem_map_of_mem _ he, hx⟩
        · exact ⟨i, e, by rw [at', if_neg hr]; exact he, hx⟩
    split_ifs
    · exact acked
    · exact acked.of_frame (markRetained_frame _) rfl rfl

theorem resetState_service (r : Retained) (un : Fin 16 → Bool) (rs : Rs) (rate : LinkRate) (tx : Transmitter)
    (started : Notice) (s : State) : ServiceSettled (resetState r un rs rate tx started s) := by
  refine ⟨fun i e he => ?_, lowestCap_isLowest _, rfl⟩
  have at' : (r.items.map fun i => i.map entryOf)[i] = r.items[i].map entryOf := by simp
  change e ∈ (r.items.map fun i => i.map entryOf)[i] at he
  rw [at'] at he
  obtain ⟨x, -, rfl⟩ := Option.mem_map.1 he
  rfl

theorem reset_service : ServiceSettled State.reset := by
  have none' (i : Fin 24) : State.reset.st.entries[i] = none := by simp [State.reset]
  have empty (i : Fin 24) (e : ServiceEntry) (he : e ∈ State.reset.st.entries[i]) : False := by
    rw [none'] at he; cases he
  exact ⟨fun i e he => (empty i e he).elim, ⟨le_rfl, fun i e he => (empty i e he).elim, .inl rfl⟩, rfl⟩

theorem exec_keeps_service {c : Instr} {s t : State} (hs : ServiceSettled s) (e : exec c s = .next t) :
    ServiceSettled t := by
  have touches {s t : State} (h : Touches {} s t) (hs : ServiceSettled s) : ServiceSettled t := hs.of_touches h rfl rfl
  cases c with
  | restartTakesEffect | powerOn | powerLoss =>
    rcases exec_reset e trivial with rfl | ⟨-, rfl⟩ | ⟨strap, rfl⟩ | ⟨image, rfl⟩
    · exact hs
    · exact resetState_service ..
    · exact resetState_service ..
    · exact reset_service
  | sensorFrameArrival ch char =>
    rcases sensorFrameArrival_cases e with rfl | ⟨bytes, -, -, -, rfl⟩
    · exact hs
    · exact arriveFrame_keeps_service ch _ hs
  | inputLevelChange x =>
    rcases eq_or_of_whenDue e with rfl | ⟨-, rfl⟩
    · exact hs
    · exact hs.of_moved (readInputs_frame x s) rfl (readInputs_moved x s)
  | poseCompletion =>
    rcases poseCompletion_cases e with rfl | ⟨c, -, rfl⟩
    · exact hs
    · exact completePose_keeps_service c hs
  | engineReport tag body => exact interpret_keeps touches e (fun _ h => takeReport_keeps_service _ h) hs
  | countersRead tag body =>
    refine interpret_keeps touches e (fun u hu => ?_) hs
    unfold countersOwner
    rcases withFields_cases (fun b => flag? (u8 b 0)) _ body u with h | ⟨clear, -, h⟩ <;> rw [h]
    · exact hu
    · cases clear
      · exact hu
      · exact (show ServiceSettled (onEm (fun em => { em with histogram := Vector.replicate 8 0, gaps := 0 }) u)
          from hu).of_frame (markedIf_frame _ _) rfl rfl
  | economySet tag body =>
    refine interpret_keeps touches e (fun u hu => ?_) hs
    unfold economyOwner
    rcases withFields_cases economySet? _ body u with h | ⟨op, -, h⟩ <;> rw [h]
    · exact hu
    · cases op with
      | read => exact hu
      | write x => exact hu.of_cap ((writeEconomy_frame x u).st rfl) (writeEconomy_cap x u)
  | idleTimerExpiry =>
    change execIdleTimerExpiry s = _ at e
    unfold execIdleTimerExpiry at e
    rcases eq_or_of_whenDue e with rfl | ⟨-, rfl⟩
    · exact hs
    · exact (hs.of_moved (onEm_frame _ s) rfl (setMode_moved _ _ _)).of_moved (settleAdvice_frame _) rfl
        (settleAdvice_moved _)
  | shutdownTimerExpiry =>
    rcases shutdownTimerExpiry_cases e with rfl | ⟨start, -, -, rfl⟩
    · exact hs
    · exact (hs.of_moved (expireShutdown_frame start s) rfl (expireShutdown_moved start s)).of_moved
        (settleAdvice_frame _) rfl (settleAdvice_moved _)
  | serviceItemSet tag body => exact interpret_keeps touches e (fun _ h => serviceItemOwner_keeps_service body h) hs
  | serviceAck tag body => exact interpret_keeps touches e (fun _ h => serviceAckOwner_keeps_service body h) hs
  | serviceDone tag body => exact interpret_keeps touches e (fun _ h => serviceDoneOwner_keeps_service body h) hs
  | serviceSuspend tag body => exact interpret_keeps touches e (fun _ h => serviceSuspendOwner_keeps_service body h) hs
  | commitAttemptEnd written image =>
    rcases commitAttemptEnd_cases e with rfl | ⟨r, -, rfl⟩
    · exact hs
    · exact hs.of_cap ((endAttempt_touches written image r s).st rfl) (endAttempt_moved written image r s).cap
  | _ => exact hs.of_touches (exec_touches id e) rfl rfl

/-- Settles O15: whatever changes an item or an entry settles the cap after it, and nothing else touches either. -/
theorem stepKeepsServiceSettled : Obligations.StepKeepsServiceSettled := by
  intro s t hs h
  rcases step_cases h with rfl | ⟨c, q, e⟩
  · exact hs.of_touches (tick_touches s) rfl rfl
  · exact exec_keeps_service (s := s.withPending q) hs e

end Sys2Proof.Machine

/-! PROOFS. What each operation leaves of the settings, the tables and the retained counts. -/

namespace Sys2Proof.Machine

/-! ## What may be written -/

/-- Which settings, tables and retained counts an operation may write. -/
structure Written where
  authority   : Bool := false
  channels    : Bool := false
  geometry    : Bool := false
  grade       : Bool := false
  zones       : Bool := false
  slew        : Bool := false
  turns       : Bool := false
  cycle       : Bool := false
  tables      : Bool := false
  classes     : Bool := false
  totals      : Bool := false
  economy     : Bool := false
  counts      : Bool := false
  items       : Bool := false
  definitions : Bool := false

/-- The retained counts of the Economy Manager (R133, R134). -/
def countsOf (em : Em) : BitVec 48 × Nat × Nat × Vector Nat 8 :=
  (em.fuelTotal, em.engineSeconds, em.weightedSeconds, em.histogram)

/-- The definitions of the service items (R155). -/
def definitionsOf (st : St) : Vector (Option ServiceDef) 24 := st.entries.map fun e => e.map fun e => e.item.definition

/-- `t` holds the settings, tables and retained counts of `s`, but for those that may be written. -/
structure Keeps (w : Written) (s t : State) : Prop where
  authority   : w.authority = false → t.mlu.authority = s.mlu.authority
  channels    : w.channels = false → t.scu.map Channel.settings = s.scu.map Channel.settings
  geometry    : w.geometry = false → t.ps.geometry = s.ps.geometry
  grade       : w.grade = false → t.ps.grade = s.ps.grade
  zones       : w.zones = false → zoneRecordsOf t.zt = zoneRecordsOf s.zt
  slew        : w.slew = false → t.sl.settings = s.sl.settings
  turns       : w.turns = false → t.sl.turns = s.sl.turns
  cycle       : w.cycle = false → t.ct.settings = s.ct.settings
  tables      : w.tables = false → t.ct.fempty = s.ct.fempty ∧ t.ct.gain = s.ct.gain
  classes     : w.classes = false → t.lr.classes = s.lr.classes
  totals      : w.totals = false → t.lr.passTotal = s.lr.passTotal ∧ t.lr.payloadTotal = s.lr.payloadTotal
  economy     : w.economy = false → t.em.settings = s.em.settings
  counts      : w.counts = false → countsOf t.em = countsOf s.em
  items       : w.items = false → itemsOf t.st = itemsOf s.st
  definitions : w.definitions = false → definitionsOf t.st = definitionsOf s.st

theorem Keeps.refl (w : Written) (s : State) : Keeps w s s := by constructor <;> intros <;> simp

theorem Keeps.trans {w : Written} {s t u : State} (h : Keeps w s t) (k : Keeps w t u) : Keeps w s u where
  authority e := (k.authority e).trans (h.authority e)
  channels e := (k.channels e).trans (h.channels e)
  geometry e := (k.geometry e).trans (h.geometry e)
  grade e := (k.grade e).trans (h.grade e)
  zones e := (k.zones e).trans (h.zones e)
  slew e := (k.slew e).trans (h.slew e)
  turns e := (k.turns e).trans (h.turns e)
  cycle e := (k.cycle e).trans (h.cycle e)
  tables e := ⟨(k.tables e).1.trans (h.tables e).1, (k.tables e).2.trans (h.tables e).2⟩
  classes e := (k.classes e).trans (h.classes e)
  totals e := ⟨(k.totals e).1.trans (h.totals e).1, (k.totals e).2.trans (h.totals e).2⟩
  economy e := (k.economy e).trans (h.economy e)
  counts e := (k.counts e).trans (h.counts e)
  items e := (k.items e).trans (h.items e)
  definitions e := (k.definitions e).trans (h.definitions e)

/-- Everything the first may write the second may. -/
def Written.within (a b : Written) : Bool :=
  (!a.authority || b.authority) && (!a.channels || b.channels) && (!a.geometry || b.geometry) && (!a.grade || b.grade) && (!a.zones || b.zones) &&
    (!a.slew || b.slew) && (!a.turns || b.turns) && (!a.cycle || b.cycle) && (!a.tables || b.tables) && (!a.classes || b.classes) &&
    (!a.totals || b.totals) && (!a.economy || b.economy) && (!a.counts || b.counts) && (!a.items || b.items) && (!a.definitions || b.definitions)

theorem Keeps.mono {a b : Written} {s t : State} (h : Keeps a s t) (w : Written.within a b = true) : Keeps b s t := by
  simp only [Written.within, Bool.and_eq_true, Bool.or_eq_true, Bool.not_eq_true'] at w
  obtain ⟨⟨⟨⟨⟨⟨⟨⟨⟨⟨⟨⟨⟨⟨w1, w2⟩, w3⟩, w4⟩, w5⟩, w6⟩, w7⟩, w8⟩, w9⟩, w10⟩, w11⟩, w12⟩, w13⟩, w14⟩, w15⟩ := w
  constructor
  · exact fun e => h.authority (by simp_all)
  · exact fun e => h.channels (by simp_all)
  · exact fun e => h.geometry (by simp_all)
  · exact fun e => h.grade (by simp_all)
  · exact fun e => h.zones (by simp_all)
  · exact fun e => h.slew (by simp_all)
  · exact fun e => h.turns (by simp_all)
  · exact fun e => h.cycle (by simp_all)
  · exact fun e => h.tables (by simp_all)
  · exact fun e => h.classes (by simp_all)
  · exact fun e => h.totals (by simp_all)
  · exact fun e => h.economy (by simp_all)
  · exact fun e => h.counts (by simp_all)
  · exact fun e => h.items (by simp_all)
  · exact fun e => h.definitions (by simp_all)

/-- What keeps everything keeps what is asked. -/
theorem Keeps.weaken (w : Written) {s t : State} (h : Keeps {} s t) : Keeps w s t := h.mono rfl

/-- The definitions go with the items. -/
theorem definitionsOf_eq (st : St) : definitionsOf st = (itemsOf st).map (Option.map ServiceItem.definition) := by
  ext i h
  simp [definitionsOf, itemsOf, Function.comp_def]

/-- What an operation that touches these blocks may write. -/
def writtenIn (b : Blocks) : Written :=
  { authority := b.mlu, channels := b.scu, geometry := b.ps, grade := b.ps, zones := b.zt, slew := b.sl, turns := b.sl
    cycle := b.ct, tables := b.ct, classes := b.lr, totals := b.lr, economy := b.em, counts := b.em, items := b.st
    definitions := b.st }

theorem Touches.keeps {b : Blocks} {s t : State} (h : Touches b s t) : Keeps (writtenIn b) s t where
  authority e := by rw [h.mlu e]
  channels e := by rw [h.scu e]
  geometry e := by rw [h.ps e]
  grade e := by rw [h.ps e]
  zones e := by rw [h.zt e]
  slew e := by rw [h.sl e]
  turns e := by rw [h.sl e]
  cycle e := by rw [h.ct e]
  tables e := by rw [h.ct e]; exact ⟨rfl, rfl⟩
  classes e := by rw [h.lr e]
  totals e := by rw [h.lr e]; exact ⟨rfl, rfl⟩
  economy e := by rw [h.em e]
  counts e := by rw [h.em e]
  items e := by rw [h.st e]
  definitions e := by rw [h.st e]

/-! What one block's operation keeps of its own block, with what it keeps of the others by the blocks it touches. -/

theorem Keeps.keepingMlu {a w : Written} {s t : State} (h : Keeps a s t)
    (within : a.within { w with authority := true } = true)
    (kept : w.authority = false → t.mlu.authority = s.mlu.authority) : Keeps w s t :=
  { h.mono within with authority := kept }

theorem Keeps.keepingScu {a w : Written} {s t : State} (h : Keeps a s t)
    (within : a.within { w with channels := true } = true)
    (kept : w.channels = false → t.scu.map Channel.settings = s.scu.map Channel.settings) : Keeps w s t :=
  { h.mono within with channels := kept }

theorem Keeps.keepingPs {a w : Written} {s t : State} (h : Keeps a s t)
    (within : a.within { w with geometry := true, grade := true } = true)
    (kept : (w.geometry = false → t.ps.geometry = s.ps.geometry) ∧ (w.grade = false → t.ps.grade = s.ps.grade)) :
    Keeps w s t :=
  { h.mono within with geometry := kept.1, grade := kept.2 }

theorem Keeps.keepingZt {a w : Written} {s t : State} (h : Keeps a s t)
    (within : a.within { w with zones := true } = true)
    (kept : w.zones = false → zoneRecordsOf t.zt = zoneRecordsOf s.zt) : Keeps w s t :=
  { h.mono within with zones := kept }

theorem Keeps.keepingSl {a w : Written} {s t : State} (h : Keeps a s t)
    (within : a.within { w with slew := true, turns := true } = true)
    (kept : (w.slew = false → t.sl.settings = s.sl.settings) ∧ (w.turns = false → t.sl.turns = s.sl.turns)) :
    Keeps w s t :=
  { h.mono within with slew := kept.1, turns := kept.2 }

theorem Keeps.keepingCt {a w : Written} {s t : State} (h : Keeps a s t)
    (within : a.within { w with cycle := true, tables := true } = true)
    (kept : (w.cycle = false → t.ct.settings = s.ct.settings) ∧
      (w.tables = false → t.ct.fempty = s.ct.fempty ∧ t.ct.gain = s.ct.gain)) : Keeps w s t :=
  { h.mono within with cycle := kept.1, tables := kept.2 }

theorem Keeps.keepingLr {a w : Written} {s t : State} (h : Keeps a s t)
    (within : a.within { w with classes := true, totals := true } = true)
    (kept : (w.classes = false → t.lr.classes = s.lr.classes) ∧
      (w.totals = false → t.lr.passTotal = s.lr.passTotal ∧ t.lr.payloadTotal = s.lr.payloadTotal)) : Keeps w s t :=
  { h.mono within with classes := kept.1, totals := kept.2 }

theorem Keeps.keepingEm {a w : Written} {s t : State} (h : Keeps a s t)
    (within : a.within { w with economy := true, counts := true } = true)
    (kept : (w.economy = false → t.em.settings = s.em.settings) ∧ (w.counts = false → countsOf t.em = countsOf s.em)) :
    Keeps w s t :=
  { h.mono within with economy := kept.1, counts := kept.2 }

theorem Keeps.keepingSt {a w : Written} {s t : State} (h : Keeps a s t)
    (within : a.within { w with items := true, definitions := true } = true)
    (kept : (w.items = false → itemsOf t.st = itemsOf s.st) ∧
      (w.definitions = false → definitionsOf t.st = definitionsOf s.st)) : Keeps w s t :=
  { h.mono within with items := kept.1, definitions := kept.2 }

/-- What each action keeps, their interleaving keeps. -/
theorem interleave_keepsAll {w : Written} (qs : List (List (State → State))) (s : State)
    (h : ∀ q ∈ qs, ∀ f ∈ q, ∀ u, Keeps w u (f u)) : Keeps w s (interleave qs s) :=
  interleave_keeps (P := Keeps w s) (fun _ k => k.trans (by constructor <;> intros <;> simp)) qs s
    (fun q m f mf u k => k.trans (h q m f mf u)) (Keeps.refl w s)

theorem anyOrder_keepsAll {w : Written} (fs : List (State → State)) (s : State) (h : ∀ f ∈ fs, ∀ u, Keeps w u (f u)) :
    Keeps w s (anyOrder fs s) :=
  anyOrder_keeps (P := Keeps w s) (fun _ k => k.trans (by constructor <;> intros <;> simp)) fs s
    (fun f m u k => k.trans (h f m u)) (Keeps.refl w s)

/-! ## The machine lines and the Slew Limiter -/

theorem redrive_authority (now : Stamp) (m : Mlu) : (Mlu.redrive now m).authority = m.authority := by
  unfold Mlu.redrive
  simp only []
  split_ifs <;> rfl

theorem requestSlAlarm_keepsAll (p : AlarmPattern) (s : State) : Keeps {} s (requestSlAlarm p s) :=
  (requestSlAlarm_frame p s).touches.keeps.keepingMlu rfl (fun _ => redrive_authority _ _)
theorem requestPsAlarm_keepsAll (p : AlarmPattern) (s : State) : Keeps {} s (requestPsAlarm p s) :=
  (requestPsAlarm_frame p s).touches.keeps.keepingMlu rfl (fun _ => redrive_authority _ _)
theorem requestZtAlarm_keepsAll (p : AlarmPattern) (s : State) : Keeps {} s (requestZtAlarm p s) :=
  (requestZtAlarm_frame p s).touches.keeps.keepingMlu rfl (fun _ => redrive_authority _ _)

theorem queueNotice_keepsAll (n : Notice) (s : State) : Keeps {} s (queueNotice n s) :=
  (queueNotice_frame n s).touches.keeps.mono rfl

/-- Entries whose records are the same have the same retained content. -/
theorem zoneRecordsOf_congr {a b : Zt}
    (h : ∀ k : Fin 16, (a.zones[k].held.map Zone.record) = b.zones[k].held.map Zone.record) :
    zoneRecordsOf a = zoneRecordsOf b := by
  ext1 i hi
  simpa [zoneRecordsOf] using h ⟨i, hi⟩

theorem onZone_records (k : Fin 16) {f : ZoneEntry → ZoneEntry}
    (h : ∀ e, (f e).held.map Zone.record = e.held.map Zone.record) (s : State) :
    zoneRecordsOf (onZone k f s).zt = zoneRecordsOf s.zt := by
  refine zoneRecordsOf_congr fun i => ?_
  have at' : (onZone k f s).zt.zones[i] = if k.val = i.val then f s.zt.zones[k] else s.zt.zones[i] := by
    simp only [onZone, Fin.getElem_fin, Vector.getElem_set]
  rw [at']
  split_ifs with e
  · obtain rfl : k = i := Fin.ext e
    exact h _
  · rfl

theorem onZone_keepsAll (k : Fin 16) {f : ZoneEntry → ZoneEntry}
    (h : ∀ e, (f e).held.map Zone.record = e.held.map Zone.record) (s : State) : Keeps {} s (onZone k f s) :=
  (onZone_frame k f s).touches.keeps.keepingZt rfl (fun _ => onZone_records k h s)

theorem settleIntrusion_keepsAll (i : SlewInputs) (k : Fin 16) (b : Bool) (s : State) :
    Keeps {} s (settleIntrusion i k b s) := by
  have counted : Keeps {} s (onZone k ZoneEntry.countIntrusion s) := onZone_keepsAll k (by intro; rfl) s
  unfold settleIntrusion
  simp only []
  split
  · split
    · exact Keeps.refl _ _
    · exact counted.trans (queueNotice_keepsAll _ _)
  · split
    · exact queueNotice_keepsAll _ _
    · exact Keeps.refl _ _

theorem countCuts_keepsAll (old new : Bool) (c : LineCauses) (s : State) : Keeps {} s (countCuts old new c s) := by
  unfold countCuts
  split
  · have fold (l : List (Fin 16)) (u : State) : Keeps {} u (l.foldl (fun s k => onZone k ZoneEntry.countCut s) u) := by
      induction l generalizing u with
      | nil => exact Keeps.refl _ _
      | cons k l ih => exact (onZone_keepsAll k (by intro; rfl) u).trans (ih _)
    exact fold _ s
  · exact Keeps.refl _ _

theorem evaluateSlew_keepsAll (s : State) : Keeps {} s (evaluateSlew s) := by
  have step {u t : State} (h : Keeps {} s u) (k : Keeps {} u t) : Keeps {} s t := h.trans k
  refine evaluateSlew_keeps (P := Keeps {} s) (fun p u hu => ?_) (Keeps.refl _ _)
  unfold evaluateOn
  simp only []
  generalize hi : slewInputs u.sl p = i
  generalize zoneOutcomes i u.sl u.zt = o
  have settled : Keeps {} s (settleIntrusions i o u) := by
    refine hu.trans (anyOrder_keepsAll _ _ fun f m v => ?_)
    obtain ⟨k, -, rfl⟩ := List.mem_map.1 m
    exact settleIntrusion_keepsAll _ _ _ v
  have marked (f : Sl → Sl) (v : State) (hf : ∀ sl, (f sl).settings = sl.settings ∧ (f sl).turns = sl.turns) :
      Keeps {} v (onSl f v) :=
    (onSl_frame f v).touches.keeps.keepingSl rfl ⟨fun _ => (hf v.sl).1, fun _ => (hf v.sl).2⟩
  have lines (set : CutSet) (v : State) : Keeps {} v (onMlu (Mlu.takeCutSet set) v) :=
    (onMlu_frame _ v).touches.keeps.keepingMlu rfl (fun _ => rfl)
  have noticed {c : Prop} [Decidable c] (n : Notice) {v : State} (h : Keeps {} s v) :
      Keeps {} s (if c then v else queueNotice n v) := by
    split
    · exact h
    · exact h.trans (queueNotice_keepsAll n v)
  exact noticed _ (step (step (step (step (step (step settled (marked _ _ (by intro; exact ⟨rfl, rfl⟩))) (lines _ _))
    (requestSlAlarm_keepsAll _ _)) (countCuts_keepsAll _ _ _ _)) (countCuts_keepsAll _ _ _ _)) (countCuts_keepsAll _ _ _ _))

theorem forgetZone_keepsAll (k : Fin 16) (s : State) : Keeps {} s (forgetZone k s) := by
  have sl : (forgetZone k s).sl = { s.sl with marks := s.sl.marks.set k {} } := by
    unfold forgetZone; simp only []; split_ifs <;> rfl
  exact (forgetZone_frame k s).touches.keeps.keepingSl rfl (by rw [sl]; exact ⟨fun _ => rfl, fun _ => rfl⟩)

theorem deliverPoseToSl_keepsAll (p : Pose) (s : State) : Keeps {} s (deliverPoseToSl p s) :=
  ((onSl_frame (fun sl => { sl with pose := some p }) s).touches.keeps.keepingSl rfl ⟨fun _ => rfl, fun _ => rfl⟩).trans (evaluateSlew_keepsAll _)

theorem deliverHealthToSl_keepsAll (h : Health) (s : State) : Keeps {} s (deliverHealthToSl h s) :=
  ((onSl_frame (fun sl => { sl with health := h, prevAngle := if h.isDown then none else sl.prevAngle }) s).touches.keeps.keepingSl rfl ⟨fun _ => rfl, fun _ => rfl⟩).trans (evaluateSlew_keepsAll _)

/-! ## The Zone Table -/

theorem settleUnanchored_keepsAll (s : State) : Keeps {} s (settleUnanchored s) := by
  have counted (n : Nat) : Keeps {} s { s with zt := { s.zt with unanchored := n } } := by
    constructor <;> intros <;> simp [zoneRecordsOf]
  unfold settleUnanchored
  simp only []
  split_ifs
  · exact counted _
  · exact (counted _).trans (requestZtAlarm_keepsAll _ _)

theorem zoneNotices_keepsAll (e : Fin 16 → Option ZoneEvent) (s : State) : Keeps {} s (zoneNotices e s) :=
  (zoneNotices_frame e s).touches.keeps.mono rfl

/-- A change of states at the entries leaves the records. -/
theorem mapZones_keepsAll {f : ZoneEntry → ZoneEntry} (h : ∀ e, (f e).held.map Zone.record = e.held.map Zone.record)
    (s : State) : Keeps {} s { s with zt := { s.zt with zones := s.zt.zones.map f } } :=
  (withZones_frame _ s).touches.keeps.keepingZt rfl (fun _ => zoneRecordsOf_congr fun k => by
    simpa using h s.zt.zones[k])

theorem withState_record (x : ZoneState) (e : ZoneEntry) :
    (ZoneEntry.withState x e).held.map Zone.record = e.held.map Zone.record := by
  simp [ZoneEntry.withState, Function.comp_def]

theorem rearmZones_keepsAll (a : Authority) (s : State) : Keeps {} s (rearmZones a s) :=
  ((mapZones_keepsAll (by intro e; split_ifs; exacts [withState_record _ e, rfl]) s).trans
    (zoneNotices_keepsAll _ _)).trans (evaluateSlew_keepsAll _)

theorem travelled_record (e : ZoneEntry) : (ZoneEntry.travelled e).held.map Zone.record = e.held.map Zone.record := by
  unfold ZoneEntry.travelled
  split
  · exact withState_record _ e
  · rfl

theorem travelZones_keepsAll (s : State) : Keeps {} s (travelZones s) := by
  unfold travelZones
  simp only []
  split_ifs
  · exact (((mapZones_keepsAll travelled_record s).trans (zoneNotices_keepsAll _ _)).trans
      (settleUnanchored_keepsAll _)).trans (evaluateSlew_keepsAll _)
  · exact Keeps.refl _ _

theorem moveZone_keepsAll (k : Fin 16) (x : ZoneState) (s : State) : Keeps {} s (moveZone k x s) :=
  (onZone_keepsAll k (withState_record x) s).trans (evaluateSlew_keepsAll _)

theorem settleAuthority_keepsAll (s : State) : Keeps { authority := true } s (settleAuthority s) := by
  unfold settleAuthority
  simp only []
  split_ifs
  · exact Keeps.refl _ _
  · refine Keeps.trans ?_ ((rearmZones_keepsAll _ _).weaken _)
    exact Keeps.trans ((onMlu_frame _ s).touches.keeps.mono rfl) ((queueNotice_keepsAll _ _).weaken _)

/-! ## The Economy Manager and the Service Table -/

theorem ModeMoved.counts {a b : Em} (h : ModeMoved a b) : countsOf b = countsOf a := by rw [h]; rfl

/-- A change of mode leaves every setting and count. -/
theorem ModeMoved.keepsAll {s t : State} (h : Touches { em := true, rs := true } s t) (m : ModeMoved s.em t.em) :
    Keeps {} s t := h.keeps.keepingEm rfl ⟨fun _ => m.settings, fun _ => m.counts⟩

theorem settleAdvice_keepsAll (s : State) : Keeps {} s (settleAdvice s) :=
  (settleAdvice_moved s).keepsAll ((settleAdvice_frame s).touchesWithin rfl)
theorem takeActivity_keepsAll (s : State) : Keeps {} s (takeActivity s) :=
  (takeActivity_moved s).keepsAll ((takeActivity_frame s).touchesWithin rfl)
theorem takeSeatChange_keepsAll (s : State) : Keeps {} s (takeSeatChange s) :=
  (takeSeatChange_moved s).keepsAll ((takeSeatChange_frame s).touchesWithin rfl)
theorem takePhaseChange_keepsAll (p : Phase) (s : State) : Keeps {} s (takePhaseChange p s) :=
  (takePhaseChange_moved p s).keepsAll ((takePhaseChange_frame p s).touchesWithin rfl)
theorem expireShutdown_keepsAll (start : Stamp) (s : State) : Keeps {} s (expireShutdown start s) :=
  (expireShutdown_moved start s).keepsAll (expireShutdown_frame start s).touches
theorem reworkIdle_keepsAll (s : State) : Keeps {} s (reworkIdle s) :=
  (reworkIdle_moved s).keepsAll ((reworkIdle_frame s).touchesWithin rfl)
theorem reworkShutdown_keepsAll (s : State) : Keeps {} s (reworkShutdown s) :=
  (reworkShutdown_moved s).keepsAll (reworkShutdown_frame s).touches
theorem reportModeSteps_keepsAll (r : EngineReport) (s : State) : Keeps {} s (reportModeSteps r s) :=
  (reportModeSteps_moved r s).keepsAll (reportModeSteps_frame r s).touches
theorem takeCommitEnd_keepsAll (failed : Bool) (s : State) : Keeps {} s (takeCommitEnd failed s) :=
  (takeCommitEnd_moved failed s).keepsAll (takeCommitEnd_frame failed s).touches

theorem markRetained_keepsAll (s : State) : Keeps {} s (markRetained s) :=
  (markRetained_frame s).touches.keeps.mono rfl

theorem markedIf_keepsAll (b : Bool) (s : State) : Keeps {} s (if b then markRetained s else s) :=
  (markedIf_frame b s).touches.keeps.mono rfl

theorem settleCap_keepsAll (s : State) : Keeps {} s (settleCap s) := by
  unfold settleCap takeCap
  simp only []
  split_ifs
  · exact Keeps.refl _ _
  · refine Keeps.trans ?_ (settleAdvice_keepsAll _)
    constructor <;> intros <;> simp [itemsOf, definitionsOf, countsOf]

theorem definitionsOf_congr {a b : St}
    (h : ∀ i : Fin 24, (a.entries[i].map fun e => e.item.definition) = b.entries[i].map fun e => e.item.definition) :
    definitionsOf a = definitionsOf b := by
  ext1 i hi
  simpa [definitionsOf] using h ⟨i, hi⟩

theorem setEntry_definitions (i : Fin 24) {x : Option ServiceEntry} {s : State}
    (h : (x.map fun e => e.item.definition) = s.st.entries[i].map fun e => e.item.definition) :
    definitionsOf (setEntry i x s).st = definitionsOf s.st := by
  refine definitionsOf_congr fun k => ?_
  have at' : (setEntry i x s).st.entries[k] = if i.val = k.val then x else s.st.entries[k] := by
    simp only [setEntry, Fin.getElem_fin, Vector.getElem_set]
  rw [at']
  split_ifs with e
  · obtain rfl : i = k := Fin.ext e
    exact h
  · rfl

theorem incrementEntry_keepsAll (b : Basis) (n : Nat) (i : Fin 24) (s : State) :
    Keeps { items := true } s (incrementEntry b n i s) := by
  have kept : definitionsOf (incrementEntry b n i s).st = definitionsOf s.st := ?_
  · exact (incrementEntry_frame b n i s).touches.keeps.keepingSt rfl ⟨fun h => by simp at h, fun _ => kept⟩
  unfold incrementEntry
  split
  · rfl
  · next e he =>
    have set : definitionsOf (setEntry i (some (ServiceEntry.increment n e)) s).st = definitionsOf s.st :=
      setEntry_definitions i (by rw [he]; rfl)
    split_ifs
    · simp only []
      split_ifs <;> exact set
    · rfl

theorem takeIncrement_keepsAll (b : Basis) (n : Nat) (s : State) : Keeps { items := true } s (takeIncrement b n s) := by
  unfold takeIncrement
  split_ifs
  · exact Keeps.refl _ _
  · have fold (l : List (Fin 24)) (u : State) :
        Keeps { items := true } u (l.foldl (fun s i => incrementEntry b n i s) u) := by
      induction l generalizing u with
      | nil => exact Keeps.refl _ _
      | cons i l ih => exact (incrementEntry_keepsAll b n i u).trans (ih _)
    exact ((fold _ s).trans ((markedIf_keepsAll _ _).weaken _)).trans ((settleCap_keepsAll _).weaken _)

/-! ## The Load Recorder -/

/-- The classes and the two totals stay. -/
def LrKept (a b : Lr) : Prop := b.classes = a.classes ∧ b.passTotal = a.passTotal ∧ b.payloadTotal = a.payloadTotal

theorem LrKept.refl (a : Lr) : LrKept a a := ⟨rfl, rfl, rfl⟩

theorem LrKept.trans {a b c : Lr} (h : LrKept a b) (k : LrKept b c) : LrKept a c :=
  ⟨k.1.trans h.1, k.2.1.trans h.2.1, k.2.2.trans h.2.2⟩

theorem LrKept.keepsAll {s t : State} (h : Frame { lr := true } s t) (k : LrKept s.lr t.lr) : Keeps {} s t :=
  h.touches.keeps.keepingLr rfl ⟨fun _ => k.1, fun _ => k.2⟩

theorem closeLoad_lrKept (how : LoadState) (s : State) : LrKept s.lr (closeLoad how s).lr := by
  unfold closeLoad
  split <;> exact LrKept.refl _

theorem readyLoad_lrKept (bay : Fin 16) (s : State) : LrKept s.lr (readyLoad bay s).lr := by
  unfold readyLoad
  split
  · exact ⟨rfl, rfl, rfl⟩
  · split_ifs
    · exact LrKept.refl _
    · exact (closeLoad_lrKept .closedNewBay s).trans ⟨rfl, rfl, rfl⟩

theorem testTarget_lrKept (s : State) : LrKept s.lr (testTarget s).lr := by
  unfold testTarget
  split
  · exact LrKept.refl _
  · split_ifs <;> exact ⟨rfl, rfl, rfl⟩

theorem testOverload_lrKept (s : State) : LrKept s.lr (testOverload s).lr := by
  unfold testOverload
  split
  · exact LrKept.refl _
  · split_ifs <;> exact ⟨rfl, rfl, rfl⟩

theorem testLastPass_lrKept (s : State) : LrKept s.lr (testLastPass s).lr := by
  unfold testLastPass
  split
  · exact LrKept.refl _
  · split <;> exact ⟨rfl, rfl, rfl⟩

theorem testFull_lrKept (s : State) : LrKept s.lr (testFull s).lr := by
  unfold testFull
  split
  · exact LrKept.refl _
  · split_ifs
    · exact closeLoad_lrKept _ s
    · exact LrKept.refl _

theorem filePass_lrKept (p : Pass) (bay : Fin 16) (s : State) : LrKept s.lr (filePass p bay s).lr := by
  unfold filePass
  simp only []
  have ready := readyLoad_lrKept bay s
  split
  · exact ready
  · refine ready.trans (LrKept.trans ?_ ((((testTarget_lrKept _).trans (testOverload_lrKept _)).trans
      (testLastPass_lrKept _)).trans (testFull_lrKept _)))
    exact ⟨rfl, rfl, rfl⟩

theorem handlePass_lrKept (p : Pass) (s : State) : LrKept s.lr (handlePass p s).lr := by
  unfold handlePass
  split
  · exact filePass_lrKept p _ s
  · exact LrKept.refl _

theorem handlePass_keepsAll (p : Pass) (s : State) : Keeps {} s (handlePass p s) :=
  (handlePass_lrKept p s).keepsAll (handlePass_frame p s)

theorem travelLoads_keepsAll (s : State) : Keeps {} s (travelLoads s) := by
  refine LrKept.keepsAll (travelLoads_frame s) ?_
  unfold travelLoads
  split_ifs
  · exact ⟨rfl, rfl, rfl⟩
  · exact closeLoad_lrKept _ s

theorem takeTravelFirst_keepsAll (s : State) : Keeps {} s (takeTravelFirst s) :=
  LrKept.keepsAll (takeTravelFirst_frame s) ((closeLoad_lrKept .closedTravel s).trans ⟨rfl, rfl, rfl⟩)

theorem chargeFuel_keepsAll (n : Nat) (s : State) : Keeps {} s (chargeFuel n s) := by
  refine LrKept.keepsAll (chargeFuel_frame n s) ?_
  unfold chargeFuel
  split <;> exact ⟨rfl, rfl, rfl⟩

theorem reclass_keepsAll (i : Fin 16) (s : State) : Keeps {} s (reclass i s) := by
  refine LrKept.keepsAll (reclass_frame i s) ?_
  unfold reclass
  split
  · exact LrKept.refl _
  · refine LrKept.trans ?_ ((testTarget_lrKept _).trans (testOverload_lrKept _))
    exact ⟨rfl, rfl, rfl⟩

theorem countPass_keepsAll (p : Pass) (s : State) : Keeps { totals := true } s (countPass p s) :=
  (countPass_frame p s).touches.keeps.keepingLr rfl ⟨fun _ => rfl, fun h => by simp at h⟩

theorem receivePass_keepsAll (p : Pass) (s : State) : Keeps { totals := true, items := true } s (receivePass p s) := by
  refine ((countPass_keepsAll p s).mono rfl).trans (anyOrder_keepsAll _ _ fun f m u => ?_)
  simp only [List.mem_cons, List.not_mem_nil, or_false] at m
  rcases m with rfl | rfl | rfl
  · exact (handlePass_keepsAll p u).weaken _
  all_goals exact (takeIncrement_keepsAll _ _ u).mono rfl

theorem arrivePass_keepsAll (p : Pass) (s : State) : Keeps { totals := true, items := true } s (arrivePass p s) := by
  have chosen : Keeps {} s { s with choices := s.choices + 1 } := by constructor <;> intros <;> simp
  unfold arrivePass
  simp only []
  split_ifs
  · exact ((chosen.trans (takeTravelFirst_keepsAll _)).weaken _).trans (receivePass_keepsAll p _)
  · exact (chosen.weaken _).trans (receivePass_keepsAll p _)
  · exact receivePass_keepsAll p s

/-! ## Reports and turns -/

theorem integrateReport_keepsAll (s : State) : Keeps { counts := true, items := true } s (integrateReport s) := by
  unfold integrateReport
  split
  · exact Keeps.refl _ _
  · next c _ =>
    have integrated : Keeps { counts := true, items := true } s (onEm (fun _ =>
        if c.report.running = true then Em.integrateTime c (min (reportInterval s c) 1000)
          (Em.integrateFuel c (reportInterval s c) s.em)
        else Em.integrateFuel c (reportInterval s c) s.em) s) := by
      refine (onEm_frame _ s).touches.keeps.keepingEm rfl ⟨fun _ => ?_, fun h => by simp at h⟩
      cases hr : c.report.running <;> rfl
    refine (integrated.trans ((markedIf_keepsAll _ _).weaken _)).trans (anyOrder_keepsAll _ _ fun f m u => ?_)
    simp only [List.mem_cons, List.not_mem_nil, or_false] at m
    rcases m with rfl | rfl | rfl | rfl
    · exact (chargeFuel_keepsAll _ u).weaken _
    all_goals exact (takeIncrement_keepsAll _ _ u).mono rfl

theorem takeReport_keepsAll (r : EngineReport) (s : State) : Keeps { counts := true, items := true } s (takeReport r s) := by
  have copied : Keeps {} (integrateReport s)
      (onEm (fun em => { em with copy := some { report := r, stamp := (integrateReport s).now } }) (integrateReport s)) :=
    (onEm_frame _ _).touches.keeps.keepingEm rfl ⟨fun _ => rfl, fun _ => rfl⟩
  exact (integrateReport_keepsAll s).trans
    (((copied.trans (reportModeSteps_keepsAll r _)).trans (settleAdvice_keepsAll _)).weaken _)

/-- A turn of `n` units taken from the travel and counted, with the increment of so much (R93). -/
theorem turnTaken_keepsAll (n : Nat) (s : State) : Keeps { turns := true, items := true } s
    (takeIncrement .slewTurns n (markRetained (onSl (fun sl => { sl with travel := sl.travel - n, turns := sl.turns + 1 }) s))) := by
  have turned : Keeps { turns := true, items := true } s
      (onSl (fun sl => { sl with travel := sl.travel - n, turns := sl.turns + 1 }) s) :=
    (onSl_frame _ s).touches.keeps.keepingSl rfl ⟨fun _ => rfl, fun h => by simp at h⟩
  exact (turned.trans ((markRetained_keepsAll _).weaken _)).trans ((takeIncrement_keepsAll _ _ _).mono rfl)

theorem countTurn_keepsAll (s : State) : Keeps { turns := true, items := true } s (countTurn s) :=
  turnTaken_keepsAll 65536 s

theorem readSlewTravel_keepsAll (x : Sample) (s : State) :
    Keeps { turns := true, items := true } s (readSlewTravel x s) := by
  have moved (f : Sl → Sl) (hf : ∀ sl, (f sl).settings = sl.settings ∧ (f sl).turns = sl.turns) :
      Keeps { turns := true, items := true } s (onSl f s) :=
    (onSl_frame f s).touches.keeps.keepingSl rfl ⟨fun _ => (hf s.sl).1, fun _ => (hf s.sl).2⟩
  unfold readSlewTravel
  simp only []
  split
  · exact Keeps.refl _ _
  · split
    · exact moved _ (by intro; exact ⟨rfl, rfl⟩)
    · split
      · exact (moved _ (by intro; exact ⟨rfl, rfl⟩)).trans (countTurn_keepsAll _)
      · exact moved _ (by intro; exact ⟨rfl, rfl⟩)

/-! ## The Cycle Tracker -/

/-- The settings and the tables stay. -/
def CtKept (a b : Ct) : Prop := b.settings = a.settings ∧ b.fempty = a.fempty ∧ b.gain = a.gain

theorem CtKept.refl (a : Ct) : CtKept a a := ⟨rfl, rfl, rfl⟩

theorem CtKept.trans {a b c : Ct} (h : CtKept a b) (k : CtKept b c) : CtKept a c :=
  ⟨k.1.trans h.1, k.2.1.trans h.2.1, k.2.2.trans h.2.2⟩

theorem CtKept.keepsAll {s t : State} (h : Frame { ct := true } s t) (k : CtKept s.ct t.ct) : Keeps {} s t :=
  h.touches.keeps.keepingCt rfl ⟨fun _ => k.1, fun _ => k.2⟩

theorem onCt_keepsAll {f : Ct → Ct} (h : ∀ ct, CtKept ct (f ct)) (s : State) : Keeps {} s (onCt f s) :=
  CtKept.keepsAll (onCt_frame f s) (h s.ct)

theorem forceTaken_ctKept (f : Int) (ct : Ct) : CtKept ct (forceTaken f ct) := by
  unfold forceTaken
  split
  · exact ⟨rfl, rfl, rfl⟩
  · simp only []; split_ifs <;> exact ⟨rfl, rfl, rfl⟩

theorem pressureTaken_ctKept (g : Geometry) (fifo : List Sample) (ct : Ct) : CtKept ct (pressureTaken g ct fifo).1 := by
  induction fifo generalizing ct with
  | nil => exact CtKept.refl ct
  | cons x rest ih =>
    unfold pressureTaken
    split_ifs
    · exact CtKept.refl ct
    · exact ih ct
    · exact (forceTaken_ctKept _ ct).trans (ih _)

theorem set_settings (scu : Vector Channel 6) (ch : Fin 6) {c : Channel} (h : c.settings = scu[ch].settings) :
    (scu.set ch c).map Channel.settings = scu.map Channel.settings := by
  ext1 i hi
  simp only [Vector.getElem_map, Vector.getElem_set]
  split_ifs with e
  · subst e; exact h
  · rfl

theorem withPressureTaken_keepsAll {ct : Ct} {s : State} (h : CtKept s.ct ct) : Keeps {} s (withPressureTaken ct s) := by
  have kept := h.trans (pressureTaken_ctKept s.ps.geometry s.scu[(5 : Fin 6)].fifo ct)
  have channels : (withPressureTaken ct s).scu.map Channel.settings = s.scu.map Channel.settings := set_settings _ 5 rfl
  have frame : Touches { scu := true, ct := true } s (withPressureTaken ct s) := by constructor <;> simp [withPressureTaken]
  exact (frame.keeps.keepingScu (w := { cycle := true, tables := true }) rfl fun _ => channels).keepingCt rfl
    ⟨fun _ => kept.1, fun _ => kept.2⟩

theorem drainPressure_keepsAll (s : State) : Keeps {} s (drainPressure s) := by
  rw [drainPressure_eq]; exact withPressureTaken_keepsAll (CtKept.refl _)

theorem endRun_keepsAll (r : Run) (o : RunOutcome) (s : State) : Keeps {} s (endRun r o s) :=
  ((onCt_keepsAll (by intro; exact ⟨rfl, rfl, rfl⟩) s).trans (queueNotice_keepsAll _ _)).trans (drainPressure_keepsAll _)

theorem hardFail_keepsAll (cause : RunFailure) (s : State) : Keeps {} s (hardFail cause s) := by
  unfold hardFail
  split
  · exact Keeps.refl _ _
  · exact endRun_keepsAll _ _ s

theorem nextStep_keepsAll (s : State) : Keeps {} s (nextStep s) := by
  unfold nextStep
  split
  · exact onCt_keepsAll (by intro; exact ⟨rfl, rfl, rfl⟩) s
  · exact (onCt_keepsAll (by intro; exact ⟨rfl, rfl, rfl⟩) s).trans (drainPressure_keepsAll _)

theorem writeTables_keepsAll (a : Vector Int 8) (b : Vector Nat 8) (s : State) :
    Keeps { tables := true } s (writeTables a b s) := by
  have written : Keeps { tables := true } s (onCt (fun ct => { ct with fempty := a, gain := b }) s) :=
    (onCt_frame _ s).touches.keeps.keepingCt rfl ⟨fun _ => rfl, fun h => by simp at h⟩
  exact written.trans ((markedIf_keepsAll _ _).weaken _)

theorem judgeStep_keepsAll (r : Run) (w : Window) (s : State) : Keeps { tables := true } s (judgeStep r w s) := by
  obtain ⟨u, hu, h⟩ := judgeStep_cases r w s
  have hu : Keeps { tables := true } s u := by
    rcases hu with rfl | ⟨r', rfl⟩ | ⟨a, b, rfl⟩
    · exact Keeps.refl _ _
    · exact (onCt_keepsAll (by intro; exact ⟨rfl, rfl, rfl⟩) s).weaken _
    · exact writeTables_keepsAll a b s
  rcases h with h | ⟨r', o, h⟩ <;> rw [h]
  · exact hu.trans ((nextStep_keepsAll u).weaken _)
  · exact hu.trans ((endRun_keepsAll _ _ u).weaken _)

theorem deliverHealthToCt_keepsAll (h : Health) (s : State) : Keeps {} s (deliverHealthToCt h s) := by
  refine (onCt_keepsAll (by intro; exact ⟨rfl, rfl, rfl⟩) s).trans (anyOrder_keepsAll _ _ fun f m u => ?_)
  rcases mem_ctHealthActions m with rfl | rfl
  · exact hardFail_keepsAll _ u
  · exact onCt_keepsAll (by intro; exact ⟨rfl, rfl, rfl⟩) u

theorem setPhase_keepsAll (p : Phase) (s : State) : Keeps {} s (setPhase p s) := by
  unfold setPhase
  split_ifs
  · exact Keeps.refl _ _
  · exact (onCt_keepsAll (by intro; exact ⟨rfl, rfl, rfl⟩) s).trans (takePhaseChange_keepsAll p _)

theorem toUnknown_keepsAll (s : State) : Keeps {} s (toUnknown s) :=
  (onCt_keepsAll (by intro; exact ⟨rfl, rfl, rfl⟩) s).trans (setPhase_keepsAll _ _)

theorem travelEndedAtCt_keepsAll (s : State) : Keeps {} s (travelEndedAtCt s) := by
  unfold travelEndedAtCt
  split
  · split_ifs
    · exact Keeps.refl _ _
    · exact setPhase_keepsAll _ s
  · exact Keeps.refl _ _

theorem complete_ctKept (w : Window) (ct : Ct) : CtKept ct (Ct.complete w ct) := by
  unfold Ct.complete Ct.hand
  simp only []
  split_ifs
  · split <;> exact ⟨rfl, rfl, rfl⟩
  · exact ⟨rfl, rfl, rfl⟩

theorem closeAtDump_keepsAll (s : State) : Keeps {} s (closeAtDump s) := by
  unfold closeAtDump
  split
  · split_ifs
    · exact onCt_keepsAll (complete_ctKept _) s
    · exact Keeps.refl _ _
  · exact Keeps.refl _ _

theorem moveWindow_keepsAll (p : Pose) (s : State) : Keeps {} s (moveWindow p s) := by
  unfold moveWindow
  split
  · exact onCt_keepsAll (by intro; exact ⟨rfl, rfl, rfl⟩) s
  · split_ifs
    · exact onCt_keepsAll (by intro; exact ⟨rfl, rfl, rfl⟩) s
    · exact Keeps.refl _ _
  · split_ifs
    · exact (closeAtDump_keepsAll s).trans (onCt_keepsAll (by intro; exact ⟨rfl, rfl, rfl⟩) _)
    · exact Keeps.refl _ _
  · exact Keeps.refl _ _

theorem takePoseAtCt_keepsAll (p : Pose) (s : State) : Keeps {} s (takePoseAtCt p s) :=
  (moveWindow_keepsAll p s).trans (onCt_keepsAll (by intro; exact ⟨rfl, rfl, rfl⟩) _)

/-! ## The channels and the Pose Solver -/

theorem onChannel_keepsAll (ch : Fin 6) {f : Channel → Channel} {s : State}
    (h : (f s.scu[ch]).settings = s.scu[ch].settings) : Keeps {} s (onChannel ch f s) :=
  (onChannel_frame ch f s).touches.keeps.keepingScu rfl (fun _ => set_settings _ ch h)

theorem onPs_keepsAll {f : Ps → Ps} (h : ∀ ps, (f ps).geometry = ps.geometry ∧ (f ps).grade = ps.grade) (s : State) :
    Keeps {} s (onPs f s) :=
  (onPs_frame f s).touches.keeps.keepingPs rfl ⟨fun _ => (h s.ps).1, fun _ => (h s.ps).2⟩

theorem startComputation_keepsAll (s : State) : Keeps {} s (startComputation s) := by
  refine ((startComputation_frame s).touches.keeps.keepingScu (w := { geometry := true, grade := true }) rfl
    fun _ => ?_).keepingPs rfl ?_
  · ext1 i hi
    simp only [startComputation, Vector.getElem_map, Vector.getElem_mapFinIdx]
    split_ifs <;> rfl
  · exact ⟨fun _ => rfl, fun _ => rfl⟩

theorem requestComputation_keepsAll (s : State) : Keeps {} s (requestComputation s) := by
  unfold requestComputation
  split_ifs
  · exact onPs_keepsAll (by intro; exact ⟨rfl, rfl⟩) s
  · exact startComputation_keepsAll s

theorem requestForGrade_keepsAll (s : State) : Keeps {} s (requestForGrade s) := by
  unfold requestForGrade
  split_ifs
  · exact Keeps.refl _ _
  · exact startComputation_keepsAll s

theorem startPending_keepsAll (s : State) : Keeps {} s (startPending s) := by
  unfold startPending
  split_ifs
  · exact (onPs_keepsAll (by intro; exact ⟨rfl, rfl⟩) s).trans (startComputation_keepsAll _)
  · exact Keeps.refl _ _

theorem settleOverdig_keepsAll (p : Pose) (s : State) : Keeps {} s (settleOverdig p s) := by
  unfold settleOverdig
  simp only []
  split_ifs
  · exact ((onPs_keepsAll (by intro; exact ⟨rfl, rfl⟩) s).trans (queueNotice_keepsAll _ _)).trans
      (requestPsAlarm_keepsAll _ _)
  · exact ((onPs_keepsAll (by intro; exact ⟨rfl, rfl⟩) s).trans (queueNotice_keepsAll _ _)).trans
      (requestPsAlarm_keepsAll _ _)
  · exact Keeps.refl _ _

theorem serveTip_keepsAll (p : Pose) (s : State) : Keeps {} s (serveTip p s) := by
  unfold serveTip
  split_ifs
  · exact (onPs_keepsAll (by intro; exact ⟨rfl, rfl⟩) s).trans (queueNotice_keepsAll _ _)
  · exact Keeps.refl _ _

theorem replaceGeometry_keepsAll (g : Geometry) (s : State) : Keeps { geometry := true } s (replaceGeometry g s) := by
  have replaced : Keeps { geometry := true } s (onPs (fun ps => { ps with geometry := g }) s) :=
    (onPs_frame _ s).touches.keeps.keepingPs rfl ⟨fun h => by simp at h, fun _ => rfl⟩
  exact replaced.trans ((markedIf_keepsAll _ _).weaken _)

/-- What is delivered when the health of a channel changes leaves every setting (R18). -/
theorem healthAction_keepsAll {ch : Fin 6} {a b : Health} {f : State → State}
    (m : f ∈ [fun s => queueNotice (.channelHealth ch a b s.now) s, requestComputation, deliverHealthToSl b,
      deliverHealthToCt b]) (s : State) : Keeps {} s (f s) := by
  simp only [List.mem_cons, List.not_mem_nil, or_false] at m
  rcases m with rfl | rfl | rfl | rfl
  · exact queueNotice_keepsAll _ s
  · exact requestComputation_keepsAll s
  · exact deliverHealthToSl_keepsAll b s
  · exact deliverHealthToCt_keepsAll b s

theorem healthDeliveries_keepsAll (ch : Fin 6) (a b : Health) (s : State) :
    Keeps {} s (anyOrder (healthActions ch a b) s) :=
  anyOrder_keepsAll _ _ fun _ m u => healthAction_keepsAll (mem_healthActions m) u

theorem changeChannel_keepsAll (ch : Fin 6) {f : Channel → Channel} {s : State}
    (h : (f s.scu[ch]).settings = s.scu[ch].settings) : Keeps {} s (changeChannel ch f s) :=
  (onChannel_keepsAll ch h).trans (healthDeliveries_keepsAll ch _ _ _)

theorem rejectIdentity_settings (c : Channel) : (Channel.rejectIdentity c).settings = c.settings := by
  unfold Channel.rejectIdentity
  simp only []
  split
  all_goals first | rfl | (split_ifs <;> rfl)

theorem enqueue_settings (x : Sample) (c : Channel) : (c.enqueue x).settings = c.settings := by
  unfold Channel.enqueue
  split_ifs
  · unfold Channel.noteHead; split <;> rfl
  · rfl
  · rfl

theorem accept_settings (ch : Fin 6) (bytes : List Byte) (now : Stamp) (c : Channel) :
    (Channel.accept ch bytes now c).settings = c.settings := by
  unfold Channel.accept
  simp only []
  rw [enqueue_settings]
  dsimp only
  rw [countFault_settings, judgeSample_settings]
  dsimp only [Channel.onStats]
  split_ifs <;> rfl

theorem afterFrame_settings (ch : Fin 6) (bytes : List Byte) (now : Stamp) (c : Channel) :
    (Channel.afterFrame ch bytes now c).settings = c.settings := by
  unfold Channel.afterFrame
  split
  · rfl
  · exact rejectIdentity_settings _
  · exact rejectIdentity_settings _
  · rfl
  · exact accept_settings ch bytes now _

theorem arriveFrame_keepsAll (ch : Fin 6) (bytes : List Byte) (s : State) :
    Keeps { turns := true, items := true } s (arriveFrame ch bytes s) := by
  refine arriveFrame_keeps (P := Keeps { turns := true, items := true } s)
    (fun _ k => k.trans (by constructor <;> intros <;> simp)) ch bytes (fun a b x f m u hu => hu.trans ?_)
    ((onChannel_keepsAll ch (by rw [afterFrame_settings])).weaken _)
  simp only [List.mem_cons, List.not_mem_nil, or_false] at m
  rcases m with rfl | rfl | rfl | rfl | rfl | rfl
  · exact (queueNotice_keepsAll _ u).weaken _
  · exact (requestComputation_keepsAll u).weaken _
  · exact (deliverHealthToSl_keepsAll b u).weaken _
  · exact (deliverHealthToCt_keepsAll b u).weaken _
  · exact readSlewTravel_keepsAll x u
  · exact (drainPressure_keepsAll u).weaken _

theorem completePose_keepsAll (c : Computation) (s : State) :
    Keeps { totals := true, items := true } s (completePose c s) := by
  unfold completePose
  simp only []
  generalize assemblePose s.ps c s.now = p
  have started := onPs_keepsAll (f := fun ps => { ps with pose := p, inFlight := none }) (by intro; exact ⟨rfl, rfl⟩) s
  refine Keeps.trans ?_ ((startPending_keepsAll _).weaken _)
  refine (((started.trans (settleOverdig_keepsAll p _)).trans (serveTip_keepsAll p _)).weaken _).trans ?_
  refine deliverPose_keeps (P := Keeps { totals := true, items := true } _)
    (fun _ k => k.trans (by constructor <;> intros <;> simp)) _ _ (fun f m u hu => hu.trans ?_)
    ((takePoseAtCt_keepsAll _ _).weaken _)
  simp only [List.mem_cons, List.not_mem_nil, or_false] at m
  rcases m with rfl | rfl | rfl | rfl | rfl
  · exact (deliverPoseToSl_keepsAll _ u).weaken _
  · exact (hardFail_keepsAll _ u).weaken _
  · exact arrivePass_keepsAll _ u
  · exact (takeActivity_keepsAll u).weaken _
  · exact (takePhaseChange_keepsAll _ u).weaken _

theorem readInputs_keepsAll (x : InputSamples) (s : State) : Keeps { authority := true } s (readInputs x s) := by
  refine readInputs_keeps (P := Keeps { authority := true } s) (fun _ k => k.trans (by constructor <;> intros <;> simp)) x
    (fun u hu => hu.trans ((onMlu_frame _ u).touches.keeps.mono rfl)) (fun f m u hu => hu.trans ?_) s (Keeps.refl _ _)
  simp only [List.mem_cons, List.not_mem_nil, or_false] at m
  rcases m with rfl | rfl | rfl | rfl | rfl | rfl | rfl
  · exact (takeActivity_keepsAll u).weaken _
  · exact (takeSeatChange_keepsAll u).weaken _
  · exact (travelZones_keepsAll u).weaken _
  · exact (toUnknown_keepsAll u).weaken _
  · exact (travelLoads_keepsAll u).weaken _
  · exact (travelEndedAtCt_keepsAll u).weaken _
  · exact settleAuthority_keepsAll u

end Sys2Proof.Machine

/-! PROOFS. Each setting has one writer (R20, R28, R36, R49, R59, R60, R66, R76, R95, R108, R119, R137, R155). -/

namespace Sys2Proof.Machine

/-- The settings, tables and retained counts each command may write, beside the resets. -/
def writersOf : Instr → Written
  | .inputLevelChange .. => { authority := true }
  | .channelSet .. => { channels := true }
  | .geometrySet .. => { geometry := true }
  | .gradeSet .. => { grade := true }
  | .zoneWrite .. | .zoneClear .. | .reanchor .. => { zones := true }
  | .slewSettings .. => { slew := true }
  | .sensorFrameArrival .. => { turns := true, items := true }
  | .cycleSettings .. => { cycle := true }
  | .calibrationStepEnd => { tables := true }
  | .truckClassSet .. => { classes := true }
  | .poseCompletion => { totals := true, items := true }
  | .economySet .. => { economy := true }
  | .engineReport .. => { counts := true, items := true }
  | .countersRead .. => { counts := true }
  | .serviceItemSet .. => { items := true, definitions := true }
  | .serviceAck .. | .serviceDone .. | .serviceSuspend .. => { items := true }
  | _ => {}

/-! ## The owners -/

theorem interpret_keepsAll {w : Written} {kind tag : Byte} {body : List Byte} {level : Authority} {ok : List Byte → Bool}
    {owner : Owner} {s t : State} (e : interpret kind level ok owner tag body s = .next t)
    (h : ∀ u, Keeps w u (owner body u).1) : Keeps w s t :=
  interpret_keeps (P := Keeps w s) (fun h k => k.trans (h.keeps.mono rfl)) e (fun u k => k.trans (h u))
    (Keeps.refl w s)

/-- An owner that reads fields keeps what it keeps for every field it accepts. -/
theorem withFields_keepsAll {α : Type} {w : Written} (fields? : List Byte → Option α) {owner : α → State → State × Answer}
    (h : ∀ a u, Keeps w u (owner a u).1) (body : List Byte) (s : State) :
    Keeps w s (withFields fields? owner body s).1 := by
  rcases withFields_cases fields? owner body s with e | ⟨a, -, e⟩ <;> rw [e]
  · exact Keeps.refl w s
  · exact h a s

theorem channelSetOwner_keepsAll (body : List Byte) (s : State) : Keeps { channels := true } s (channelSetOwner body s).1 := by
  rcases channelSetOwner_cases body s with h | ⟨ch, new, -, h⟩ <;> rw [h]
  · exact Keeps.refl _ _
  · refine ((markedIf_keepsAll (new != s.scu[ch].settings) s).weaken _).trans (Keeps.trans ?_
      ((healthDeliveries_keepsAll ch _ _ _).weaken _))
    exact (onChannel_frame ch _ _).touches.keeps.mono rfl

theorem channelRestartOwner_keepsAll (body : List Byte) (s : State) : Keeps {} s (channelRestartOwner body s).1 := by
  rcases channelRestartOwner_cases body s with h | ⟨ch, -, h⟩ <;> rw [h]
  · exact Keeps.refl _ _
  · exact changeChannel_keepsAll ch rfl

theorem channelStatusOwner_keepsAll (body : List Byte) (s : State) : Keeps {} s (channelStatusOwner body s).1 := by
  rcases channelStatusOwner_cases body s with h | ⟨ch, h⟩ <;> rw [h]
  · exact Keeps.refl _ _
  · exact onChannel_keepsAll ch rfl

theorem geometrySetOwner_keepsAll (body : List Byte) (s : State) :
    Keeps { geometry := true } s (geometrySetOwner body s).1 :=
  withFields_keepsAll geometrySet? (fun g u => by
    refine Keeps.trans (anyOrder_keepsAll _ _ fun f m v => ?_) ((requestComputation_keepsAll _).weaken _)
    rcases List.mem_cons.1 m with rfl | m
    · exact replaceGeometry_keepsAll g v
    · obtain ⟨-, rfl⟩ := mem_ite_singleton m
      exact (hardFail_keepsAll _ v).weaken _) body s

theorem gradeSetOwner_keepsAll (body : List Byte) (s : State) : Keeps { grade := true } s (gradeSetOwner body s).1 :=
  withFields_keepsAll gradeSet? (fun g u => by
    refine Keeps.trans ?_ ((requestForGrade_keepsAll _).weaken _)
    exact (onPs_frame _ u).touches.keeps.keepingPs rfl ⟨fun _ => rfl, fun h => by simp at h⟩) body s

theorem replaceZone_keepsAll (k : Fin 16) (z : Option Zone) (s : State) :
    Keeps { zones := true } s (replaceZone k z s) := by
  have written : Keeps { zones := true } s (onZone k (fun _ => { held := z }) s) := (onZone_frame k _ s).touches.keeps.mono rfl
  refine (written.trans ((markedIf_keepsAll _ _).weaken _)).trans (anyOrder_keepsAll _ _ fun f m u => ?_)
  rcases mem_ite_append_singleton m with rfl | rfl
  · exact (settleUnanchored_keepsAll u).weaken _
  · exact ((forgetZone_keepsAll k u).trans (evaluateSlew_keepsAll _)).weaken _

theorem zoneWriteOwner_keepsAll (body : List Byte) (s : State) : Keeps { zones := true } s (zoneWriteOwner body s).1 := by
  rcases zoneWriteOwner_cases body s with h | ⟨k, z, -, h⟩ <;> rw [h]
  · exact Keeps.refl _ _
  · exact replaceZone_keepsAll k z s

theorem zoneClearOwner_keepsAll (body : List Byte) (s : State) : Keeps { zones := true } s (zoneClearOwner body s).1 := by
  rcases zoneClearOwner_cases body s with h | ⟨k, h⟩ <;> rw [h]
  · exact Keeps.refl _ _
  · exact replaceZone_keepsAll k none s

theorem reanchorZones_keepsAll (d : Angle) (s : State) : Keeps { zones := true } s (reanchorZones d s) := by
  have turned (z : Vector ZoneEntry 16) : Keeps { zones := true } s { s with zt := { s.zt with zones := z } } :=
    (withZones_frame z s).touches.keeps.mono rfl
  have marked (u : State) : Keeps {} u (if d = 0 then u else markRetained u) := by
    split_ifs
    · exact Keeps.refl _ _
    · exact markRetained_keepsAll u
  exact (turned _).trans (((((marked _).trans (zoneNotices_keepsAll _ _)).trans (settleUnanchored_keepsAll _)).trans
    (evaluateSlew_keepsAll _)).weaken _)

theorem reanchorOwner_keepsAll (body : List Byte) (s : State) : Keeps { zones := true } s (reanchorOwner body s).1 := by
  rcases reanchorOwner_cases body s with h | ⟨d, h⟩ <;> rw [h]
  · exact Keeps.refl _ _
  · exact reanchorZones_keepsAll d s

theorem zoneReadOwner_keepsAll (body : List Byte) (s : State) : Keeps {} s (zoneReadOwner body s).1 := by
  rcases zoneReadOwner_cases body s with h | ⟨k, h⟩ <;> rw [h]
  · exact Keeps.refl _ _
  · exact onZone_keepsAll k (by intro; rfl) s

theorem zoneSuspendOwner_keepsAll (body : List Byte) (s : State) : Keeps {} s (zoneSuspendOwner body s).1 := by
  rcases zoneSuspendOwner_cases body s with h | ⟨k, z, -, -, -, h⟩ <;> rw [h]
  · exact Keeps.refl _ _
  · exact moveZone_keepsAll _ _ s

theorem zoneResumeOwner_keepsAll (body : List Byte) (s : State) : Keeps {} s (zoneResumeOwner body s).1 := by
  rcases zoneResumeOwner_cases body s with h | ⟨k, z, -, -, h⟩ <;> rw [h]
  · exact Keeps.refl _ _
  · exact moveZone_keepsAll _ _ s

theorem slewSettingsOwner_keepsAll (body : List Byte) (s : State) :
    Keeps { slew := true } s (slewSettingsOwner body s).1 := by
  rcases slewSettingsOwner_cases body s with h | ⟨new, -, h⟩ <;> rw [h]
  · exact Keeps.refl _ _
  · have stored : Keeps { slew := true } s (onSl (fun sl => { sl with settings := new }) s) :=
      (onSl_frame _ s).touches.keeps.keepingSl rfl ⟨fun h => by simp at h, fun _ => rfl⟩
    exact (stored.trans ((markedIf_keepsAll _ _).weaken _)).trans ((evaluateSlew_keepsAll _).weaken _)

theorem cycleSettingsOwner_keepsAll (body : List Byte) (s : State) :
    Keeps { cycle := true } s (cycleSettingsOwner body s).1 :=
  withFields_keepsAll cycleSettings? (fun op u => by
    cases op with
    | read => exact Keeps.refl _ _
    | write c =>
      have stored : Keeps { cycle := true } u (onCt (fun ct => { ct with settings := c }) u) :=
        (onCt_frame _ u).touches.keeps.keepingCt rfl ⟨fun h => by simp at h, fun _ => ⟨rfl, rfl⟩⟩
      exact (stored.trans ((markedIf_keepsAll _ _).weaken _)).trans ((hardFail_keepsAll _ _).weaken _)) body s

theorem startRun_keepsAll (kind : RunKind) (s : State) : Keeps {} s (startRun kind s).1 := by
  unfold startRun
  split_ifs
  · exact Keeps.refl _ _
  · dsimp only
    exact onCt_keepsAll (by intro; exact ⟨rfl, rfl, rfl⟩) s

theorem calibrateCancelOwner_keepsAll (body : List Byte) (s : State) : Keeps {} s (calibrateCancelOwner body s).1 := by
  unfold calibrateCancelOwner
  split
  · exact Keeps.refl _ _
  · exact endRun_keepsAll _ _ s

theorem writeClass_keepsAll (i : Fin 16) (c : TruckClass) (s : State) : Keeps { classes := true } s (writeClass i c s) := by
  have stored : Keeps { classes := true } s (onLr (fun lr => { lr with classes := lr.classes.set i c }) s) :=
    (onLr_frame _ s).touches.keeps.keepingLr rfl ⟨fun h => by simp at h, fun _ => ⟨rfl, rfl⟩⟩
  exact stored.trans ((markedIf_keepsAll _ _).weaken _)

theorem truckClassOwner_keepsAll (body : List Byte) (s : State) : Keeps { classes := true } s (truckClassOwner body s).1 :=
  withFields_keepsAll truckClassSet? (fun op u => by
    cases op with
    | read => exact Keeps.refl _ _
    | write a =>
      obtain ⟨i, c⟩ := a
      simp only []
      split_ifs
      · exact Keeps.refl _ _
      · exact writeClass_keepsAll i c u) body s

theorem loadNextOwner_keepsAll (body : List Byte) (s : State) : Keeps {} s (loadNextOwner body s).1 :=
  withFields_keepsAll loadNext? (fun ⟨i, flag⟩ u => by
    have next : Keeps {} u (onLr (fun lr => { lr with nextClass := i }) u) :=
      LrKept.keepsAll (onLr_frame _ u) ⟨rfl, rfl, rfl⟩
    simp only []
    split_ifs
    · exact Keeps.refl _ _
    · exact next.trans (reclass_keepsAll i _)
    · exact next) body s

theorem loadCloseOwner_keepsAll (body : List Byte) (s : State) : Keeps {} s (loadCloseOwner body s).1 := by
  unfold loadCloseOwner
  split
  · exact Keeps.refl _ _
  · exact LrKept.keepsAll (closeLoad_frame _ s) (closeLoad_lrKept _ s)

theorem clearCounters_keepsAll (s : State) : Keeps { counts := true } s (clearCounters s) := by
  have cleared : Keeps { counts := true } s (onEm (fun em => { em with histogram := Vector.replicate 8 0, gaps := 0 }) s) :=
    (onEm_frame _ s).touches.keeps.keepingEm rfl ⟨fun _ => rfl, fun h => by simp at h⟩
  exact cleared.trans ((markedIf_keepsAll _ _).weaken _)

theorem countersOwner_keepsAll (body : List Byte) (s : State) : Keeps { counts := true } s (countersOwner body s).1 :=
  withFields_keepsAll _ (fun clear u => by
    cases clear
    · exact Keeps.refl _ _
    · exact clearCounters_keepsAll u) body s

theorem writeEconomy_keepsAll (x : EconomySettings) (s : State) : Keeps { economy := true } s (writeEconomy x s) := by
  have stored : Keeps { economy := true } s (onEm (fun em => { em with settings := x }) s) :=
    (onEm_frame _ s).touches.keeps.keepingEm rfl ⟨fun h => by simp at h, fun _ => rfl⟩
  unfold writeEconomy
  simp only []
  refine (stored.trans ((markedIf_keepsAll (x != s.em.settings) _).weaken _)).trans (Keeps.weaken _ ?_)
  generalize (if (x != s.em.settings) = true then markRetained (onEm (fun em => { em with settings := x }) s)
    else onEm (fun em => { em with settings := x }) s) = u
  refine Keeps.trans ((reworkIdle_keepsAll u).trans (reworkShutdown_keepsAll _)) (Keeps.trans ?_ (settleAdvice_keepsAll _))
  generalize reworkShutdown (reworkIdle u) = v
  refine ModeMoved.keepsAll ((onEm_frame _ v).touchesWithin rfl) ?_
  simp only [onEm_em]
  split_ifs
  · exact setMode_moved _ _ _
  · exact ModeMoved.refl _

theorem economyOwner_keepsAll (body : List Byte) (s : State) : Keeps { economy := true } s (economyOwner body s).1 :=
  withFields_keepsAll economySet? (fun op u => by
    cases op with
    | read => exact Keeps.refl _ _
    | write x => exact writeEconomy_keepsAll x u) body s

theorem settleReplaced_keepsAll (i : Fin 24) (item : Option ServiceItem) (s : State) :
    Keeps { items := true, definitions := true } s (settleCap (replaceItem i item s)) := by
  have set : Keeps { items := true, definitions := true } s (setEntry i (item.map entryOf) s) :=
    (setEntry_frame i _ s).touches.keeps.mono rfl
  exact (set.trans ((markedIf_keepsAll _ _).weaken _)).trans ((settleCap_keepsAll _).weaken _)

/-- An item of the definition that stands there leaves the definitions (R158, R159). -/
theorem settleReplaced_keepsDefinitions {i : Fin 24} {item : ServiceItem} {e : ServiceEntry} {s : State}
    (he : s.st.entries[i] = some e) (h : item.definition = e.item.definition) :
    Keeps { items := true } s (settleCap (replaceItem i (some item) s)) := by
  have set : Keeps { items := true } s (setEntry i ((some item).map entryOf) s) :=
    (setEntry_frame i _ s).touches.keeps.keepingSt rfl (⟨fun h => by simp at h, fun _ =>
      setEntry_definitions i (by rw [he]; simp [entryOf, h])⟩)
  exact (set.trans ((markedIf_keepsAll _ _).weaken _)).trans ((settleCap_keepsAll _).weaken _)

theorem serviceItemOwner_keepsAll (body : List Byte) (s : State) :
    Keeps { items := true, definitions := true } s (serviceItemOwner body s).1 :=
  withFields_keepsAll serviceItemSet? (fun ⟨i, d⟩ u => settleReplaced_keepsAll i (d.map newItem) u) body s

theorem serviceDoneOwner_keepsAll (body : List Byte) (s : State) : Keeps { items := true } s (serviceDoneOwner body s).1 :=
  withFields_keepsAll _ (fun i u => by
    split
    · exact Keeps.refl _ _
    · next e he => exact settleReplaced_keepsDefinitions he rfl) body s

theorem serviceSuspendOwner_keepsAll (body : List Byte) (s : State) :
    Keeps { items := true } s (serviceSuspendOwner body s).1 :=
  withFields_keepsAll serviceSuspend? (fun ⟨i, on⟩ u => by
    simp only []
    split
    · exact Keeps.refl _ _
    · next e he =>
      simp only []
      split_ifs
      · exact Keeps.refl _ _
      · exact settleReplaced_keepsDefinitions he rfl) body s

theorem serviceAckOwner_keepsAll (body : List Byte) (s : State) : Keeps { items := true } s (serviceAckOwner body s).1 :=
  withFields_keepsAll serviceAck? (fun is u => by
    simp only []
    generalize hE : (u.st.entries.mapFinIdx fun i e h => if ackReaches is ⟨i, h⟩ e = true then
      e.map ServiceEntry.clearAttention else e) = E
    have acked : Keeps { items := true } u { u with st := { u.st with entries := E } } := by
      have frame : Touches { st := true } u { u with st := { u.st with entries := E } } := by constructor <;> simp
      refine frame.keeps.keepingSt rfl ⟨fun h => by simp at h, fun _ => definitionsOf_congr fun i => ?_⟩
      have at' : E[i] = if ackReaches is i u.st.entries[i] = true then
          u.st.entries[i].map ServiceEntry.clearAttention else u.st.entries[i] := by
        rw [← hE]; simp
      change (E[i].map fun e => e.item.definition) = _
      rw [at']
      split_ifs
      · simp [ServiceEntry.clearAttention, Function.comp_def]
      · rfl
    split_ifs
    · exact acked
    · exact acked.trans ((markRetained_keepsAll _).weaken _)) body s

/-! ## Every command -/

theorem whenDue_keepsAll {w : Written} {due : Bool} {f : State → State} {s t : State} (e : whenDue due s f = .next t)
    (h : Keeps w s (f s)) : Keeps w s t := by
  rcases eq_or_of_whenDue e with rfl | ⟨-, rfl⟩
  · exact Keeps.refl _ _
  · exact h

theorem takeBreak_settings (c : Channel) : (Channel.takeBreak c).settings = c.settings := by
  unfold Channel.takeBreak
  simp only []
  split <;> rfl

theorem endBreak_settings (c : Channel) : (Channel.endBreak c).settings = c.settings := by
  unfold Channel.endBreak
  simp only []
  split_ifs <;> rfl

theorem endAttempt_keepsAll (written : Bool) (image : Image) (r : CommitRecord) (s : State) :
    Keeps {} s (endAttempt written image r s) :=
  (endAttempt_touches written image r s).keeps.keepingEm rfl ⟨fun _ => (endAttempt_moved written image r s).settings, fun _ => (endAttempt_moved written image r s).counts⟩

/-- Each command writes what the table gives it and keeps the rest. -/
theorem exec_keepsAll {c : Instr} {s t : State} (hc : ¬ IsReset c) (e : exec c s = .next t) : Keeps (writersOf c) s t := by
  cases c with
  | restartTakesEffect | powerOn | powerLoss => exact absurd trivial hc
  | sensorFrameArrival ch char =>
    rcases sensorFrameArrival_cases e with rfl | ⟨bytes, -, -, -, rfl⟩
    · exact Keeps.refl _ _
    · exact arriveFrame_keepsAll ch _ s
  | sensorCharacter | sensorFramingError | breakDetectorSample => exact whenDue_keepsAll e (onChannel_keepsAll _ rfl)
  | breakDetected ch => exact whenDue_keepsAll e (changeChannel_keepsAll ch (takeBreak_settings _))
  | breakEnd ch => exact whenDue_keepsAll e (changeChannel_keepsAll ch (endBreak_settings _))
  | staleTimerExpiry ch | silentTimerExpiry ch => exact whenDue_keepsAll e (changeChannel_keepsAll ch rfl)
  | inputLevelChange x => exact whenDue_keepsAll e (readInputs_keepsAll x s)
  | inputReading x => exact whenDue_keepsAll e ((onMlu_frame _ s).touches.keeps.keepingMlu rfl (fun _ => rfl))
  | alarmCadence =>
    rcases alarmCadence_cases e with rfl | ⟨len, -, rfl⟩
    · exact Keeps.refl _ _
    · exact (onMlu_frame _ s).touches.keeps.keepingMlu rfl (fun _ => rfl)
  | poseCompletion =>
    rcases poseCompletion_cases e with rfl | ⟨c, -, rfl⟩
    · exact Keeps.refl _ _
    · exact completePose_keepsAll c s
  | calibrationStepEnd =>
    rcases calibrationStepEnd_cases e with rfl | ⟨r, w, -, -, rfl⟩
    · exact Keeps.refl _ _
    · exact judgeStep_keepsAll r w s
  | channelSet tag body => exact interpret_keepsAll e (channelSetOwner_keepsAll body)
  | channelStatus tag body => exact interpret_keepsAll e (channelStatusOwner_keepsAll body)
  | channelRestart tag body => exact interpret_keepsAll e (channelRestartOwner_keepsAll body)
  | geometrySet tag body => exact interpret_keepsAll e (geometrySetOwner_keepsAll body)
  | gradeSet tag body => exact interpret_keepsAll e (gradeSetOwner_keepsAll body)
  | tipSubscribe tag body =>
    exact interpret_keepsAll e fun u => onPs_keepsAll (f := fun ps => { ps with
      tipInterval := tipIntervalOf (u16 body 0), tipLast := none }) (by intro; exact ⟨rfl, rfl⟩) u
  | zoneWrite tag body => exact interpret_keepsAll e (zoneWriteOwner_keepsAll body)
  | zoneClear tag body => exact interpret_keepsAll e (zoneClearOwner_keepsAll body)
  | zoneRead tag body => exact interpret_keepsAll e (zoneReadOwner_keepsAll body)
  | zoneSuspend tag body => exact interpret_keepsAll e (zoneSuspendOwner_keepsAll body)
  | zoneResume tag body => exact interpret_keepsAll e (zoneResumeOwner_keepsAll body)
  | reanchor tag body => exact interpret_keepsAll e (reanchorOwner_keepsAll body)
  | slewSettings tag body => exact interpret_keepsAll e (slewSettingsOwner_keepsAll body)
  | cycleSettings tag body => exact interpret_keepsAll e (cycleSettingsOwner_keepsAll body)
  | calibrateEmpty tag body =>
    exact interpret_keepsAll e (withFields_keepsAll calibrateEmpty? (fun _ u => startRun_keepsAll _ u) body)
  | calibrateGain tag body =>
    exact interpret_keepsAll e (withFields_keepsAll calibrateGain? (fun _ u => startRun_keepsAll _ u) body)
  | calibrateCancel tag body => exact interpret_keepsAll e (calibrateCancelOwner_keepsAll body)
  | truckClassSet tag body => exact interpret_keepsAll e (truckClassOwner_keepsAll body)
  | loadNext tag body => exact interpret_keepsAll e (loadNextOwner_keepsAll body)
  | loadClose tag body => exact interpret_keepsAll e (loadCloseOwner_keepsAll body)
  | engineReport tag body => exact interpret_keepsAll e fun u => takeReport_keepsAll _ u
  | countersRead tag body => exact interpret_keepsAll e (countersOwner_keepsAll body)
  | economySet tag body => exact interpret_keepsAll e (economyOwner_keepsAll body)
  | idleTimerExpiry =>
    change execIdleTimerExpiry s = _ at e
    unfold execIdleTimerExpiry at e
    have idle : Keeps {} s (expireIdle s) :=
      ModeMoved.keepsAll ((onEm_frame _ s).touchesWithin rfl) (setMode_moved s.now .autoIdle s.em)
    exact whenDue_keepsAll e (idle.trans (settleAdvice_keepsAll _))
  | shutdownTimerExpiry =>
    rcases shutdownTimerExpiry_cases e with rfl | ⟨start, -, -, rfl⟩
    · exact Keeps.refl _ _
    · exact (expireShutdown_keepsAll start s).trans (settleAdvice_keepsAll _)
  | serviceItemSet tag body => exact interpret_keepsAll e (serviceItemOwner_keepsAll body)
  | serviceAck tag body => exact interpret_keepsAll e (serviceAckOwner_keepsAll body)
  | serviceDone tag body => exact interpret_keepsAll e (serviceDoneOwner_keepsAll body)
  | serviceSuspend tag body => exact interpret_keepsAll e (serviceSuspendOwner_keepsAll body)
  | commitAttemptEnd written image =>
    rcases commitAttemptEnd_cases e with rfl | ⟨r, -, rfl⟩
    · exact Keeps.refl _ _
    · exact endAttempt_keepsAll written image r s
  | _ => exact (Touches.mono (b := { rs := true }) (exec_touches id e) rfl).keeps.mono rfl

/-- What a command changes it writes. -/
theorem written_of_ne {b : Bool} {α : Type} {x y : α} (k : b = false → x = y) (h : x ≠ y) : b = true := by
  cases b
  · exact absurd (k rfl) h
  · rfl

/-- Settles O4: each command keeps all but what the table of writers gives it, and there each setting has one writer. -/
theorem eachSettingHasOneWriter : Obligations.EachSettingHasOneWriter := by
  intro c s t e hr hon hloss
  have hc : ¬ IsReset c := by
    cases c <;> simp_all [IsReset]
  have k := exec_keepsAll hc e
  refine ⟨fun h => ?_, fun ⟨ch, h⟩ => ?_, fun h => ?_, fun h => ?_, fun h => ?_, fun h => ?_, fun h => ?_, fun h => ?_,
    fun h => ?_, fun h => ?_, fun ⟨i, h⟩ => ?_⟩
  · have w := written_of_ne k.authority h
    cases c <;> simp [writersOf] at w ⊢
  · have w := written_of_ne k.channels fun e => h (by
      have := congrArg (fun v => v[ch]) e
      simpa using this)
    cases c <;> simp [writersOf] at w ⊢
  · have w := written_of_ne k.geometry h
    cases c <;> simp [writersOf] at w ⊢
  · have w := written_of_ne k.grade h
    cases c <;> simp [writersOf] at w ⊢
  · have w := written_of_ne k.zones h
    cases c <;> simp [writersOf] at w ⊢
  · have w := written_of_ne k.slew h
    cases c <;> simp [writersOf] at w ⊢
  · have w := written_of_ne k.cycle h
    cases c <;> simp [writersOf] at w ⊢
  · have w : (writersOf c).tables = true := by
      cases hw : (writersOf c).tables
      · exact absurd (k.tables hw) (by tauto)
      · rfl
    cases c <;> simp [writersOf] at w ⊢
  · have w := written_of_ne k.classes h
    cases c <;> simp [writersOf] at w ⊢
  · have w := written_of_ne k.economy h
    cases c <;> simp [writersOf] at w ⊢
  · have w := written_of_ne k.definitions fun e => h (by
      have := congrArg (fun v => v[i]) e
      simpa [definitionsOf] using this)
    cases c <;> simp [writersOf] at w ⊢

end Sys2Proof.Machine

/-! PROOFS. What every step keeps: the image of a CLEAN store and the snapshot of a commit (R161 to R166). -/

namespace Sys2Proof.Machine

/-! ## No change of retained content goes unmarked -/

/-- The retained content and the store stay, or the store takes a mark. -/
def Stored (s t : State) : Prop := (retainedOf t = retainedOf s ∧ t.rs = s.rs) ∨ t.rs = Rs.mark s.rs

theorem mark_mark (rs : Rs) : Rs.mark (Rs.mark rs) = Rs.mark rs := by
  unfold Rs.mark
  cases h : rs.state <;> simp [h]

theorem Stored.refl (s : State) : Stored s s := .inl ⟨rfl, rfl⟩

theorem Stored.trans {s t u : State} (h : Stored s t) (k : Stored t u) : Stored s u := by
  rcases h with ⟨h1, h2⟩ | h <;> rcases k with ⟨k1, k2⟩ | k
  · exact .inl ⟨k1.trans h1, k2.trans h2⟩
  · exact .inr (by rw [k, h2])
  · exact .inr (k2.trans h)
  · exact .inr (by rw [k, h, mark_mark])

/-- What holds of the image or the snapshot holds after a mark, or while nothing changes. -/
theorem ImageMatches.of_stored {s t : State} (h : Stored s t) (hs : ImageMatches s) : ImageMatches t := by
  unfold ImageMatches at hs ⊢
  rcases h with ⟨content, rs⟩ | rs
  · rw [rs, content]; exact hs
  · rw [rs]
    unfold Rs.mark
    cases hr : s.rs.state with
    | clean => trivial
    | dirty => simp [hr]
    | failed => simp [hr]
    | committing r =>
      simp only [hr] at hs ⊢
      exact ⟨fun h => by simp at h, hs.2⟩

/-- Settings, tables and counts kept, the retained content is the same. -/
theorem Keeps.retained {w : Written} {s t : State} (h : Keeps w s t)
    (hw : Written.within w { authority := true, grade := true, definitions := true } = true) :
    retainedOf t = retainedOf s := by
  have k := h.mono hw
  obtain ⟨fempty, gain⟩ := k.tables rfl
  obtain ⟨passes, payload⟩ := k.totals rfl
  have counts := k.counts rfl
  simp only [countsOf, Prod.mk.injEq] at counts
  obtain ⟨fuel, engine, weighted, histogram⟩ := counts
  unfold retainedOf
  rw [k.channels rfl, k.geometry rfl, k.zones rfl, k.slew rfl, k.turns rfl, k.cycle rfl, fempty, gain, k.classes rfl, passes,
    payload, k.economy rfl, fuel, engine, weighted, histogram, k.items rfl]

theorem Stored.of_keeps {s t : State} (k : Keeps {} s t) (rs : t.rs = s.rs) : Stored s t := .inl ⟨k.retained rfl, rs⟩

/-- A mark where the content differs (R162). -/
theorem Stored.of_markedIf {b : Bool} {s u : State} (rs : u.rs = s.rs) (same : b = false → retainedOf u = retainedOf s) :
    Stored s (if b then markRetained u else u) := by
  cases b
  · exact .inl ⟨same rfl, rs⟩
  · exact .inr (by simp [markRetained, rs])

theorem retainedOf_congr {s t : State} (scu : t.scu = s.scu) (ps : t.ps = s.ps) (zt : t.zt = s.zt) (sl : t.sl = s.sl)
    (ct : t.ct = s.ct) (lr : t.lr = s.lr) (em : t.em = s.em) (st : t.st = s.st) : retainedOf t = retainedOf s := by
  unfold retainedOf
  rw [scu, ps, zt, sl, ct, lr, em, st]

theorem ImageMatches.of_touches {s t : State} (h : Touches {} s t) (hs : ImageMatches s) : ImageMatches t :=
  hs.of_stored (.inl ⟨retainedOf_congr (h.scu rfl) (h.ps rfl) (h.zt rfl) (h.sl rfl) (h.ct rfl) (h.lr rfl) (h.em rfl)
    (h.st rfl), h.rs rfl⟩)

/-! ## The blocks -/

theorem settleCap_stored (s : State) : Stored s (settleCap s) :=
  .of_keeps (settleCap_keepsAll s) ((settleCap_frame s).rs rfl)

theorem incrementEntry_unreached {b : Basis} {n : Nat} {i : Fin 24} {s : State} (h : reaches b s.st.entries[i] = false) :
    incrementEntry b n i s = s := by
  unfold incrementEntry
  split
  · rfl
  · next e he =>
    rw [he] at h
    rw [if_neg (by rw [h]; decide)]

theorem takeIncrement_stored (b : Basis) (n : Nat) (s : State) : Stored s (takeIncrement b n s) := by
  unfold takeIncrement
  split_ifs
  · exact Stored.refl s
  · refine Stored.trans (Stored.of_markedIf ((foldl_frame _ (fun s i => incrementEntry_frame b n i s) _ s).rs rfl)
      fun untouched => ?_) (settleCap_stored _)
    have none' (i : Fin 24) : reaches b s.st.entries[i] = false := by
      have := List.any_eq_false.1 untouched _ (Vector.mem_toList_iff.2 (Vector.getElem_mem i.isLt))
      simpa using this
    have fold (l : List (Fin 24)) : l.foldl (fun s i => incrementEntry b n i s) s = s := by
      induction l with
      | nil => rfl
      | cons i l ih => rw [List.foldl_cons, incrementEntry_unreached (none' i), ih]
    rw [fold]

theorem countPass_stored (p : Pass) (s : State) : Stored s (countPass p s) := .inr rfl

theorem receivePass_keeps_image (p : Pass) {s : State} (h : ImageMatches s) : ImageMatches (receivePass p s) := by
  refine anyOrder_keeps (fun s h => h) _ _ (fun f m u hu => ?_) (h.of_stored (countPass_stored p s))
  simp only [List.mem_cons, List.not_mem_nil, or_false] at m
  rcases m with rfl | rfl | rfl
  · exact hu.of_stored (.of_keeps (handlePass_keepsAll p u) ((handlePass_frame p u).rs rfl))
  all_goals exact hu.of_stored (takeIncrement_stored _ _ u)

theorem arrivePass_keeps_image (p : Pass) {s : State} (h : ImageMatches s) : ImageMatches (arrivePass p s) := by
  unfold arrivePass
  simp only []
  split_ifs
  · exact receivePass_keeps_image p ((show ImageMatches { s with choices := s.choices + 1 } from h).of_stored
      (.of_keeps (takeTravelFirst_keepsAll _) ((takeTravelFirst_frame _).rs rfl)))
  · exact receivePass_keeps_image (s := { s with choices := s.choices + 1 }) p h
  · exact receivePass_keeps_image p h

theorem integrateReport_keeps_image {s : State} (h : ImageMatches s) : ImageMatches (integrateReport s) := by
  unfold integrateReport
  split
  · exact h
  · next c _ =>
    simp only []
    generalize hem : (if c.report.running = true then Em.integrateTime c (min (reportInterval s c) 1000)
      (Em.integrateFuel c (reportInterval s c) s.em) else Em.integrateFuel c (reportInterval s c) s.em) = em
    have settings : em.settings = s.em.settings := by rw [← hem]; split_ifs <;> rfl
    refine anyOrder_keeps (fun s h => h) _ _ (fun f m u hu => ?_)
      (h.of_stored (Stored.of_markedIf (s := s) rfl fun same => ?_))
    · simp only [List.mem_cons, List.not_mem_nil, or_false] at m
      rcases m with rfl | rfl | rfl | rfl
      · exact hu.of_stored (.of_keeps (chargeFuel_keepsAll _ u) ((chargeFuel_frame _ u).rs rfl))
      all_goals exact hu.of_stored (takeIncrement_stored _ _ u)
    · simp only [Em.countsDiffer, Bool.or_eq_false_iff, bne_eq_false_iff_eq] at same
      obtain ⟨⟨⟨fuel, engine⟩, weighted⟩, histogram⟩ := same
      simp [retainedOf, settings, fuel, engine, weighted, histogram]

theorem turnTaken_stored (n : Nat) (s : State) : Stored s
    (takeIncrement .slewTurns n (markRetained (onSl (fun sl => { sl with travel := sl.travel - n, turns := sl.turns + 1 }) s))) := by
  have marked (f : Sl → Sl) : Stored s (markRetained (onSl f s)) := .inr rfl
  exact (marked _).trans (takeIncrement_stored _ _ _)

theorem countTurn_stored (s : State) : Stored s (countTurn s) := turnTaken_stored 65536 s

theorem onSl_stored {f : Sl → Sl} (h : ∀ sl, (f sl).settings = sl.settings ∧ (f sl).turns = sl.turns) (s : State) :
    Stored s (onSl f s) := by
  obtain ⟨settings, turns⟩ := h s.sl
  exact .inl ⟨by simp [retainedOf, settings, turns], rfl⟩

theorem readSlewTravel_stored (x : Sample) (s : State) : Stored s (readSlewTravel x s) := by
  unfold readSlewTravel
  simp only []
  split
  · exact Stored.refl s
  · split
    · exact onSl_stored (by intro; exact ⟨rfl, rfl⟩) s
    · split
      · exact (onSl_stored (by intro; exact ⟨rfl, rfl⟩) s).trans (countTurn_stored _)
      · exact onSl_stored (by intro; exact ⟨rfl, rfl⟩) s

theorem writeTables_stored (a : Vector Int 8) (b : Vector Nat 8) (s : State) : Stored s (writeTables a b s) := by
  refine Stored.of_markedIf rfl fun same => ?_
  simp only [Bool.or_eq_false_iff, bne_eq_false_iff_eq] at same
  obtain ⟨rfl, rfl⟩ := same
  rfl

theorem judgeStep_stored (r : Run) (w : Window) (s : State) : Stored s (judgeStep r w s) := by
  obtain ⟨u, hu, h⟩ := judgeStep_cases r w s
  have hu : Stored s u := by
    rcases hu with rfl | ⟨r', rfl⟩ | ⟨a, b, rfl⟩
    · exact Stored.refl _
    · exact .inl ⟨rfl, rfl⟩
    · exact writeTables_stored a b s
  rcases h with h | ⟨r', o, h⟩ <;> rw [h]
  · exact hu.trans (.of_keeps (nextStep_keepsAll u) ((nextStep_frame u).rs rfl))
  · exact hu.trans (.of_keeps (endRun_keepsAll _ _ u) ((endRun_frame _ _ u).rs rfl))

theorem hardFail_stored (cause : RunFailure) (s : State) : Stored s (hardFail cause s) :=
  .of_keeps (hardFail_keepsAll cause s) ((hardFail_frame cause s).rs rfl)

theorem evaluateSlew_stored (s : State) : Stored s (evaluateSlew s) :=
  .of_keeps (evaluateSlew_keepsAll s) ((evaluateSlew_frame s).rs rfl)

theorem replaceGeometry_stored (g : Geometry) (s : State) : Stored s (replaceGeometry g s) := by
  refine Stored.of_markedIf rfl fun same => ?_
  simp only [bne_eq_false_iff_eq] at same
  subst same
  rfl

/-- Whether the content of an entry is another record is what the mark goes by (R59, R60). -/
theorem replaceZone_keeps_image (k : Fin 16) (z : Option Zone) {s : State} (h : ImageMatches s) :
    ImageMatches (replaceZone k z s) := by
  unfold replaceZone
  simp only []
  refine anyOrder_keeps (fun s h => h) _ _ (fun f m u hu => ?_) (h.of_stored (Stored.of_markedIf (s := s) rfl fun same => ?_))
  · rcases mem_ite_append_singleton m with rfl | rfl
    · exact hu.of_stored (.of_keeps (settleUnanchored_keepsAll u) ((settleUnanchored_frame u).rs rfl))
    · exact hu.of_stored ((Stored.of_keeps (forgetZone_keepsAll k u) ((forgetZone_frame k u).rs rfl)).trans
        (evaluateSlew_stored _))
  · simp only [bne_eq_false_iff_eq] at same
    have zones : zoneRecordsOf (onZone k (fun _ => { held := z }) s).zt = zoneRecordsOf s.zt := by
      refine zoneRecordsOf_congr fun i => ?_
      have at' : (onZone k (fun _ => { held := z }) s).zt.zones[i] =
          if k.val = i.val then { held := z } else s.zt.zones[i] := by
        simp only [onZone, Fin.getElem_fin, Vector.getElem_set]
      rw [at']
      split_ifs with e
      · obtain rfl : k = i := Fin.ext e
        exact same.symm
      · rfl
    unfold retainedOf
    rw [zones]; rfl

theorem reanchored_zero (a : Authority) (e : ZoneEntry) :
    (ZoneEntry.reanchored a 0 e).held.map Zone.record = e.held.map Zone.record := by
  unfold ZoneEntry.reanchored
  split
  · rfl
  · next z hz =>
    split
    · simp [hz]
    · rfl

theorem reanchorZones_stored (d : Angle) (s : State) : Stored s (reanchorZones d s) := by
  have after (u : State) : Stored u (evaluateSlew (settleUnanchored (zoneNotices
      (fun k => if reanchorArms s.mlu.authority s.zt.zones[k] then some (.reArmed .reanchor) else none) u))) :=
    ((Stored.of_keeps (zoneNotices_keepsAll _ u) ((zoneNotices_frame _ u).rs rfl)).trans
      (.of_keeps (settleUnanchored_keepsAll _) ((settleUnanchored_frame _).rs rfl))).trans (evaluateSlew_stored _)
  refine Stored.trans ?_ (after _)
  split_ifs with zero
  · subst zero
    exact .of_keeps (mapZones_keepsAll (reanchored_zero _) s) rfl
  · exact .inr rfl

theorem writeClass_stored (i : Fin 16) (c : TruckClass) (s : State) : Stored s (writeClass i c s) := by
  refine Stored.of_markedIf rfl fun same => ?_
  simp only [bne_eq_false_iff_eq] at same
  subst same
  have classes : s.lr.classes.set i s.lr.classes[i] = s.lr.classes := Vector.set_getElem_self ..
  simp only [retainedOf, onLr_lr, classes]
  rfl

theorem clearCounters_stored (s : State) : Stored s (clearCounters s) := by
  refine Stored.of_markedIf rfl fun same => ?_
  have zero : s.em.histogram = Vector.replicate 8 0 := by
    ext i hi
    have := List.any_eq_false.1 same _ (Vector.mem_toList_iff.2 (Vector.getElem_mem hi))
    simpa using this
  simp only [retainedOf, onEm_em, ← zero]
  rfl

theorem replaceItem_stored (i : Fin 24) (item : Option ServiceItem) (s : State) : Stored s (replaceItem i item s) := by
  refine Stored.of_markedIf rfl fun same => ?_
  simp only [bne_eq_false_iff_eq] at same
  have items : itemsOf (setEntry i (item.map entryOf) s).st = itemsOf s.st := by
    ext1 k hk
    simp only [itemsOf, setEntry, Vector.getElem_map, Vector.getElem_set]
    split_ifs with e
    · subst e
      cases item <;> simpa [entryOf] using same.symm
    · rfl
  unfold retainedOf
  rw [items]; rfl

theorem settleReplaced_stored (i : Fin 24) (item : Option ServiceItem) (s : State) :
    Stored s (settleCap (replaceItem i item s)) := (replaceItem_stored i item s).trans (settleCap_stored _)

theorem serviceAckOwner_stored (body : List Byte) (s : State) : Stored s (serviceAckOwner body s).1 := by
  unfold serviceAckOwner
  rcases withFields_cases serviceAck? _ body s with e | ⟨is, -, e⟩ <;> rw [e]
  · exact Stored.refl s
  · simp only []
    split_ifs with none'
    · refine .inl ⟨?_, rfl⟩
      have unreached (i : Fin 24) : ackReaches is i s.st.entries[i] = false := by
        have := List.countP_eq_zero.1 none' i (List.mem_finRange i)
        simpa using this
      have same : (s.st.entries.mapFinIdx fun i e h => if ackReaches is ⟨i, h⟩ e = true then
          e.map ServiceEntry.clearAttention else e) = s.st.entries := by
        ext1 i hi
        have := unreached ⟨i, hi⟩
        simp only [Fin.getElem_fin] at this
        simp [this]
      simp only [same]
    · exact .inr rfl

/-! ## Commits -/

theorem beginCommit_matches (who : Requester) (s : State) : ImageMatches (beginCommit who s) :=
  ⟨fun _ => rfl, le_rfl, Nat.le_add_left 1 2⟩

theorem requestCommit_keeps_image {s : State} (h : ImageMatches s) : ImageMatches (requestCommit s) := by
  unfold requestCommit
  split_ifs
  · exact h
  · exact beginCommit_matches _ s

theorem ModeMoved.stored {s : State} {f : Em → Em} (h : ModeMoved s.em (f s.em)) : Stored s (onEm f s) :=
  .of_keeps (h.keepsAll ((onEm_frame f s).touchesWithin rfl)) rfl

theorem settleAdvice_stored (s : State) : Stored s (settleAdvice s) :=
  .of_keeps (settleAdvice_keepsAll s) ((settleAdvice_frame s).rs rfl)

theorem testShutdown_keeps_image {s : State} (h : ImageMatches s) : ImageMatches (testShutdown s) := by
  have waits (w : CommitWait) {u : State} (hu : ImageMatches u) : ImageMatches (onEm (fun em => { em with wait := w }) u) :=
    hu.of_stored (ModeMoved.stored (f := fun em => { em with wait := w }) rfl)
  unfold testShutdown
  split_ifs
  · have pending := h.of_stored (ModeMoved.stored (setMode_moved s.now .shutdownPending s.em))
    unfold enterPending
    simp only []
    split
    · exact pending.of_stored (ModeMoved.stored (setMode_moved _ .shutdownAdvised _))
    · exact waits .own (requestCommit_keeps_image pending)
    · exact waits .own (requestCommit_keeps_image pending)
    · exact waits .prior pending
  · exact h.of_stored (ModeMoved.stored (f := fun em => { em with deferred := true }) rfl)

theorem expireShutdown_keeps_image (start : Stamp) {s : State} (h : ImageMatches s) :
    ImageMatches (expireShutdown start s) :=
  testShutdown_keeps_image (h.of_stored (ModeMoved.stored (f := fun em => { em with shutdownTimer := .expired start }) rfl))

theorem reworkShutdown_keeps_image {s : State} (h : ImageMatches s) : ImageMatches (reworkShutdown s) := by
  unfold reworkShutdown
  split
  · split_ifs
    · exact expireShutdown_keeps_image _ h
    · exact h.of_stored (.inl ⟨rfl, rfl⟩)
  · exact h

theorem writeEconomy_keeps_image (x : EconomySettings) {s : State} (h : ImageMatches s) :
    ImageMatches (writeEconomy x s) := by
  unfold writeEconomy
  simp only []
  have stored : ImageMatches (if (x != s.em.settings) = true then markRetained (onEm (fun em => { em with settings := x }) s)
      else onEm (fun em => { em with settings := x }) s) := by
    refine h.of_stored (Stored.of_markedIf (s := s) rfl fun same => ?_)
    simp only [bne_eq_false_iff_eq] at same
    subst same
    rfl
  generalize (if (x != s.em.settings) = true then markRetained (onEm (fun em => { em with settings := x }) s)
    else onEm (fun em => { em with settings := x }) s) = u at stored ⊢
  have idle := stored.of_stored (.of_keeps (reworkIdle_keepsAll u) ((reworkIdle_frame u).rs rfl))
  have worked := reworkShutdown_keeps_image idle
  generalize reworkShutdown (reworkIdle u) = v at worked ⊢
  refine (worked.of_stored (ModeMoved.stored (f := fun em =>
    if (!em.settings.ecoEnable && em.mode == .eco) = true then Em.setMode v.now .work em else em) ?_)).of_stored
      (settleAdvice_stored _)
  split_ifs
  · exact setMode_moved _ _ _
  · exact ModeMoved.refl _

theorem reportModeSteps_keeps_image (r : EngineReport) {s : State} (h : ImageMatches s) :
    ImageMatches (reportModeSteps r s) := by
  unfold reportModeSteps
  split
  · exact h.of_stored (ModeMoved.stored (f := Em.stop) rfl)
  · split
    · exact h.of_stored (ModeMoved.stored (setMode_moved _ _ _))
    · split
      · exact testShutdown_keeps_image h
      · exact h
    · exact h

theorem takeReport_keeps_image (r : EngineReport) {s : State} (h : ImageMatches s) : ImageMatches (takeReport r s) := by
  have copied := (integrateReport_keeps_image h).of_stored (t := onEm (fun em => { em with copy := some {
    report := r, stamp := (integrateReport s).now } }) (integrateReport s)) (.inl ⟨rfl, rfl⟩)
  exact (reportModeSteps_keeps_image r copied).of_stored (settleAdvice_stored _)

theorem takeCommitEnd_keeps_image (failed : Bool) {s : State} (h : ImageMatches s) :
    ImageMatches (takeCommitEnd failed s) := by
  unfold takeCommitEnd
  split
  · exact h
  · exact ((requestCommit_keeps_image h).of_stored (ModeMoved.stored (f := fun em => { em with wait := .own }) rfl)).of_stored
      (settleAdvice_stored _)
  · refine (h.of_stored (ModeMoved.stored (f := fun em =>
      { Em.setMode s.now .shutdownAdvised em with wait := .none, failed := failed }) ?_)).of_stored (settleAdvice_stored _)
    exact (setMode_moved s.now .shutdownAdvised s.em).trans (by rfl)

theorem commitOwner_keeps_image (body : List Byte) {s : State} (h : ImageMatches s) :
    ImageMatches (commitOwner body s).1 := by
  unfold commitOwner
  split_ifs
  · exact h
  · exact beginCommit_matches _ s

/-- The interpreter's checks refuse without a change, or the owner has its effect (R172). -/
theorem checkedOwner_cases (kind : Byte) (level : Authority) (ok : List Byte → Bool) (owner : Owner) (body : List Byte)
    (s : State) : (checkedOwner kind level ok owner body s).1 = s ∨
      (checkedOwner kind level ok owner body s).1 = (owner body s).1 := by
  unfold checkedOwner
  split_ifs <;> simp

theorem commitRace_keeps_image {s : State} (h : ImageMatches s) : ImageMatches (commitRace s) := by
  unfold commitRace
  split
  · next f _ _ =>
    simp only []
    split_ifs
    · have taken : ImageMatches (takeFrame { s with choices := s.choices + 1 }) := h
      refine ImageMatches.of_touches (placeReply_touches {} _ _) ?_
      rcases checkedOwner_cases 0x03 .operator (lengthIs 0) commitOwner f.body (takeFrame { s with
        choices := s.choices + 1 }) with e | e <;> rw [e]
      · exact taken
      · exact commitOwner_keeps_image _ taken
    · exact h
  · exact h

/-- A commit that ends leaves CLEAN only with the image read back equal to its snapshot and no mark taken (R164, R165). -/
theorem endCommit_image (r : CommitRecord) (done : Bool) {s : State}
    (clean : done = true → s.rs.changed = false → s.rs.image = snapshotImage (retainedOf s)) :
    ImageMatches (endCommit r done s) := by
  unfold endCommit
  refine takeCommitEnd_keeps_image _ (commitRace_keeps_image (ImageMatches.of_touches (queueNotice_frame _ _).touches ?_))
  unfold ImageMatches stateAfterCommit
  cases done with
  | false => trivial
  | true =>
    cases changed : s.rs.changed with
    | true => trivial
    | false => exact clean rfl changed

theorem endAttempt_keeps_image (written : Bool) (image : Image) {r : CommitRecord} {s : State}
    (state : s.rs.state = .committing r) (h : ImageMatches s) : ImageMatches (endAttempt written image r s) := by
  unfold ImageMatches at h
  rw [state] at h
  obtain ⟨snapshot, first, last⟩ := h
  unfold endAttempt
  simp only []
  split_ifs with success again
  · simp only [attemptSucceeds, Bool.and_eq_true, decide_eq_true_eq] at success
    refine endCommit_image r true fun _ unchanged => ?_
    have same : retainedOf { s with rs := { s.rs with image := image } } = retainedOf s := rfl
    rw [same, ← snapshot unchanged]
    exact success.2
  · exact ⟨snapshot, Nat.le_add_left 1 _, again⟩
  · exact endCommit_image r false fun e => by cases e

/-! ## The resets -/

/-- The blocks after a reset hold the content they were given (R161, R166). -/
theorem retainedOf_resetState (r : Retained) (un : Fin 16 → Bool) (rs : Rs) (rate : LinkRate) (tx : Transmitter)
    (started : Notice) (s : State) : retainedOf (resetState r un rs rate tx started s) = r := by
  have channels : (resetChannels r).map Channel.settings = r.channels := by
    ext1 i hi
    simp [resetChannels, ChannelSettings.freshChannel]
  have zones : zoneRecordsOf (resetZones r.zones un) = r.zones := by
    ext1 i hi
    simp [zoneRecordsOf, resetZones, resetZone, Function.comp_def]
  have items : itemsOf (resetService r) = r.items := by
    ext1 i hi
    simp [itemsOf, resetService, entryOf, Function.comp_def]
  have whole : retainedOf (resetState r un rs rate tx started s) = { r with
      channels := (resetChannels r).map Channel.settings, zones := zoneRecordsOf (resetZones r.zones un)
      items := itemsOf (resetService r) } := rfl
  rw [whole, channels, zones, items]

theorem powerOn_image (strap : Bool) (s : State) : ImageMatches (powerOn strap s) := by
  unfold ImageMatches
  have content : retainedOf (powerOn strap s) = loadedContent s.rs.image := retainedOf_resetState ..
  have rs : (powerOn strap s).rs = 
      ⟨s.rs.image, if imageSound s.rs.image then .clean else .dirty, false, false, none⟩ := rfl
  rw [rs, content]
  cases sound : imageSound s.rs.image with
  | false => trivial
  | true =>
    simp only [if_true, loadedContent, sound]
    simp only [imageSound, Bool.and_eq_true, beq_iff_eq] at sound
    obtain ⟨layout, check⟩ := sound
    cases h : s.rs.image
    simp_all [snapshotImage]

theorem restartReset_image {s : State} (idle : s.rs.state.isCommitting = false) (h : ImageMatches s) :
    ImageMatches (restartReset s) := by
  unfold ImageMatches at h ⊢
  have content : retainedOf (restartReset s) = retainedOf s := retainedOf_resetState ..
  have rs : (restartReset s).rs = ⟨s.rs.image, s.rs.state, false, false, none⟩ := rfl
  rw [rs, content]
  cases state : s.rs.state with
  | clean => rw [state] at h; exact h
  | dirty => trivial
  | failed => trivial
  | committing r => rw [state] at idle; cases idle

/-- A RESTART takes effect only with no commit in flight and no reply outstanding (R167). -/
theorem restartTakesEffect_cases {s t : State} (e : exec .restartTakesEffect s = .next t) :
    t = s ∨ (s.powered = true ∧ s.rs.restartPending = true ∧ s.rs.state.isCommitting = false ∧
      replyOutstanding s.lc = false ∧ t = restartReset s) := by
  change execRestartTakesEffect s = _ at e
  unfold execRestartTakesEffect at e
  rcases eq_or_of_whenDue e with rfl | ⟨due, rfl⟩
  · exact .inl rfl
  · simp only [Bool.and_eq_true, Rs.restartDue, Bool.not_eq_true'] at due
    obtain ⟨⟨powered, pending, idle⟩, reply⟩ := due
    exact .inr ⟨powered, pending, idle, reply, rfl⟩

theorem powerOn_cases {strap : Bool} {s t : State} (e : exec (.powerOn strap) s = .next t) :
    t = s ∨ (s.powered = false ∧ t = powerOn strap s) := by
  rcases eq_or_of_whenDue (due := !s.powered) (f := powerOn strap) e with rfl | ⟨due, rfl⟩
  · exact .inl rfl
  · exact .inr ⟨by simpa using due, rfl⟩

theorem powerLoss_cases {left : Image} {s t : State} (e : exec (.powerLoss left) s = .next t) :
    t = s ∨ (s.powered = true ∧ t = unpowered (imageAfterLoss s.rs left) s) := by
  rcases eq_or_of_whenDue (due := s.powered) (f := unpowered (imageAfterLoss s.rs left)) e with rfl | ⟨due, rfl⟩
  · exact .inl rfl
  · exact .inr ⟨due, rfl⟩

/-! ## Every command -/

theorem arriveFrame_keeps_image (ch : Fin 6) (bytes : List Byte) {s : State} (h : ImageMatches s) :
    ImageMatches (arriveFrame ch bytes s) := by
  refine arriveFrame_keeps (fun s h => h) ch bytes (fun a b x f m u hu => ?_)
    (h.of_stored (.of_keeps (onChannel_keepsAll ch (by rw [afterFrame_settings])) rfl))
  simp only [List.mem_cons, List.not_mem_nil, or_false] at m
  rcases m with rfl | rfl | rfl | rfl | rfl | rfl
  · exact hu
  · exact hu.of_stored (.of_keeps (requestComputation_keepsAll u) ((requestComputation_frame u).rs rfl))
  · exact hu.of_stored (.of_keeps (deliverHealthToSl_keepsAll b u) ((deliverHealthToSl_frame b u).rs rfl))
  · exact hu.of_stored (.of_keeps (deliverHealthToCt_keepsAll b u) ((deliverHealthToCt_frame b u).rs rfl))
  · exact hu.of_stored (readSlewTravel_stored x u)
  · exact hu.of_stored (.of_keeps (drainPressure_keepsAll u) ((drainPressure_frame u).rs rfl))

theorem completePose_keeps_image (c : Computation) {s : State} (h : ImageMatches s) : ImageMatches (completePose c s) := by
  unfold completePose
  simp only []
  generalize assemblePose s.ps c s.now = p
  have ended : ImageMatches (onPs (fun ps => { ps with pose := p, inFlight := none }) s) := h.of_stored (.inl ⟨rfl, rfl⟩)
  have dug := ended.of_stored (.of_keeps (settleOverdig_keepsAll p _) ((settleOverdig_frame p _).rs rfl))
  have served := dug.of_stored (.of_keeps (serveTip_keepsAll p _) ((serveTip_frame p _).rs rfl))
  refine ImageMatches.of_stored (.of_keeps (startPending_keepsAll _) ((startPending_frame _).rs rfl)) ?_
  refine deliverPose_keeps (fun s h => h) _ _ (fun f m u hu => ?_)
    (served.of_stored (.of_keeps (takePoseAtCt_keepsAll p _) ((takePoseAtCt_frame p _).rs rfl)))
  simp only [List.mem_cons, List.not_mem_nil, or_false] at m
  rcases m with rfl | rfl | rfl | rfl | rfl
  · exact hu.of_stored (.of_keeps (deliverPoseToSl_keepsAll p u) ((deliverPoseToSl_frame p u).rs rfl))
  · exact hu.of_stored (hardFail_stored _ u)
  · exact arrivePass_keeps_image _ hu
  · exact hu.of_stored (.of_keeps (takeActivity_keepsAll u) ((takeActivity_frame u).rs rfl))
  · exact hu.of_stored (.of_keeps (takePhaseChange_keepsAll _ u) ((takePhaseChange_frame _ u).rs rfl))

theorem changeChannel_keeps_image (ch : Fin 6) {f : Channel → Channel} {s : State}
    (h : ImageMatches (onChannel ch f s)) : ImageMatches (changeChannel ch f s) :=
  h.of_stored (.of_keeps (healthDeliveries_keepsAll ch _ _ _) ((changeChannel_frame ch f s).rs rfl))

theorem channelSetOwner_keeps_image (body : List Byte) {s : State} (h : ImageMatches s) :
    ImageMatches (channelSetOwner body s).1 := by
  rcases channelSetOwner_cases body s with e | ⟨ch, new, -, e⟩ <;> rw [e]
  · exact h
  · have settings (c : Channel) : (Channel.reset new (frameComesNext ch s) c).settings = new := by
      unfold Channel.reset; simp only []; split_ifs <;> rfl
    by_cases differs : new = s.scu[ch].settings
    · have same : (new != s.scu[ch].settings) = false := by simp [differs]
      simp only [same, Bool.false_eq_true, if_false]
      refine h.of_stored (.of_keeps (changeChannel_keepsAll ch ?_) ((changeChannel_frame ch _ s).rs rfl))
      rw [settings, differs]
    · have same : (new != s.scu[ch].settings) = true := bne_iff_ne.2 differs
      simp only [same, if_true]
      exact h.of_stored (.inr ((changeChannel_frame ch _ _).rs rfl))

theorem geometrySetOwner_keeps_image (body : List Byte) {s : State} (h : ImageMatches s) :
    ImageMatches (geometrySetOwner body s).1 := by
  unfold geometrySetOwner
  rcases withFields_cases geometrySet? _ body s with e | ⟨g, -, e⟩ <;> rw [e]
  · exact h
  · refine ImageMatches.of_stored (.of_keeps (requestComputation_keepsAll _) ((requestComputation_frame _).rs rfl))
      (anyOrder_keeps (fun s h => h) _ _ (fun f m u hu => ?_) h)
    rcases List.mem_cons.1 m with rfl | m
    · exact hu.of_stored (replaceGeometry_stored g u)
    · obtain ⟨-, rfl⟩ := mem_ite_singleton m
      exact hu.of_stored (hardFail_stored _ u)

theorem slewSettingsOwner_stored (body : List Byte) (s : State) : Stored s (slewSettingsOwner body s).1 := by
  rcases slewSettingsOwner_cases body s with e | ⟨new, -, e⟩ <;> rw [e]
  · exact Stored.refl s
  · have stored := Stored.of_markedIf (s := s) (u := onSl (fun sl => { sl with settings := new }) s)
      (b := new != s.sl.settings) rfl fun same => by rw [bne_eq_false_iff_eq.1 same]; rfl
    exact stored.trans (evaluateSlew_stored _)

theorem cycleSettingsOwner_stored (body : List Byte) (s : State) : Stored s (cycleSettingsOwner body s).1 := by
  unfold cycleSettingsOwner
  rcases withFields_cases cycleSettings? _ body s with e | ⟨op, -, e⟩ <;> rw [e]
  · exact Stored.refl s
  · cases op with
    | read => exact Stored.refl s
    | write c =>
      have stored := Stored.of_markedIf (s := s) (u := onCt (fun ct => { ct with settings := c }) s)
        (b := c != s.ct.settings) rfl fun same => by rw [bne_eq_false_iff_eq.1 same]; rfl
      exact stored.trans (hardFail_stored _ _)

theorem truckClassOwner_stored (body : List Byte) (s : State) : Stored s (truckClassOwner body s).1 := by
  unfold truckClassOwner
  rcases withFields_cases truckClassSet? _ body s with e | ⟨op, -, e⟩ <;> rw [e]
  · exact Stored.refl s
  · cases op with
    | read => exact Stored.refl s
    | write a =>
      simp only []
      split_ifs
      · exact Stored.refl s
      · exact writeClass_stored _ _ s

theorem serviceItemOwner_stored (body : List Byte) (s : State) : Stored s (serviceItemOwner body s).1 := by
  unfold serviceItemOwner
  rcases withFields_cases serviceItemSet? _ body s with e | ⟨⟨i, d⟩, -, e⟩ <;> rw [e]
  · exact Stored.refl s
  · exact settleReplaced_stored i _ s

theorem serviceDoneOwner_stored (body : List Byte) (s : State) : Stored s (serviceDoneOwner body s).1 := by
  unfold serviceDoneOwner
  rcases withFields_cases (fun b => index? 24 (u8 b 0)) _ body s with e | ⟨i, -, e⟩ <;> rw [e]
  · exact Stored.refl s
  · split
    · exact Stored.refl s
    · exact settleReplaced_stored i _ s

theorem serviceSuspendOwner_stored (body : List Byte) (s : State) : Stored s (serviceSuspendOwner body s).1 := by
  unfold serviceSuspendOwner
  rcases withFields_cases serviceSuspend? _ body s with e | ⟨⟨i, on⟩, -, e⟩ <;> rw [e]
  · exact Stored.refl s
  · simp only []
    split
    · exact Stored.refl s
    · simp only []
      split_ifs
      · exact Stored.refl s
      · exact settleReplaced_stored i _ s

theorem exec_keeps_image {c : Instr} {s t : State} (hs : ImageMatches s) (e : exec c s = .next t) : ImageMatches t := by
  have touches {s t : State} (h : Touches {} s t) (hs : ImageMatches s) : ImageMatches t := hs.of_touches h
  cases c with
  | restartTakesEffect =>
    rcases restartTakesEffect_cases e with rfl | ⟨-, -, idle, -, rfl⟩
    · exact hs
    · exact restartReset_image idle hs
  | powerOn strap =>
    rcases powerOn_cases e with rfl | ⟨-, rfl⟩
    · exact hs
    · exact powerOn_image strap s
  | powerLoss left =>
    rcases powerLoss_cases e with rfl | ⟨-, rfl⟩
    · exact hs
    · trivial
  | sensorFrameArrival ch char =>
    rcases sensorFrameArrival_cases e with rfl | ⟨bytes, -, -, -, rfl⟩
    · exact hs
    · exact arriveFrame_keeps_image ch _ hs
  | poseCompletion =>
    rcases poseCompletion_cases e with rfl | ⟨c, -, rfl⟩
    · exact hs
    · exact completePose_keeps_image c hs
  | calibrationStepEnd =>
    rcases calibrationStepEnd_cases e with rfl | ⟨r, w, -, -, rfl⟩
    · exact hs
    · exact hs.of_stored (judgeStep_stored r w s)
  | channelSet tag body => exact interpret_keeps touches e (fun _ h => channelSetOwner_keeps_image body h) hs
  | geometrySet tag body => exact interpret_keeps touches e (fun _ h => geometrySetOwner_keeps_image body h) hs
  | zoneWrite tag body =>
    refine interpret_keeps touches e (fun u hu => ?_) hs
    rcases zoneWriteOwner_cases body u with h | ⟨k, z, -, h⟩ <;> rw [h]
    · exact hu
    · exact replaceZone_keeps_image k z hu
  | zoneClear tag body =>
    refine interpret_keeps touches e (fun u hu => ?_) hs
    rcases zoneClearOwner_cases body u with h | ⟨k, h⟩ <;> rw [h]
    · exact hu
    · exact replaceZone_keeps_image k none hu
  | reanchor tag body =>
    refine interpret_keeps touches e (fun u hu => ?_) hs
    rcases reanchorOwner_cases body u with h | ⟨d, h⟩ <;> rw [h]
    · exact hu
    · exact hu.of_stored (reanchorZones_stored d u)
  | slewSettings tag body =>
    exact interpret_keeps touches e (fun u hu => hu.of_stored (slewSettingsOwner_stored body u)) hs
  | cycleSettings tag body =>
    exact interpret_keeps touches e (fun u hu => hu.of_stored (cycleSettingsOwner_stored body u)) hs
  | truckClassSet tag body =>
    exact interpret_keeps touches e (fun u hu => hu.of_stored (truckClassOwner_stored body u)) hs
  | engineReport tag body => exact interpret_keeps touches e (fun _ h => takeReport_keeps_image _ h) hs
  | countersRead tag body =>
    refine interpret_keeps touches e (fun u hu => ?_) hs
    unfold countersOwner
    rcases withFields_cases (fun b => flag? (u8 b 0)) _ body u with h | ⟨clear, -, h⟩ <;> rw [h]
    · exact hu
    · cases clear
      · exact hu
      · exact hu.of_stored (clearCounters_stored u)
  | economySet tag body =>
    refine interpret_keeps touches e (fun u hu => ?_) hs
    unfold economyOwner
    rcases withFields_cases economySet? _ body u with h | ⟨op, -, h⟩ <;> rw [h]
    · exact hu
    · cases op with
      | read => exact hu
      | write x => exact writeEconomy_keeps_image x hu
  | idleTimerExpiry =>
    change execIdleTimerExpiry s = _ at e
    unfold execIdleTimerExpiry at e
    rcases eq_or_of_whenDue e with rfl | ⟨-, rfl⟩
    · exact hs
    · exact (hs.of_stored (ModeMoved.stored (setMode_moved s.now .autoIdle s.em))).of_stored (settleAdvice_stored _)
  | shutdownTimerExpiry =>
    rcases shutdownTimerExpiry_cases e with rfl | ⟨start, -, -, rfl⟩
    · exact hs
    · exact (expireShutdown_keeps_image start hs).of_stored (settleAdvice_stored _)
  | serviceItemSet tag body =>
    exact interpret_keeps touches e (fun u hu => hu.of_stored (serviceItemOwner_stored body u)) hs
  | serviceAck tag body =>
    exact interpret_keeps touches e (fun u hu => hu.of_stored (serviceAckOwner_stored body u)) hs
  | serviceDone tag body =>
    exact interpret_keeps touches e (fun u hu => hu.of_stored (serviceDoneOwner_stored body u)) hs
  | serviceSuspend tag body =>
    exact interpret_keeps touches e (fun u hu => hu.of_stored (serviceSuspendOwner_stored body u)) hs
  | commit tag body => exact interpret_keeps touches e (fun _ h => commitOwner_keeps_image body h) hs
  | restart tag body => exact interpret_keeps touches e (fun _ h => h) hs
  | commitAttemptEnd written image =>
    rcases commitAttemptEnd_cases e with rfl | ⟨r, state, rfl⟩
    · exact hs
    · exact endAttempt_keeps_image written image state hs
  | _ =>
    exact hs.of_stored (.inl ⟨(exec_keepsAll id e).retained rfl, (exec_touches id e).rs rfl⟩)

/-- Settles O16: each operation that changes retained content marks the store, and a commit's snapshot is the content as it
stands. -/
theorem stepKeepsImageMatching : Obligations.StepKeepsImageMatching := by
  intro s t hs h
  rcases step_cases h with rfl | ⟨c, q, e⟩
  · exact hs.of_touches ((tick_touches s))
  · exact exec_keeps_image (s := s.withPending q) hs e

end Sys2Proof.Machine

/-! PROOFS. What every step keeps of the zones: what the operations leave of them, the unanchored count (R69), and the authority with
the zones SUSPENDED under it (R28, R64). -/

namespace Sys2Proof.Machine

/-! ## What is left of the zones and of the cuts -/

/-- The zones held, with the count and the alarm of the UNANCHORED ones, and the authority stay. -/
structure SameZones (s t : State) : Prop where
  inputs     : t.mlu.inputs = s.mlu.inputs
  authority  : t.mlu.authority = s.mlu.authority
  alarm      : t.mlu.slots.zt = s.mlu.slots.zt
  held       : ∀ k : Fin 16, t.zt.zones[k].held = s.zt.zones[k].held
  unanchored : t.zt.unanchored = s.zt.unanchored

/-- So do the cuts: the lines, the slew state with its alarm request, the marks, and all that an evaluation reads. -/
structure SameCuts (s t : State) : Prop extends SameZones s t where
  request  : t.mlu.slots.sl = s.mlu.slots.sl
  lines    : t.mlu.cutLines = s.mlu.cutLines
  copy     : t.mlu.cutCopy = s.mlu.cutCopy
  settings : t.sl.settings = s.sl.settings
  pose     : t.sl.pose = s.sl.pose
  health   : t.sl.health = s.sl.health
  marks    : t.sl.marks = s.sl.marks
  state    : t.sl.state = s.sl.state
  cutSet   : t.sl.cutSet = s.sl.cutSet
  causes   : t.sl.causes = s.sl.causes

theorem SameZones.refl (s : State) : SameZones s s := ⟨rfl, rfl, rfl, fun _ => rfl, rfl⟩

theorem SameZones.trans {s t u : State} (h : SameZones s t) (k : SameZones t u) : SameZones s u :=
  ⟨k.inputs.trans h.inputs, k.authority.trans h.authority, k.alarm.trans h.alarm, fun i => (k.held i).trans (h.held i),
    k.unanchored.trans h.unanchored⟩

theorem SameCuts.refl (s : State) : SameCuts s s := ⟨SameZones.refl s, rfl, rfl, rfl, rfl, rfl, rfl, rfl, rfl, rfl, rfl⟩

theorem SameCuts.trans {s t u : State} (h : SameCuts s t) (k : SameCuts t u) : SameCuts s u where
  toSameZones := h.toSameZones.trans k.toSameZones
  request := k.request.trans h.request
  lines := k.lines.trans h.lines
  copy := k.copy.trans h.copy
  settings := k.settings.trans h.settings
  pose := k.pose.trans h.pose
  health := k.health.trans h.health
  marks := k.marks.trans h.marks
  state := k.state.trans h.state
  cutSet := k.cutSet.trans h.cutSet
  causes := k.causes.trans h.causes

theorem Touches.sameZones {b : Blocks} {s t : State} (h : Touches b s t) (mlu : b.mlu = false) (zt : b.zt = false) :
    SameZones s t := by
  have mlu := h.mlu mlu
  have zt := h.zt zt
  constructor <;> simp [mlu, zt]

theorem Touches.sameCuts {b : Blocks} {s t : State} (h : Touches b s t) (mlu : b.mlu = false) (zt : b.zt = false)
    (sl : b.sl = false) : SameCuts s t where
  toSameZones := h.sameZones mlu zt
  request := by rw [h.mlu mlu]
  lines := by rw [h.mlu mlu]
  copy := by rw [h.mlu mlu]
  settings := by rw [h.sl sl]
  pose := by rw [h.sl sl]
  health := by rw [h.sl sl]
  marks := by rw [h.sl sl]
  state := by rw [h.sl sl]
  cutSet := by rw [h.sl sl]
  causes := by rw [h.sl sl]

theorem Frame.sameZones {b : Blocks} {s t : State} (h : Frame b s t) (mlu : b.mlu = false) (zt : b.zt = false) :
    SameZones s t := h.touches.sameZones mlu zt

theorem onZone_held (k : Fin 16) {f : ZoneEntry → ZoneEntry} (h : ∀ e, (f e).held = e.held) (s : State) (i : Fin 16) :
    (onZone k f s).zt.zones[i].held = s.zt.zones[i].held := by
  simp only [onZone_zt, Fin.getElem_fin, Vector.getElem_set]
  split_ifs with e
  · rw [h]; simp [e]
  · rfl

theorem onZone_sameZones (k : Fin 16) {f : ZoneEntry → ZoneEntry} (h : ∀ e, (f e).held = e.held) (s : State) :
    SameZones s (onZone k f s) := ⟨rfl, rfl, rfl, onZone_held k h s, rfl⟩

theorem requestSlAlarm_sameZones (a : AlarmPattern) (s : State) : SameZones s (requestSlAlarm a s) := by
  obtain ⟨inputs, authority, -, -, slots, -⟩ := redrive_fields s.now { s.mlu with slots := { s.mlu.slots with sl := a } }
  exact ⟨inputs, authority, (congrArg AlarmSlots.zt slots).trans rfl, fun _ => rfl, rfl⟩

theorem requestPsAlarm_sameCuts (a : AlarmPattern) (s : State) : SameCuts s (requestPsAlarm a s) := by
  obtain ⟨inputs, authority, lines, copy, slots, -⟩ := redrive_fields s.now { s.mlu with slots := { s.mlu.slots with ps := a } }
  exact ⟨⟨inputs, authority, (congrArg AlarmSlots.zt slots).trans rfl, fun _ => rfl, rfl⟩, (congrArg AlarmSlots.sl slots).trans rfl, lines, copy,
    rfl, rfl, rfl, rfl, rfl, rfl, rfl⟩

/-- A request of the Zone Table leaves all but its own slot. -/
theorem requestZtAlarm_fields (a : AlarmPattern) (s : State) :
    (requestZtAlarm a s).mlu.inputs = s.mlu.inputs ∧ (requestZtAlarm a s).mlu.authority = s.mlu.authority ∧
      (requestZtAlarm a s).mlu.cutLines = s.mlu.cutLines ∧ (requestZtAlarm a s).mlu.cutCopy = s.mlu.cutCopy ∧
      (requestZtAlarm a s).mlu.slots = { s.mlu.slots with zt := a } := by
  obtain ⟨inputs, authority, lines, copy, slots, -⟩ := redrive_fields s.now { s.mlu with slots := { s.mlu.slots with zt := a } }
  exact ⟨inputs, authority, lines, copy, slots⟩

theorem settleIntrusion_sameZones (i : SlewInputs) (k : Fin 16) (b : Bool) (s : State) :
    SameZones s (settleIntrusion i k b s) := by
  unfold settleIntrusion
  simp only []
  split_ifs
  · split
    · exact SameZones.refl s
    · exact (onZone_sameZones k (by intro; rfl) s).trans ((queueNotice_frame _ _).sameZones rfl rfl)
  · exact (queueNotice_frame _ _).sameZones rfl rfl
  · exact SameZones.refl s

theorem countCuts_sameZones (a b : Bool) (c : LineCauses) (s : State) : SameZones s (countCuts a b c s) := by
  have each (l : List (Fin 16)) (s : State) : SameZones s (l.foldl (fun s k => onZone k ZoneEntry.countCut s) s) := by
    induction l generalizing s with
    | nil => exact SameZones.refl s
    | cons k l ih => exact (onZone_sameZones k (by intro; rfl) s).trans (ih _)
  unfold countCuts
  split_ifs
  · exact each _ _
  · exact SameZones.refl s

/-- An evaluation leaves the zones held as they are (R77 to R90). -/
theorem evaluateSlew_sameZones (s : State) : SameZones s (evaluateSlew s) := by
  refine evaluateSlew_keeps (P := SameZones s) (fun p u h => ?_) (SameZones.refl s)
  exact evaluateOn_keeps (P := SameZones s) (fun u h => h.trans ⟨rfl, rfl, rfl, fun _ => rfl, rfl⟩)
    (fun i k b u h => h.trans (settleIntrusion_sameZones i k b u))
    (fun f u h => h.trans ((onSl_frame f u).sameZones rfl rfl))
    (fun set u h => h.trans ⟨rfl, rfl, rfl, fun _ => rfl, rfl⟩)
    (fun a u h => h.trans (requestSlAlarm_sameZones a u)) (fun a b c u h => h.trans (countCuts_sameZones a b c u))
    (fun n u h => h.trans ((queueNotice_frame n u).sameZones rfl rfl)) p h

/-! ## What every step keeps of the zones and the cuts -/

/-- A property of the zones and the cuts that every operation on them keeps. -/
structure KeptByZoneWork (P : State → Prop) : Prop where
  same          : ∀ {s t : State}, SameCuts s t → P s → P t
  reading       : ∀ x s, PerInput.any (changesAt s.mlu x) = false → P s → P (takeReading x s)
  readInputs    : ∀ x s, P s → P (readInputs x s)
  deliverPose   : ∀ p s, P s → P (deliverPoseToSl p s)
  deliverHealth : ∀ h s, P s → P (deliverHealthToSl h s)
  replaceZone   : ∀ k z s, (∀ x ∈ z, x.state = writtenState x.record) → P s → P (replaceZone k z s)
  suspendZone   : ∀ (k : Fin 16) (z : Zone) s, s.zt.zones[k].held = some z → z.state = .armed →
    z.record.suspendLevel.rank ≤ s.mlu.authority.rank → P s → P (moveZone k .suspended s)
  resumeZone    : ∀ (k : Fin 16) (z : Zone) s, s.zt.zones[k].held = some z → z.state = .dormant ∨ z.state = .suspended →
    P s → P (moveZone k .armed s)
  reanchorZones : ∀ d s, P s → P (reanchorZones d s)
  slewSettings  : ∀ x s t, SameCuts (onSl (fun sl => { sl with settings := x }) s) t → P s → P (evaluateSlew t)
  fresh         : ∀ r un rs rate tx n s, P (resetState r un rs rate tx n s)
  unpowered     : ∀ image s, P (unpowered image s)

section
variable {P : State → Prop}

theorem KeptByZoneWork.touches (w : KeptByZoneWork P) {b : Blocks} {s t : State} (h : Touches b s t) (mlu : b.mlu = false)
    (zt : b.zt = false) (sl : b.sl = false) (hs : P s) : P t := w.same (h.sameCuts mlu zt sl) hs

theorem KeptByZoneWork.frame (w : KeptByZoneWork P) {b : Blocks} {s t : State} (h : Frame b s t) (mlu : b.mlu = false)
    (zt : b.zt = false) (sl : b.sl = false) (hs : P s) : P t := w.touches h.touches mlu zt sl hs

theorem KeptByZoneWork.choices (w : KeptByZoneWork P) (s : State) (hs : P s) : P { s with choices := s.choices + 1 } :=
  w.touches (b := {}) (by constructor <;> simp) rfl rfl rfl hs

/-- Travel and turns are no part of an evaluation (R92, R93). -/
theorem travel_sameCuts (prev : Option Angle) (travel : Nat) (turns : BitVec 32) (s : State) :
    SameCuts s (onSl (fun sl => { sl with prevAngle := prev, travel := travel, turns := turns }) s) :=
  ⟨⟨rfl, rfl, rfl, fun _ => rfl, rfl⟩, rfl, rfl, rfl, rfl, rfl, rfl, rfl, rfl, rfl, rfl⟩

theorem turnTaken_sameCuts (n : Nat) (s : State) : SameCuts s (takeIncrement .slewTurns n
    (markRetained (onSl (fun sl => { sl with travel := sl.travel - n, turns := sl.turns + 1 }) s))) :=
  ((travel_sameCuts s.sl.prevAngle (s.sl.travel - n) (s.sl.turns + 1) s).trans
    ((markRetained_frame _).touches.sameCuts rfl rfl rfl)).trans ((takeIncrement_frame .slewTurns n _).touches.sameCuts rfl rfl rfl)

theorem countTurn_sameCuts (s : State) : SameCuts s (countTurn s) := turnTaken_sameCuts 65536 s

theorem readSlewTravel_sameCuts (x : Sample) (s : State) : SameCuts s (readSlewTravel x s) := by
  unfold readSlewTravel
  simp only []
  split
  · exact SameCuts.refl s
  · split
    · exact travel_sameCuts _ s.sl.travel s.sl.turns s
    · split
      · exact (travel_sameCuts _ _ s.sl.turns s).trans (countTurn_sameCuts _)
      · exact travel_sameCuts _ _ s.sl.turns s

theorem settleOverdig_sameCuts (p : Pose) (s : State) : SameCuts s (settleOverdig p s) := by
  have ps (f : Ps → Ps) (s : State) : SameCuts s (onPs f s) := (onPs_frame f s).touches.sameCuts rfl rfl rfl
  have notice (n : Notice) (s : State) : SameCuts s (queueNotice n s) := (queueNotice_frame n s).touches.sameCuts rfl rfl rfl
  unfold settleOverdig
  simp only []
  split_ifs
  · exact ((ps _ s).trans (notice _ _)).trans (requestPsAlarm_sameCuts _ _)
  · exact ((ps _ s).trans (notice _ _)).trans (requestPsAlarm_sameCuts _ _)
  · exact SameCuts.refl s

theorem KeptByZoneWork.changeChannel (w : KeptByZoneWork P) (ch : Fin 6) (g : Channel → Channel) {s : State} (hs : P s) :
    P (changeChannel ch g s) := by
  refine changeChannel_keeps w.choices ch g (fun a b f m u hu => ?_) (w.frame (onChannel_frame ch g s) rfl rfl rfl hs)
  simp only [List.mem_cons, List.not_mem_nil, or_false] at m
  rcases m with rfl | rfl | rfl | rfl
  · exact w.frame (queueNotice_frame _ _) rfl rfl rfl hu
  · exact w.frame (requestComputation_frame _) rfl rfl rfl hu
  · exact w.deliverHealth _ _ hu
  · exact w.frame (deliverHealthToCt_frame _ _) rfl rfl rfl hu

theorem KeptByZoneWork.arriveFrame (w : KeptByZoneWork P) (ch : Fin 6) (bytes : List Byte) {s : State} (hs : P s) :
    P (arriveFrame ch bytes s) := by
  refine arriveFrame_keeps w.choices ch bytes (fun a b x f m u hu => ?_) (w.frame (onChannel_frame ch _ s) rfl rfl rfl hs)
  simp only [List.mem_cons, List.not_mem_nil, or_false] at m
  rcases m with rfl | rfl | rfl | rfl | rfl | rfl
  · exact w.frame (queueNotice_frame _ _) rfl rfl rfl hu
  · exact w.frame (requestComputation_frame _) rfl rfl rfl hu
  · exact w.deliverHealth _ _ hu
  · exact w.frame (deliverHealthToCt_frame _ _) rfl rfl rfl hu
  · exact w.same (readSlewTravel_sameCuts _ _) hu
  · exact w.frame (drainPressure_frame _) rfl rfl rfl hu

theorem KeptByZoneWork.completePose (w : KeptByZoneWork P) (c : Computation) {s : State} (hs : P s) :
    P (completePose c s) := by
  unfold Machine.completePose
  simp only []
  refine w.frame (startPending_frame _) rfl rfl rfl ?_
  refine deliverPose_keeps w.choices _ _ (fun f m u hu => ?_) (w.frame (takePoseAtCt_frame _ _) rfl rfl rfl
    (w.frame (serveTip_frame _ _) rfl rfl rfl (w.same (settleOverdig_sameCuts _ _)
      (w.frame (onPs_frame _ s) rfl rfl rfl hs))))
  simp only [List.mem_cons, List.not_mem_nil, or_false] at m
  rcases m with rfl | rfl | rfl | rfl | rfl
  · exact w.deliverPose _ _ hu
  · exact w.frame (hardFail_frame _ _) rfl rfl rfl hu
  · exact w.frame (arrivePass_frame _ _) rfl rfl rfl hu
  · exact w.frame (takeActivity_frame _) rfl rfl rfl hu
  · exact w.frame (takePhaseChange_frame _ _) rfl rfl rfl hu

theorem KeptByZoneWork.owner (w : KeptByZoneWork P) {kind tag : Byte} {body : List Byte} {level : Authority}
    {ok : List Byte → Bool} {owner : Owner} {s t : State} (e : interpret kind level ok owner tag body s = .next t)
    (h : ∀ u, P u → P (owner body u).1) (hs : P s) : P t :=
  interpret_keeps (fun h hs => w.touches h rfl rfl rfl hs) e h hs

/-- What all the work on the zones and the cuts keeps, every command keeps. -/
theorem KeptByZoneWork.exec (w : KeptByZoneWork P) {c : Instr} {s t : State} (hs : P s) (e : exec c s = .next t) : P t := by
  cases c with
  | restartTakesEffect | powerOn | powerLoss =>
    rcases exec_reset e trivial with rfl | ⟨-, rfl⟩ | ⟨strap, rfl⟩ | ⟨image, rfl⟩
    · exact hs
    · exact w.fresh ..
    · exact w.fresh ..
    · exact w.unpowered ..
  | sensorFrameArrival ch char =>
    rcases sensorFrameArrival_cases e with rfl | ⟨bytes, -, -, -, rfl⟩
    · exact hs
    · exact w.arriveFrame ch _ hs
  | breakDetected ch | breakEnd ch | staleTimerExpiry ch | silentTimerExpiry ch =>
    rcases eq_or_of_whenDue e with rfl | ⟨-, rfl⟩
    · exact hs
    · exact w.changeChannel ch _ hs
  | inputLevelChange x =>
    rcases eq_or_of_whenDue e with rfl | ⟨-, rfl⟩
    · exact hs
    · exact w.readInputs x s hs
  | inputReading x =>
    rcases eq_or_of_whenDue e with rfl | ⟨due, rfl⟩
    · exact hs
    · simp only [Bool.and_eq_true, Bool.not_eq_true'] at due
      exact w.reading x s due.2 hs
  | alarmCadence =>
    rcases alarmCadence_cases e with rfl | ⟨len, -, rfl⟩
    · exact hs
    · exact w.same (s := s) ⟨⟨rfl, rfl, rfl, fun _ => rfl, rfl⟩, rfl, rfl, rfl, rfl, rfl, rfl, rfl, rfl, rfl, rfl⟩ hs
  | poseCompletion =>
    rcases poseCompletion_cases e with rfl | ⟨c, -, rfl⟩
    · exact hs
    · exact w.completePose c hs
  | channelSet tag body =>
    refine w.owner e (fun u hu => ?_) hs
    rcases channelSetOwner_cases body u with h | ⟨ch, new, -, h⟩ <;> rw [h]
    · exact hu
    · exact w.changeChannel ch _ (w.frame (markedIf_frame _ _) rfl rfl rfl hu)
  | channelRestart tag body =>
    refine w.owner e (fun u hu => ?_) hs
    rcases channelRestartOwner_cases body u with h | ⟨ch, -, h⟩ <;> rw [h]
    · exact hu
    · exact w.changeChannel ch _ hu
  | zoneWrite tag body =>
    refine w.owner e (fun u hu => ?_) hs
    rcases zoneWriteOwner_cases body u with h | ⟨k, z, written, h⟩ <;> rw [h]
    · exact hu
    · exact w.replaceZone k z u written hu
  | zoneClear tag body =>
    refine w.owner e (fun u hu => ?_) hs
    rcases zoneClearOwner_cases body u with h | ⟨k, h⟩ <;> rw [h]
    · exact hu
    · exact w.replaceZone k none u (by simp) hu
  | zoneRead tag body =>
    refine w.owner e (fun u hu => ?_) hs
    rcases zoneReadOwner_cases body u with h | ⟨k, h⟩ <;> rw [h]
    · exact hu
    · exact w.same ⟨onZone_sameZones k (by intro; rfl) u, rfl, rfl, rfl, rfl, rfl, rfl, rfl, rfl, rfl, rfl⟩ hu
  | zoneSuspend tag body =>
    refine w.owner e (fun u hu => ?_) hs
    rcases zoneSuspendOwner_cases body u with h | ⟨k, z, held, armed, level, h⟩ <;> rw [h]
    · exact hu
    · exact w.suspendZone k z u held armed level hu
  | zoneResume tag body =>
    refine w.owner e (fun u hu => ?_) hs
    rcases zoneResumeOwner_cases body u with h | ⟨k, z, held, state, h⟩ <;> rw [h]
    · exact hu
    · exact w.resumeZone k z u held state hu
  | reanchor tag body =>
    refine w.owner e (fun u hu => ?_) hs
    rcases reanchorOwner_cases body u with h | ⟨d, h⟩ <;> rw [h]
    · exact hu
    · exact w.reanchorZones d u hu
  | slewSettings tag body =>
    refine w.owner e (fun u hu => ?_) hs
    rcases slewSettingsOwner_cases body u with h | ⟨new, -, h⟩ <;> rw [h]
    · exact hu
    · refine w.slewSettings new u _ ?_ hu
      split
      · exact (markRetained_frame _).touches.sameCuts rfl rfl rfl
      · exact SameCuts.refl _
  | _ => exact w.touches (exec_touches id e) rfl rfl rfl hs

end

/-! ## The unanchored count (R69) -/

/-- The alarm request of the Zone Table is that of its count (R69). -/
def AlarmCounted (s : State) : Prop := s.mlu.slots.zt = ztAlarmFor s.zt.unanchored

/-- The count is that of the UNANCHORED entries (R69). -/
def CountRight (s : State) : Prop := s.zt.unanchored = unanchoredCount s.zt.zones

theorem unanchoredCounted_iff (s : State) : UnanchoredCounted s ↔ CountRight s ∧ AlarmCounted s := Iff.rfl

/-- Entries that are UNANCHORED where the others are have the same count. -/
theorem unanchoredCount_congr {a b : Vector ZoneEntry 16}
    (h : ∀ k : Fin 16, ZoneEntry.isUnanchored a[k] = ZoneEntry.isUnanchored b[k]) : unanchoredCount a = unanchoredCount b := by
  have same : a.map ZoneEntry.isUnanchored = b.map ZoneEntry.isUnanchored := by
    ext i hi
    simpa using h ⟨i, hi⟩
  have count (v : Vector ZoneEntry 16) : unanchoredCount v = (v.map ZoneEntry.isUnanchored).toList.countP id := by
    simp [unanchoredCount]
  rw [count, count, same]

theorem isUnanchored_of_held {a b : ZoneEntry} (h : a.held = b.held) :
    ZoneEntry.isUnanchored a = ZoneEntry.isUnanchored b := by
  simp only [ZoneEntry.isUnanchored, ZoneEntry.state?, h]

theorem SameZones.alarmCounted {s t : State} (h : SameZones s t) (hs : AlarmCounted s) : AlarmCounted t := by
  unfold AlarmCounted at *
  rw [h.alarm, h.unanchored, hs]

theorem SameZones.countRight {s t : State} (h : SameZones s t) (hs : CountRight s) : CountRight t := by
  unfold CountRight at *
  rw [h.unanchored, hs]
  exact (unanchoredCount_congr fun k => isUnanchored_of_held (h.held k)).symm

theorem SameZones.counted {s t : State} (h : SameZones s t) (hs : UnanchoredCounted s) : UnanchoredCounted t :=
  ⟨h.countRight hs.1, h.alarmCounted hs.2⟩

/-- Settling makes the count right, and moves the alarm with it (R69). -/
theorem settleUnanchored_counted {s : State} (h : AlarmCounted s) : UnanchoredCounted (settleUnanchored s) := by
  unfold settleUnanchored
  simp only []
  split_ifs with same
  · exact ⟨rfl, h.trans same.symm⟩
  · refine ⟨rfl, ?_⟩
    obtain ⟨-, -, -, -, slots⟩ := requestZtAlarm_fields (ztAlarmFor (unanchoredCount s.zt.zones))
      { s with zt := { s.zt with unanchored := unanchoredCount s.zt.zones } }
    exact (congrArg AlarmSlots.zt slots).trans rfl

theorem withZones_alarmCounted {z : Vector ZoneEntry 16} {s : State} (h : AlarmCounted s) :
    AlarmCounted { s with zt := { s.zt with zones := z } } := h

/-- A change of states at the entries that leaves each UNANCHORED or not, as it was, leaves the count right. -/
theorem withZones_counted {z : Vector ZoneEntry 16} {s : State}
    (h : ∀ k : Fin 16, ZoneEntry.isUnanchored z[k] = ZoneEntry.isUnanchored s.zt.zones[k]) (hs : UnanchoredCounted s) :
    UnanchoredCounted { s with zt := { s.zt with zones := z } } :=
  ⟨hs.1.trans (unanchoredCount_congr h).symm, hs.2⟩

theorem evaluateSlew_counted {s : State} (h : UnanchoredCounted s) : UnanchoredCounted (evaluateSlew s) :=
  (evaluateSlew_sameZones s).counted h

theorem zoneNotices_sameZones (f : Fin 16 → Option ZoneEvent) (s : State) : SameZones s (zoneNotices f s) :=
  (zoneNotices_frame f s).sameZones rfl rfl

theorem rearmZones_counted (a : Authority) {s : State} (h : UnanchoredCounted s) : UnanchoredCounted (rearmZones a s) := by
  refine evaluateSlew_counted ((zoneNotices_sameZones _ _).counted (withZones_counted (fun k => ?_) h))
  simp only [Fin.getElem_fin, Vector.getElem_map]
  split_ifs with must
  · -- a re-armed zone was SUSPENDED
    unfold mustRearm at must
    cases held : s.zt.zones[k].held with
    | none => simp_all
    | some z => simp_all [ZoneEntry.isUnanchored, ZoneEntry.state?, ZoneEntry.withState]
  · rfl

theorem travelZones_counted {s : State} (h : UnanchoredCounted s) : UnanchoredCounted (travelZones s) := by
  unfold travelZones
  simp only []
  split_ifs
  · exact evaluateSlew_counted (settleUnanchored_counted ((zoneNotices_sameZones _ _).alarmCounted (withZones_alarmCounted h.2)))
  · exact h

theorem settleAuthority_counted {s : State} (h : UnanchoredCounted s) : UnanchoredCounted (settleAuthority s) := by
  unfold settleAuthority
  simp only []
  split_ifs
  · exact h
  · exact rearmZones_counted _ (s := queueNotice _ (onMlu _ s)) h

/-- After the replacing of an entry a count that is no longer right is settled, before the evaluation or after it (R69). -/
theorem replaceFollowers_counted (k : Fin 16) {s : State} (alarm : AlarmCounted s) :
    UnanchoredCounted (anyOrder ((if unanchoredCount s.zt.zones = s.zt.unanchored then [] else [settleUnanchored]) ++
      [fun s => evaluateSlew (forgetZone k s)]) s) := by
  have evaluate (u : State) : SameZones u (evaluateSlew (forgetZone k u)) :=
    ((forgetZone_frame k u).sameZones rfl rfl).trans (evaluateSlew_sameZones _)
  have both := anyOrder_establishes (P := AlarmCounted) (Q := CountRight) (fun _ _ h => h) (fun _ _ h => h)
    ((if unanchoredCount s.zt.zones = s.zt.unanchored then [] else [settleUnanchored]) ++
      [fun s => evaluateSlew (forgetZone k s)]) (s := s)
    (fun f m u hu => by
      rcases mem_ite_append_singleton m with rfl | rfl
      · exact (settleUnanchored_counted hu).2
      · exact (evaluate u).alarmCounted hu)
    (fun f m u hu hq => by
      rcases mem_ite_append_singleton m with rfl | rfl
      · exact (settleUnanchored_counted hu).1
      · exact (evaluate u).countRight hq)
    (by
      by_cases same : unanchoredCount s.zt.zones = s.zt.unanchored
      · exact .inl same.symm
      · exact .inr ⟨settleUnanchored, by simp [same], fun u hu => (settleUnanchored_counted hu).1⟩)
    alarm
  exact ⟨both.2, both.1⟩

theorem replaceZone_counted (k : Fin 16) (z : Option Zone) {s : State} (h : UnanchoredCounted s) :
    UnanchoredCounted (replaceZone k z s) := by
  refine replaceFollowers_counted k ?_
  split <;> exact h.2

/-- A zone that is not UNANCHORED, moved to a state that is not, leaves the count right. -/
theorem moveZone_counted {k : Fin 16} {z : Zone} {x : ZoneState} {s : State} (held : s.zt.zones[k].held = some z)
    (before : ∀ p, z.state ≠ .unanchored p) (after : ∀ p, x ≠ .unanchored p) (h : UnanchoredCounted s) :
    UnanchoredCounted (moveZone k x s) := by
  have none' (e : ZoneEntry) (st : ZoneState) (hst : ∀ p, st ≠ .unanchored p) (he : e.state? = some st) :
      ZoneEntry.isUnanchored e = false := by
    unfold ZoneEntry.isUnanchored
    rw [he]
    cases st <;> simp_all
  refine evaluateSlew_counted (withZones_counted (fun i => ?_) h)
  simp only [Fin.getElem_fin, Vector.getElem_set]
  split_ifs with e
  · have e : k = i := Fin.ext e
    subst e
    rw [none' _ x after (by simp [ZoneEntry.withState, ZoneEntry.state?, show s.zt.zones[k.val].held = some z from held]),
      none' _ z.state before (by simp [ZoneEntry.state?, show s.zt.zones[k.val].held = some z from held])]
  · rfl

theorem reanchorZones_counted (d : Angle) {s : State} (h : UnanchoredCounted s) : UnanchoredCounted (reanchorZones d s) := by
  unfold reanchorZones
  simp only []
  refine evaluateSlew_counted (settleUnanchored_counted ((zoneNotices_sameZones _ _).alarmCounted ?_))
  split_ifs <;> exact h.2

theorem readInputs_counted (x : InputSamples) {s : State} (h : UnanchoredCounted s) : UnanchoredCounted (readInputs x s) := by
  have frame {b : Blocks} {s t : State} (h : Frame b s t) (mlu : b.mlu = false) (zt : b.zt = false)
      (hs : UnanchoredCounted s) : UnanchoredCounted t := (h.sameZones mlu zt).counted hs
  refine readInputs_keeps (fun s h => h) x (fun s h => h) (fun f m u hu => ?_) s h
  simp only [List.mem_cons, List.not_mem_nil, or_false] at m
  rcases m with rfl | rfl | rfl | rfl | rfl | rfl | rfl
  · exact frame (takeActivity_frame _) rfl rfl hu
  · exact frame (takeSeatChange_frame _) rfl rfl hu
  · exact travelZones_counted hu
  · exact frame (toUnknown_frame _) rfl rfl hu
  · exact frame (travelLoads_frame _) rfl rfl hu
  · exact frame (travelEndedAtCt_frame _) rfl rfl hu
  · exact settleAuthority_counted hu

theorem reset_counted : UnanchoredCounted State.reset := by
  have count : unanchoredCount (Vector.replicate 16 {}) = 0 := by decide
  exact ⟨count.symm, rfl⟩

theorem mluFresh_slots (a : AlarmPattern) : (Mlu.fresh a).slots = { zt := a } := rfl

theorem resetState_counted (r : Retained) (un : Fin 16 → Bool) (rs : Rs) (rate : LinkRate) (tx : Transmitter)
    (started : Notice) (s : State) : UnanchoredCounted (resetState r un rs rate tx started s) := by
  have zt : (resetState r un rs rate tx started s).zt = resetZones r.zones un := rfl
  have mlu : (resetState r un rs rate tx started s).mlu = .fresh (ztAlarmFor (resetZones r.zones un).unanchored) := rfl
  refine ⟨?_, ?_⟩
  · rw [zt]; simp only [resetZones, unanchoredCount]
  · rw [mlu, zt, mluFresh_slots]; simp only [ztAlarmFor]

theorem unanchoredCounted_keptByZoneWork : KeptByZoneWork UnanchoredCounted where
  same h hs := h.toSameZones.counted hs
  reading _ _ _ h := h
  readInputs x _ h := readInputs_counted x h
  deliverPose _ _ h := evaluateSlew_counted (s := onSl _ _) h
  deliverHealth _ _ h := evaluateSlew_counted (s := onSl _ _) h
  replaceZone k z _ _ h := replaceZone_counted k z h
  suspendZone k z _ held armed _ h := moveZone_counted held (by simp [armed]) (by simp) h
  resumeZone k z _ held state h := moveZone_counted held (by rcases state with e | e <;> simp [e]) (by simp) h
  reanchorZones d _ h := reanchorZones_counted d h
  slewSettings _ _ _ same h := evaluateSlew_counted (same.toSameZones.counted h)
  fresh := resetState_counted
  unpowered _ _ := reset_counted

/-- Settles O10: what changes the number of UNANCHORED entries settles the count, and the count's alarm request with it. -/
theorem stepKeepsUnanchoredCount : Obligations.StepKeepsUnanchoredCount := by
  intro s t hs h
  rcases step_cases h with rfl | ⟨c, q, e⟩
  · exact ((tick_touches s).sameZones rfl rfl).counted hs
  · exact unanchoredCounted_keptByZoneWork.exec (s := s.withPending q) hs e

end Sys2Proof.Machine

/-! PROOFS. What every step keeps of the authority: the level of the keyed inputs, and no zone SUSPENDED above it (R28, R64). -/

namespace Sys2Proof.Machine

/-- The zone of an entry, if SUSPENDED, is so at or below the level (R64). -/
def SuspendedUnder (a : Authority) (e : ZoneEntry) : Prop :=
  ∀ z ∈ e.held, z.state = .suspended → z.record.suspendLevel.rank ≤ a.rank

/-- No zone is SUSPENDED above the level held (R64). -/
def NoneAbove (s : State) : Prop := ∀ k : Fin 16, SuspendedUnder s.mlu.authority s.zt.zones[k]

/-- The level held is that of the keyed inputs (R28). -/
def AuthorityRight (s : State) : Prop := s.mlu.authority = authorityOf s.mlu.inputs

theorem suspensionsAuthorised_iff (s : State) : SuspensionsAuthorised s ↔ AuthorityRight s ∧ NoneAbove s := Iff.rfl

/-! ## One entry -/

theorem SuspendedUnder.of_held {a : Authority} {e e' : ZoneEntry} (h : SuspendedUnder a e) (same : e'.held = e.held) :
    SuspendedUnder a e' := by
  unfold SuspendedUnder; rw [same]; exact h

theorem suspendedUnder_none (a : Authority) {e : ZoneEntry} (h : e.held = none) : SuspendedUnder a e := by
  intro z hz; rw [h] at hz; cases hz

theorem suspendedUnder_some (a : Authority) {e : ZoneEntry} {z : Zone} (h : e.held = some z)
    (under : z.state = .suspended → z.record.suspendLevel.rank ≤ a.rank) : SuspendedUnder a e := by
  intro x hx; rw [h] at hx; cases hx; exact under

/-- A state other than SUSPENDED is under every level. -/
theorem withState_under (a : Authority) {x : ZoneState} (h : x ≠ .suspended) (e : ZoneEntry) :
    SuspendedUnder a (ZoneEntry.withState x e) := by
  intro z hz suspended
  obtain ⟨y, -, rfl⟩ := Option.map_eq_some_iff.1 hz
  exact absurd suspended h

/-- What is not re-armed at a new level is under it (R64). -/
theorem rearmed_under (a : Authority) (e : ZoneEntry) :
    SuspendedUnder a (if mustRearm a e then ZoneEntry.withState .armed e else e) := by
  split_ifs with must
  · exact withState_under a (by simp) e
  · intro z hz suspended
    simp only [mustRearm, show e.held = some z from hz, suspended, beq_self_eq_true, Bool.true_and, decide_eq_true_eq,
      Nat.not_lt] at must
    exact must

theorem travelled_under {a : Authority} {e : ZoneEntry} (h : SuspendedUnder a e) :
    SuspendedUnder a (ZoneEntry.travelled e) := by
  unfold ZoneEntry.travelled
  split
  · exact withState_under a (by simp) e
  · exact h

/-- A zone that was SUSPENDED comes back so at or below the level alone (R67). -/
theorem reanchored_under {a : Authority} (d : Angle) {e : ZoneEntry} (h : SuspendedUnder a e) :
    SuspendedUnder a (ZoneEntry.reanchored a d e) := by
  unfold ZoneEntry.reanchored
  split
  · exact h
  · split
    · next p _ =>
      refine suspendedUnder_some a rfl fun suspended => ?_
      cases p <;> simp only [reanchoredState] at suspended
      · cases suspended
      · cases suspended
      · split_ifs at suspended with low
        exact Nat.not_lt.1 low
    · exact h

/-! ## The operations -/

theorem SameZones.authorised {s t : State} (h : SameZones s t) (hs : SuspensionsAuthorised s) : SuspensionsAuthorised t := by
  refine ⟨by rw [h.authority, h.inputs]; exact hs.1, fun k => ?_⟩
  rw [h.authority]
  exact SuspendedUnder.of_held (hs.2 k) (h.held k)

theorem SameZones.noneAbove {s t : State} (h : SameZones s t) (hs : NoneAbove s) : NoneAbove t := fun k => by
  rw [h.authority]
  exact SuspendedUnder.of_held (hs k) (h.held k)

theorem SameZones.authorityRight {s t : State} (h : SameZones s t) (hs : AuthorityRight s) : AuthorityRight t := by
  unfold AuthorityRight; rw [h.authority, h.inputs]; exact hs

/-- Settling the count leaves the zones, the inputs and the authority. -/
theorem settleUnanchored_fields (s : State) : (settleUnanchored s).zt.zones = s.zt.zones ∧
    (settleUnanchored s).mlu.inputs = s.mlu.inputs ∧ (settleUnanchored s).mlu.authority = s.mlu.authority := by
  unfold settleUnanchored
  simp only []
  split_ifs
  · exact ⟨rfl, rfl, rfl⟩
  · obtain ⟨inputs, authority, -⟩ := requestZtAlarm_fields (ztAlarmFor (unanchoredCount s.zt.zones))
      { s with zt := { s.zt with unanchored := unanchoredCount s.zt.zones } }
    exact ⟨rfl, inputs, authority⟩

/-- What depends on the zones, the inputs and the authority alone, a change of other things keeps. -/
theorem SuspensionsAuthorised.of_fields {s t : State} (hs : SuspensionsAuthorised s) (zones : t.zt.zones = s.zt.zones)
    (inputs : t.mlu.inputs = s.mlu.inputs) (authority : t.mlu.authority = s.mlu.authority) : SuspensionsAuthorised t := by
  unfold SuspensionsAuthorised; rw [zones, inputs, authority]; exact hs

/-- Entries each under the level that is held. -/
theorem withZones_authorised {z : Vector ZoneEntry 16} {s : State} (right : AuthorityRight s)
    (h : ∀ k : Fin 16, SuspendedUnder s.mlu.authority z[k]) :
    SuspensionsAuthorised { s with zt := { s.zt with zones := z } } := ⟨right, h⟩

theorem evaluateSlew_authorised {s : State} (h : SuspensionsAuthorised s) : SuspensionsAuthorised (evaluateSlew s) :=
  (evaluateSlew_sameZones s).authorised h

theorem settleUnanchored_authorised {s : State} (h : SuspensionsAuthorised s) :
    SuspensionsAuthorised (settleUnanchored s) := by
  obtain ⟨zones, inputs, authority⟩ := settleUnanchored_fields s
  exact h.of_fields zones inputs authority

theorem NoneAbove.of_fields {s t : State} (hs : NoneAbove s) (zones : t.zt.zones = s.zt.zones)
    (authority : t.mlu.authority = s.mlu.authority) : NoneAbove t := by
  unfold NoneAbove; rw [zones, authority]; exact hs

theorem AuthorityRight.of_fields {s t : State} (hs : AuthorityRight s) (inputs : t.mlu.inputs = s.mlu.inputs)
    (authority : t.mlu.authority = s.mlu.authority) : AuthorityRight t := by
  unfold AuthorityRight; rw [inputs, authority]; exact hs

/-- TRAVEL leaves the authority and the inputs, and no zone SUSPENDED that was not (R65). -/
theorem travelZones_keeps_suspensions (s : State) : (travelZones s).mlu.inputs = s.mlu.inputs ∧
    (travelZones s).mlu.authority = s.mlu.authority ∧ (NoneAbove s → NoneAbove (travelZones s)) := by
  unfold travelZones
  simp only []
  split_ifs
  · generalize hu : zoneNotices _ _ = u
    have notices := hu ▸ zoneNotices_sameZones _ _
    obtain ⟨zones, inputs, authority⟩ := settleUnanchored_fields u
    have evaluated := evaluateSlew_sameZones (settleUnanchored u)
    refine ⟨?_, ?_, fun h => ?_⟩
    · rw [evaluated.inputs, inputs, notices.inputs]
    · rw [evaluated.authority, authority, notices.authority]
    · refine evaluated.noneAbove (NoneAbove.of_fields (notices.noneAbove fun k => ?_) zones authority)
      simpa using travelled_under (h k)
  · exact ⟨rfl, rfl, id⟩

theorem rearmZones_noneAbove {a : Authority} {s : State} (h : s.mlu.authority = a) : NoneAbove (rearmZones a s) := by
  refine (evaluateSlew_sameZones _).noneAbove ((zoneNotices_sameZones _ _).noneAbove fun k => ?_)
  simpa [h] using rearmed_under a s.zt.zones[k]

theorem rearmZones_fields (a : Authority) (s : State) : (rearmZones a s).mlu.inputs = s.mlu.inputs ∧
    (rearmZones a s).mlu.authority = s.mlu.authority := by
  unfold rearmZones
  simp only []
  generalize hu : zoneNotices _ _ = u
  have notices := hu ▸ zoneNotices_sameZones _ _
  exact ⟨(evaluateSlew_sameZones u).inputs.trans notices.inputs, (evaluateSlew_sameZones u).authority.trans notices.authority⟩

/-- Settling the authority makes it that of the inputs, and re-arms what is above it (R28, R64). -/
theorem settleAuthority_authorised {s : State} (h : NoneAbove s) : SuspensionsAuthorised (settleAuthority s) := by
  unfold settleAuthority
  simp only []
  split_ifs with same
  · exact ⟨same.symm, h⟩
  · obtain ⟨inputs, authority⟩ := rearmZones_fields (authorityOf s.mlu.inputs) (queueNotice
      (.authority s.mlu.authority (authorityOf s.mlu.inputs) s.now)
      (onMlu (fun m => { m with authority := authorityOf s.mlu.inputs }) s))
    refine ⟨?_, rearmZones_noneAbove rfl⟩
    rw [authority, inputs]
    rfl

/-- The levels of the keyed inputs, not accepted anew, stay, and the authority they give with them. -/
theorem authorityOf_map₂ {inputs : PerInput Debouncer} {x : InputSamples}
    (h : ((PerInput.map₂ Debouncer.accepts inputs x).supervisorKey ||
      (PerInput.map₂ Debouncer.accepts inputs x).servicePlug) = false) :
    authorityOf (PerInput.map₂ Debouncer.take inputs x) = authorityOf inputs := by
  simp only [PerInput.map₂, Bool.or_eq_false_iff] at h
  simp only [authorityOf, PerInput.map₂, Debouncer.take, h.1, h.2, Bool.false_eq_true, if_false]

/-- Each event of a reading keeps the zones under the level held. -/
theorem inputEvent_keeps_noneAbove {f : State → State}
    (m : f ∈ [takeActivity, takeSeatChange, travelZones, toUnknown, travelLoads, travelEndedAtCt, settleAuthority]) {s : State}
    (h : NoneAbove s) : NoneAbove (f s) := by
  have frame {b : Blocks} {s t : State} (k : Frame b s t) (mlu : b.mlu = false) (zt : b.zt = false) (h : NoneAbove s) :
      NoneAbove t := (k.sameZones mlu zt).noneAbove h
  simp only [List.mem_cons, List.not_mem_nil, or_false] at m
  rcases m with rfl | rfl | rfl | rfl | rfl | rfl | rfl
  · exact frame (takeActivity_frame _) rfl rfl h
  · exact frame (takeSeatChange_frame _) rfl rfl h
  · exact (travelZones_keeps_suspensions s).2.2 h
  · exact frame (toUnknown_frame _) rfl rfl h
  · exact frame (travelLoads_frame _) rfl rfl h
  · exact frame (travelEndedAtCt_frame _) rfl rfl h
  · exact (settleAuthority_authorised h).2

/-- Each event of a reading keeps a right authority right; the change of authority makes it so. -/
theorem inputEvent_keeps_authorityRight {f : State → State}
    (m : f ∈ [takeActivity, takeSeatChange, travelZones, toUnknown, travelLoads, travelEndedAtCt, settleAuthority]) {s : State}
    (above : NoneAbove s) (h : AuthorityRight s) : AuthorityRight (f s) := by
  have frame {b : Blocks} {s t : State} (k : Frame b s t) (mlu : b.mlu = false) (zt : b.zt = false) (h : AuthorityRight s) :
      AuthorityRight t := (k.sameZones mlu zt).authorityRight h
  simp only [List.mem_cons, List.not_mem_nil, or_false] at m
  rcases m with rfl | rfl | rfl | rfl | rfl | rfl | rfl
  · exact frame (takeActivity_frame _) rfl rfl h
  · exact frame (takeSeatChange_frame _) rfl rfl h
  · obtain ⟨inputs, authority, -⟩ := travelZones_keeps_suspensions s
    exact h.of_fields inputs authority
  · exact frame (toUnknown_frame _) rfl rfl h
  · exact frame (travelLoads_frame _) rfl rfl h
  · exact frame (travelEndedAtCt_frame _) rfl rfl h
  · exact (settleAuthority_authorised above).1

/-- A reading whose keyed inputs change settles the authority among its events (R24, R28). -/
theorem settleAuthority_mem_inputEvents {changed : PerInput Bool} {inputs : PerInput Debouncer}
    (h : (changed.supervisorKey || changed.servicePlug) = true) : [settleAuthority] ∈ inputEvents changed inputs := by
  unfold inputEvents
  rw [if_pos h]
  simp

theorem readInputs_authorised (x : InputSamples) {s : State} (h : SuspensionsAuthorised s) :
    SuspensionsAuthorised (readInputs x s) := by
  have both := interleave_establishes (P := NoneAbove) (Q := AuthorityRight) (fun _ _ h => h) (fun _ _ h => h)
    (inputEvents (changesAt s.mlu x) (takeReading x s).mlu.inputs) (s := takeReading x s)
    (fun q m f mf u hu => inputEvent_keeps_noneAbove (mem_inputEvents m mf) hu)
    (fun q m f mf u hu hq => inputEvent_keeps_authorityRight (mem_inputEvents m mf) hu hq)
    (by
      cases keyed : (changesAt s.mlu x).supervisorKey || (changesAt s.mlu x).servicePlug with
      | true =>
        exact .inr ⟨_, settleAuthority_mem_inputEvents keyed, settleAuthority, by simp,
          fun u hu => (settleAuthority_authorised hu).1⟩
      | false => exact .inl (h.1.trans (authorityOf_map₂ keyed).symm))
    h.2
  exact ⟨both.2, both.1⟩

/-- A written record begins DORMANT or ARMED (R59). -/
theorem replaceZone_authorised (k : Fin 16) (z : Option Zone) {s : State} (written : ∀ x ∈ z, x.state = writtenState x.record)
    (h : SuspensionsAuthorised s) : SuspensionsAuthorised (replaceZone k z s) := by
  have entry : SuspensionsAuthorised (onZone k (fun _ => { held := z }) s) := by
    refine ⟨h.1, fun i => ?_⟩
    simp only [onZone_zt, Fin.getElem_fin, Vector.getElem_set]
    split_ifs
    · intro x hx suspended
      rw [written x hx] at suspended
      unfold writtenState at suspended
      split_ifs at suspended
    · exact h.2 i
  refine anyOrder_keeps (fun _ h => h) _ _ (fun f m u hu => ?_) (((markedIf_frame _ _).sameZones rfl rfl).authorised entry)
  rcases mem_ite_append_singleton m with rfl | rfl
  · exact settleUnanchored_authorised hu
  · exact evaluateSlew_authorised (((forgetZone_frame k u).sameZones rfl rfl).authorised hu)

theorem moveZone_authorised {k : Fin 16} {x : ZoneState} {s : State}
    (under : SuspendedUnder s.mlu.authority (ZoneEntry.withState x s.zt.zones[k])) (h : SuspensionsAuthorised s) :
    SuspensionsAuthorised (moveZone k x s) := by
  refine evaluateSlew_authorised ⟨h.1, fun i => ?_⟩
  simp only [onZone_zt, Fin.getElem_fin, Vector.getElem_set]
  split_ifs
  · exact under
  · exact h.2 i

theorem reanchorZones_authorised (d : Angle) {s : State} (h : SuspensionsAuthorised s) :
    SuspensionsAuthorised (reanchorZones d s) := by
  unfold reanchorZones
  simp only []
  refine evaluateSlew_authorised (settleUnanchored_authorised ((zoneNotices_sameZones _ _).authorised ?_))
  have zones : SuspensionsAuthorised { s with zt := { s.zt with
      zones := s.zt.zones.map (ZoneEntry.reanchored s.mlu.authority d) } } :=
    withZones_authorised h.1 fun k => by simpa using reanchored_under d (h.2 k)
  split_ifs
  · exact zones
  · exact ((markRetained_frame _).sameZones rfl rfl).authorised zones

theorem resetZone_under (a : Authority) (un : Bool) (z : Option ZoneRecord) : SuspendedUnder a (resetZone un z) := by
  intro x hx suspended
  obtain ⟨r, -, rfl⟩ := Option.map_eq_some_iff.1 hx
  simp only [writtenState] at suspended
  split_ifs at suspended

theorem resetState_authorised (r : Retained) (un : Fin 16 → Bool) (rs : Rs) (rate : LinkRate) (tx : Transmitter)
    (started : Notice) (s : State) : SuspensionsAuthorised (resetState r un rs rate tx started s) := by
  refine ⟨rfl, fun k => ?_⟩
  have zones : (resetState r un rs rate tx started s).zt.zones[k] = resetZone (un k) r.zones[k] := by
    change (Vector.ofFn fun k : Fin 16 => resetZone (un k) r.zones[k])[k] = _
    simp
  change SuspendedUnder _ _
  rw [zones]
  exact resetZone_under _ _ _

theorem reset_authorised : SuspensionsAuthorised State.reset := by
  refine ⟨rfl, fun k => suspendedUnder_none _ ?_⟩
  simp [State.reset]

theorem suspensionsAuthorised_keptByZoneWork : KeptByZoneWork SuspensionsAuthorised where
  same h hs := h.toSameZones.authorised hs
  reading x s none h := by
    simp only [PerInput.any, Bool.or_eq_false_iff] at none
    exact ⟨h.1.trans (authorityOf_map₂ (by rw [Bool.or_eq_false_iff]; exact ⟨none.1.2, none.2⟩)).symm, h.2⟩
  readInputs x _ h := readInputs_authorised x h
  deliverPose _ _ h := evaluateSlew_authorised (s := onSl _ _) h
  deliverHealth _ _ h := evaluateSlew_authorised (s := onSl _ _) h
  replaceZone k z _ written h := replaceZone_authorised k z written h
  suspendZone k z _ held _ level h := moveZone_authorised (suspendedUnder_some _ (z := { z with state := .suspended })
    (by rw [ZoneEntry.withState, held]; rfl) fun _ => level) h
  resumeZone _ _ _ _ _ h := moveZone_authorised (withState_under _ (by simp) _) h
  reanchorZones d _ h := reanchorZones_authorised d h
  slewSettings _ _ _ same h := evaluateSlew_authorised (same.toSameZones.authorised h)
  fresh := resetState_authorised
  unpowered _ _ := reset_authorised

/-- Settles O8: a reading that moves a keyed input settles the authority among its events, which re-arms what is above the
new level; and nothing else suspends a zone above the level held. -/
theorem stepKeepsSuspensionsAuthorised : Obligations.StepKeepsSuspensionsAuthorised := by
  intro s t hs h
  rcases step_cases h with rfl | ⟨c, q, e⟩
  · exact ((tick_touches s).sameZones rfl rfl).authorised hs
  · exact suspensionsAuthorised_keptByZoneWork.exec (s := s.withPending q) hs e

end Sys2Proof.Machine

/-! PROOFS. An evaluation of the Slew Limiter: what it leaves, and what the zones call for, said by the rules (R78 to R90). -/

namespace Sys2Proof.Machine

/-! ## The tests of one zone (R78 to R85) -/

theorem slewAngleValid_iff (sl : Sl) (p : Pose) : (slewInputs sl p).valid = true ↔ SlewValid sl p := by
  simp [slewInputs, slewAngleValid, SlewValid]

theorem slewInputs_lead (sl : Sl) (p : Pose) : (slewInputs sl p).lead = leadOf sl p := rfl

theorem angle_sub_toNat (a b : Angle) : ((a - b).toNat : Int) = ((a.toNat : Int) - b.toNat) % 65536 := by
  rw [BitVec.toNat_sub]
  have := b.isLt
  omega

theorem endAngle_toNat (z : ZoneRecord) : (z.endAngle.toNat : Int) = ((z.start.toNat : Int) + z.extent - 1) % 65536 := by
  have one : ((1 : Angle).toNat : Int) = 1 := rfl
  rw [ZoneRecord.endAngle, angle_sub_toNat, one, BitVec.toNat_add, BitVec.toNat_ofNat]
  omega

/-- The four distances of the slew tests, on either side of the sector's start and of its end. -/
theorem distances (z : ZoneRecord) (a : Angle) :
    ((a - z.start).toNat : Int) = ((a.toNat : Int) - z.start.toNat) % 65536 ∧
      ((z.start - a).toNat : Int) = ((z.start.toNat : Int) - a.toNat) % 65536 ∧
      ((a - z.endAngle).toNat : Int) = ((a.toNat : Int) - (z.start.toNat + z.extent - 1)) % 65536 ∧
      ((z.endAngle - a).toNat : Int) = ((z.start.toNat : Int) + z.extent - 1 - a.toNat) % 65536 := by
  refine ⟨angle_sub_toNat _ _, angle_sub_toNat _ _, ?_, ?_⟩ <;>
  · rw [angle_sub_toNat, endAngle_toNat]
    omega

/-- With a sector that is not the whole circle, an angle lies in it by its distance from the start (R58). -/
theorem inSector_iff_distance (z : ZoneRecord) (a : Angle) (h : z.extent ≠ 0) :
    z.inSector a = true ↔ ((a.toNat : Int) - z.start.toNat) % 65536 < z.extent := by
  have hd := angle_sub_toNat a z.start
  rw [inSector_iff]
  omega

theorem allows_left (rate : Int) : Side.allows .left (motionOf rate) = true ↔ 0 ≤ rate := by
  unfold motionOf
  split_ifs <;> simp [Side.allows] <;> omega

theorem allows_right (rate : Int) : Side.allows .right (motionOf rate) = true ↔ rate ≤ 0 := by
  unfold motionOf
  split_ifs <;> simp [Side.allows] <;> omega

/-- The motion does not lead away from the side (R79). -/
def towards (d : Side) (rate : Int) : Prop :=
  match d with
  | .left => 0 ≤ rate
  | .right => rate ≤ 0

theorem allows_iff (d : Side) (rate : Int) : Side.allows d (motionOf rate) = true ↔ towards d rate := by
  cases d
  · exact allows_left rate
  · exact allows_right rate

/-- The test of a KEEP_OUT or CEILING zone, by the distances mod 65 536 (R81). -/
theorem keepOutCut_iff (z : ZoneRecord) (p : Pose) (reach : Nat) (d : Side) :
    keepOutCut z p.slewAngle reach (motionOf p.slewRate) d = true ↔ CutFound { z with kind := .keepOut } p reach d := by
  obtain ⟨fromStart, toStart, fromEnd, toEnd⟩ := distances z p.slewAngle
  have allows := allows_iff d p.slewRate
  unfold keepOutCut CutFound
  simp only []
  split_ifs with whole inside
  · simp [whole]
  · rw [inSector_iff_distance z _ whole] at inside
    cases d <;> simp only [decide_eq_true_eq, whole, inside, not_true_eq_false, false_and, or_false, false_or, true_and] <;> omega
  · rw [inSector_iff_distance z _ whole] at inside
    rw [Bool.and_eq_true, allows]
    cases d <;>
      simp only [decide_eq_true_eq, whole, inside, not_false_eq_true, false_and, false_or, true_and, towards] <;> omega

/-- The test of a KEEP_IN zone, by the distances mod 65 536 (R83). -/
theorem keepInCut_iff (z : ZoneRecord) (p : Pose) (reach : Nat) (d : Side) :
    keepInCut z p.slewAngle reach (motionOf p.slewRate) d = true ↔ CutFound { z with kind := .keepIn } p reach d := by
  obtain ⟨fromStart, toStart, fromEnd, toEnd⟩ := distances z p.slewAngle
  have allows := allows_iff d p.slewRate
  unfold keepInCut CutFound
  simp only []
  split_ifs with whole inside
  · simp [whole]
  · rw [inSector_iff_distance z _ whole] at inside
    rw [Bool.and_eq_true, allows]
    cases d <;>
      simp only [decide_eq_true_eq, whole, inside, ne_eq, not_false_eq_true, not_true_eq_false, false_and, or_false, true_and,
        towards] <;> omega
  · rw [inSector_iff_distance z _ whole] at inside
    cases d <;> simp only [decide_eq_true_eq, whole, inside, ne_eq, not_false_eq_true, false_and, false_or, true_and] <;> omega

/-- The slew test of a zone, by the distances mod 65 536 (R81, R83). -/
theorem slewTest_iff (z : ZoneRecord) (p : Pose) (reach : Nat) (d : Side) :
    slewTest z p.slewAngle reach (motionOf p.slewRate) d = true ↔ CutFound z p reach d := by
  have out := keepOutCut_iff z p reach d
  have inn := keepInCut_iff z p reach d
  unfold slewTest
  unfold CutFound at out inn ⊢
  cases kind : z.kind with
  | keepOut | ceiling => exact out
  | keepIn => exact inn
  | truckBay => simp

/-- A greater distance finds every cut that a lesser one finds. -/
theorem CutFound.mono {z : ZoneRecord} {p : Pose} {a b : Nat} {d : Side} (h : CutFound z p a d) (le : a ≤ b) :
    CutFound z p b d := by
  have le' : (a : Int) ≤ b := by omega
  unfold CutFound at *
  cases kind : z.kind with
  | keepOut | ceiling =>
    rw [kind] at h
    rcases h with whole | inside | ⟨outside, motion, near⟩
    · exact .inl whole
    · exact .inr (.inl inside)
    · refine .inr (.inr ⟨outside, motion, ?_⟩)
      cases d <;> exact le_trans near le'
  | keepIn =>
    rw [kind] at h
    rcases h with ⟨part, ⟨inside, motion, near⟩ | outside⟩
    · refine ⟨part, .inl ⟨inside, motion, ?_⟩⟩
      cases d <;> exact le_trans near le'
    · exact ⟨part, .inr outside⟩
  | truckBay => rw [kind] at h; exact h

theorem CutCalled.mono {sl : Sl} {z : ZoneRecord} {p : Pose} {a b : Nat} {d : Side} (h : CutCalled sl p z a d) (le : a ≤ b) :
    CutCalled sl p z b d := ⟨h.1, h.2.1, h.2.2.mono (by omega)⟩

/-! ## What an evaluation finds for one entry (R80 to R90) -/

theorem takingPart_kind {e : ZoneEntry} {z : ZoneRecord} (h : e.takingPart = some z) : z.kind ≠ .truckBay := by
  unfold ZoneEntry.takingPart at h
  split at h
  · split_ifs at h with part
    cases h
    intro kind
    simp [kind, ZoneKind.drivesCuts] at part
  · cases h

/-- A cut held before goes on: it is called for with the release hysteresis added, and the motion has not reversed (R84). -/
def CutKept (sl : Sl) (p : Pose) (z : ZoneRecord) (held : Bool) (d : Side) : Prop :=
  held = true ∧ CutCalled sl p z (leadOf sl p + sl.settings.hysteresis) d ∧ towards d p.slewRate

theorem slewCutDue_iff (sl : Sl) (p : Pose) (z : ZoneRecord) (held : Bool) (d : Side) :
    ((slewInputs sl p).valid && slewCutDue (slewInputs sl p) z held d) = true ↔
      CutCalled sl p z (leadOf sl p) d ∨ CutKept sl p z held d := by
  have afresh := slewTest_iff z p (leadOf sl p + z.angularMargin) d
  have kept := slewTest_iff z p (leadOf sl p + z.angularMargin + sl.settings.hysteresis) d
  have sum : leadOf sl p + sl.settings.hysteresis + z.angularMargin = leadOf sl p + z.angularMargin + sl.settings.hysteresis := by
    omega
  have allows := allows_iff d p.slewRate
  unfold CutKept CutCalled
  rw [Bool.and_eq_true, slewAngleValid_iff, slewCutDue, Bool.or_eq_true, sum]
  unfold dueAfresh keptCut
  simp only [Bool.and_eq_true, zoneApplies_iff, ← afresh, ← kept, ← allows]
  simp only [slewInputs, show leadAngle sl.settings.deceleration p.slewRate = leadOf sl p from rfl]
  tauto

theorem caution_iff (sl : Sl) (p : Pose) (z : ZoneRecord) (m : ZoneMarks) :
    ((slewInputs sl p).valid &&
      (cautionTest (slewInputs sl p) z m.leftHeld .left || cautionTest (slewInputs sl p) z m.rightHeld .right)) = true ↔
      ∃ d, CutCalled sl p z (2 * leadOf sl p) d ∧
        ((slewInputs sl p).valid && slewCutDue (slewInputs sl p) z (heldMark m d) d) = false := by
  have test (d : Side) : cautionTest (slewInputs sl p) z (heldMark m d) d = true ↔ ZoneApplies z p ∧
      CutFound z p (2 * leadOf sl p + z.angularMargin) d ∧ slewCutDue (slewInputs sl p) z (heldMark m d) d = false := by
    have found := slewTest_iff z p (2 * leadOf sl p + z.angularMargin) d
    unfold cautionTest
    simp only [Bool.and_eq_true, zoneApplies_iff, ← found, Bool.not_eq_true', and_assoc]
    rfl
  have left := test .left
  have right := test .right
  unfold CutCalled
  rw [Bool.and_eq_true, Bool.or_eq_true, slewAngleValid_iff]
  constructor
  · rintro ⟨valid, h | h⟩
    · obtain ⟨applies, found, due⟩ := left.1 h
      exact ⟨.left, ⟨valid, applies, found⟩, by rw [due, Bool.and_false]⟩
    · obtain ⟨applies, found, due⟩ := right.1 h
      exact ⟨.right, ⟨valid, applies, found⟩, by rw [due, Bool.and_false]⟩
  · rintro ⟨d, ⟨valid, applies, found⟩, due⟩
    rw [(slewAngleValid_iff sl p).2 valid, Bool.true_and] at due
    refine ⟨valid, ?_⟩
    cases d
    · exact .inl (left.2 ⟨applies, found, due⟩)
    · exact .inr (right.2 ⟨applies, found, due⟩)

theorem boomCutDue_iff (sl : Sl) (p : Pose) (z : ZoneRecord) :
    boomCutDue (slewInputs sl p) z = true ↔ BoomCutCalled sl p z := by
  have valid := slewAngleValid_iff sl p
  unfold boomCutDue BoomCutCalled
  simp only [Bool.and_eq_true, Bool.or_eq_true, beq_iff_eq, zoneApplies_iff, Bool.not_eq_true', ← valid, Bool.not_eq_true]
  simp only [slewInputs, and_assoc, or_assoc]

theorem zoneIntruded_iff (sl : Sl) (p : Pose) (z : ZoneRecord) :
    zoneIntruded (slewInputs sl p) z = true ↔ Intruded sl p z := by
  have valid := slewAngleValid_iff sl p
  unfold zoneIntruded Intruded
  rw [Bool.and_eq_true, Bool.and_eq_true, valid, and_assoc]
  refine and_congr_right fun _ => and_congr (by simp [slewInputs]) ?_
  cases z.kind <;> simp [slewInputs, zoneApplies_iff]

/-! ## What an evaluation leaves (R86 to R90) -/

/-- The outcomes of an evaluation on a pose. -/
def outcomesOn (p : Pose) (s : State) : Vector ZoneOutcome 16 := zoneOutcomes (slewInputs s.sl p) s.sl s.zt

/-- Whether an evaluation on a pose finds the machine HELD. -/
def heldOn (p : Pose) (s : State) : Bool := !(slewInputs s.sl p).valid && anyTakingPart s.zt

/-- The causes an evaluation on a pose finds. -/
def causesOn (p : Pose) (s : State) : CutCauses := causesOf (heldOn p s) (outcomesOn p s)

/-- The slew state an evaluation on a pose finds. -/
def stateOn (p : Pose) (s : State) : SlewState := slewStateOf (heldOn p s) (outcomesOn p s)

/-- The CUTS an evaluation counts, for the three lines. -/
def cutsCounted (p : Pose) (s t : State) : State :=
  let set := cutSetOf (causesOn p s)
  countCuts s.sl.cutSet.boomUp set.boomUp (causesOn p s).boomUp
    (countCuts s.sl.cutSet.right set.right (causesOn p s).right (countCuts s.sl.cutSet.left set.left (causesOn p s).left t))

/-- What an evaluation on a pose leaves, before its CUTS are counted and its SLEW STATE is queued. -/
def cutsTaken (p : Pose) (s : State) : State :=
  requestSlAlarm (SlewState.alarm (stateOn p s)) (onMlu (Mlu.takeCutSet (cutSetOf (causesOn p s)))
    (onSl (fun sl => { sl with
      marks := marksOf (outcomesOn p s), state := stateOn p s, cutSet := cutSetOf (causesOn p s), causes := causesOn p s })
      (settleIntrusions (slewInputs s.sl p) (outcomesOn p s) s)))

theorem evaluateOn_eq (p : Pose) (s : State) : evaluateOn p s =
    if stateOn p s = s.sl.state ∧ cutSetOf (causesOn p s) = s.sl.cutSet then cutsCounted p s (cutsTaken p s)
    else queueNotice (.slewState (slewReport (slewInputs s.sl p) s.sl (stateOn p s) (cutSetOf (causesOn p s)) (causesOn p s)
      (cutsCounted p s (cutsTaken p s)).now)) (cutsCounted p s (cutsTaken p s)) := rfl

theorem cutsCounted_frame (p : Pose) (s t : State) : Frame { zt := true } t (cutsCounted p s t) :=
  ((countCuts_frame _ _ _ _).trans (countCuts_frame _ _ _ _)).trans (countCuts_frame _ _ _ _)

theorem settleIntrusions_frame (i : SlewInputs) (o : Vector ZoneOutcome 16) (s : State) :
    Frame { zt := true, choices := true } s (settleIntrusions i o s) := by
  refine anyOrder_frame rfl _ _ fun f m s => ?_
  obtain ⟨k, -, rfl⟩ := List.mem_map.1 m
  exact (settleIntrusion_frame _ k _ s).mono rfl

/-- An evaluation ends in the counts of its CUTS and its SLEW STATE, which leave the cuts as taken. -/
theorem evaluateOn_from_cutsTaken (p : Pose) (s : State) : Frame { zt := true } (cutsTaken p s) (evaluateOn p s) := by
  rw [evaluateOn_eq]
  split_ifs
  · exact cutsCounted_frame _ _ _
  · exact (cutsCounted_frame _ _ _).trans ((queueNotice_frame _ _).mono rfl)

theorem evaluateOn_sl (p : Pose) (s : State) : (evaluateOn p s).sl = { s.sl with
    marks := marksOf (outcomesOn p s), state := stateOn p s, cutSet := cutSetOf (causesOn p s), causes := causesOn p s } := by
  rw [(evaluateOn_from_cutsTaken p s).sl rfl]
  have kept := (settleIntrusions_frame (slewInputs s.sl p) (outcomesOn p s) s).sl rfl
  simp only [cutsTaken, requestSlAlarm, onMlu_sl, onSl_sl, kept]

/-- The lines and the copy take the cut set, and the Slew Limiter's slot the alarm of the state (R30, R87). -/
theorem evaluateOn_mlu (p : Pose) (s : State) : (evaluateOn p s).mlu.cutLines = cutSetOf (causesOn p s) ∧
    (evaluateOn p s).mlu.cutCopy = cutSetOf (causesOn p s) ∧
    (evaluateOn p s).mlu.slots = { s.mlu.slots with sl := SlewState.alarm (stateOn p s) } := by
  rw [(evaluateOn_from_cutsTaken p s).mlu rfl]
  have kept := (settleIntrusions_frame (slewInputs s.sl p) (outcomesOn p s) s).mlu rfl
  simp only [cutsTaken, requestSlAlarm, onMlu_mlu, onSl_mlu, kept]
  obtain ⟨-, -, lines, copy, slots, -⟩ := redrive_fields _ _
  rw [lines, copy, slots]
  simp [Mlu.takeCutSet]

theorem evaluateSlew_some {p : Pose} {s : State} (h : s.sl.pose = some p) : evaluateSlew s = evaluateOn p s := by
  simp only [evaluateSlew, h]

theorem evaluateSlew_none {s : State} (h : s.sl.pose = none) : evaluateSlew s = s := by
  simp only [evaluateSlew, h]

/-! ## What the zones call for (R80 to R90) -/

theorem outcomesOn_get (p : Pose) (s : State) (k : Fin 16) :
    (outcomesOn p s)[k] = zoneOutcome (slewInputs s.sl p) s.zt.zones[k] s.sl.marks[k] := by
  simp [outcomesOn, zoneOutcomes]

theorem outcome_none {p : Pose} {s : State} {k : Fin 16} (h : s.zt.zones[k].takingPart = none) :
    (outcomesOn p s)[k] = {} := by
  rw [outcomesOn_get, zoneOutcome, h]

/-- The held marks that an evaluation leaves at a zone that takes part: the cuts called for, and those kept (R81 to R84). -/
theorem outcome_held {p : Pose} {s : State} {k : Fin 16} {z : ZoneRecord} (h : s.zt.zones[k].takingPart = some z) (d : Side) :
    heldMark (marksOf (outcomesOn p s))[k] d = true ↔
      CutCalled s.sl p z (leadOf s.sl p) d ∨ CutKept s.sl p z (heldMark s.sl.marks[k] d) d := by
  have due := slewCutDue_iff s.sl p z (heldMark s.sl.marks[k] d) d
  rw [← due]
  have outcome := outcomesOn_get p s k
  have mark : (marksOf (outcomesOn p s))[k].leftHeld = (outcomesOn p s)[k].left ∧
      (marksOf (outcomesOn p s))[k].rightHeld = (outcomesOn p s)[k].right := by simp [marksOf]
  rw [zoneOutcome, h] at outcome
  cases d
  · simp only [heldMark, mark.1, outcome]
  · simp only [heldMark, mark.2, outcome]

theorem outcome_caution {p : Pose} {s : State} {k : Fin 16} {z : ZoneRecord} (h : s.zt.zones[k].takingPart = some z) :
    (outcomesOn p s)[k].caution = true ↔
      ∃ d, CutCalled s.sl p z (2 * leadOf s.sl p) d ∧ heldMark (marksOf (outcomesOn p s))[k] d = false := by
  have held (d : Side) := outcome_held (p := p) h d
  have due (d : Side) := slewCutDue_iff s.sl p z (heldMark s.sl.marks[k] d) d
  have caution := caution_iff s.sl p z s.sl.marks[k]
  rw [outcomesOn_get, zoneOutcome, h, caution]
  refine exists_congr fun d => and_congr_right fun _ => ?_
  rw [← Bool.not_eq_true, ← Bool.not_eq_true, held, due]

theorem outcome_intruded {p : Pose} {s : State} {k : Fin 16} {z : ZoneRecord} (h : s.zt.zones[k].takingPart = some z) :
    (outcomesOn p s)[k].intruded = true ↔ Intruded s.sl p z := by
  rw [outcomesOn_get, zoneOutcome, h]
  exact zoneIntruded_iff s.sl p z

theorem outcome_boomUp {p : Pose} {s : State} {k : Fin 16} :
    (outcomesOn p s)[k].boomUp = true ↔ ∃ z ∈ s.zt.zones[k].takingPart, BoomCutCalled s.sl p z := by
  cases h : s.zt.zones[k].takingPart with
  | none => simp [outcome_none h]
  | some z =>
    rw [outcomesOn_get, zoneOutcome, h]
    simp [boomCutDue_iff]

theorem heldOn_iff (p : Pose) (s : State) : heldOn p s = true ↔ SlewHeld s p := by
  unfold heldOn SlewHeld anyTakingPart
  rw [Bool.and_eq_true, Bool.not_eq_true', ← slewAngleValid_iff, Bool.not_eq_true]
  refine and_congr_right fun _ => ?_
  rw [List.any_eq_true]
  constructor
  · rintro ⟨e, m, h⟩
    obtain ⟨k, hk, rfl⟩ := Vector.mem_iff_getElem.1 (Vector.mem_toList_iff.1 m)
    exact ⟨⟨k, hk⟩, h⟩
  · rintro ⟨k, h⟩
    exact ⟨_, Vector.mem_toList_iff.2 (Vector.getElem_mem k.isLt), h⟩

theorem mem_zonesWhere {f : ZoneOutcome → Bool} {o : Vector ZoneOutcome 16} {k : Fin 16} : k ∈ zonesWhere f o ↔ f o[k] = true := by
  simp [zonesWhere]

theorem any_outcome {f : ZoneOutcome → Bool} {o : Vector ZoneOutcome 16} : o.toList.any f = true ↔ ∃ k : Fin 16, f o[k] = true := by
  rw [List.any_eq_true]
  constructor
  · rintro ⟨e, m, h⟩
    obtain ⟨k, hk, rfl⟩ := Vector.mem_iff_getElem.1 (Vector.mem_toList_iff.1 m)
    exact ⟨⟨k, hk⟩, h⟩
  · rintro ⟨k, h⟩
    exact ⟨_, Vector.mem_toList_iff.2 (Vector.getElem_mem k.isLt), h⟩

end Sys2Proof.Machine

/-! PROOFS. What every step keeps of the cuts: an evaluation leaves the Slew Limiter settled (R77 to R90), and whatever an
evaluation reads is changed with an evaluation (R91, R94). -/

namespace Sys2Proof.Machine

/-! ## An evaluation settles the Slew Limiter -/

theorem takingPart_of_held {a b : ZoneEntry} (h : a.held = b.held) : a.takingPart = b.takingPart := by
  simp only [ZoneEntry.takingPart, h]

theorem limiting_iff (o : Vector ZoneOutcome 16) : (o.toList.any fun z => z.left || z.right || z.boomUp) = true ↔
    (zonesWhere ZoneOutcome.left o ≠ [] ∨ zonesWhere ZoneOutcome.right o ≠ [] ∨ zonesWhere ZoneOutcome.boomUp o ≠ []) := by
  have nonempty (f : ZoneOutcome → Bool) : zonesWhere f o ≠ [] ↔ ∃ k : Fin 16, f o[k] = true := by
    constructor
    · intro h
      obtain ⟨k, m⟩ := List.exists_mem_of_ne_nil _ h
      exact ⟨k, mem_zonesWhere.1 m⟩
    · rintro ⟨k, h⟩
      exact List.ne_nil_of_mem (mem_zonesWhere.2 h)
  simp only [any_outcome, nonempty, Bool.or_eq_true, exists_or, or_assoc]

/-- The slew state is the first of its table that holds (R87). -/
theorem slewStateOf_iff (held : Bool) (o : Vector ZoneOutcome 16) :
    let set := cutSetOf (causesOf held o)
    (slewStateOf held o = .held ↔ held = true) ∧
      (slewStateOf held o = .limiting ↔ held = false ∧ (set.left = true ∨ set.right = true ∨ set.boomUp = true)) ∧
      (slewStateOf held o = .caution ↔ held = false ∧ set = { left := false, right := false, boomUp := false } ∧
        ∃ k : Fin 16, o[k].caution = true) := by
  have limiting := limiting_iff o
  have due (b : Bool) (l : List (Fin 16)) : LineCauses.due { zones := l, held := b } = true ↔ b = true ∨ l ≠ [] := by
    cases l <;> simp [LineCauses.due]
  have idle (b : Bool) (l : List (Fin 16)) : LineCauses.due { zones := l, held := b } = false ↔ b = false ∧ l = [] := by
    cases l <;> simp [LineCauses.due]
  have caution := any_outcome (f := ZoneOutcome.caution) (o := o)
  simp only [cutSetOf, causesOf, due, idle, CutSet.mk.injEq]
  unfold slewStateOf
  cases held with
  | true => simp
  | false =>
    simp only [Bool.false_eq_true, if_false, false_or, true_and]
    split_ifs with any anyCaution
    · have := limiting.1 any
      simp [this]; tauto
    · have := mt limiting.2 any
      simp only [not_or, not_not] at this
      simp [this]
      simpa using caution.1 anyCaution
    · have := mt limiting.2 any
      simp only [not_or, not_not] at this
      simp [this]
      simpa using mt caution.2 anyCaution

theorem evaluateSlew_takingPart (s : State) (k : Fin 16) :
    (evaluateSlew s).zt.zones[k].takingPart = s.zt.zones[k].takingPart :=
  takingPart_of_held ((evaluateSlew_sameZones s).held k)

theorem marksOf_get (o : Vector ZoneOutcome 16) (k : Fin 16) : (marksOf o)[k] =
    { leftHeld := o[k].left, rightHeld := o[k].right, caution := o[k].caution, intrusion := o[k].intruded } := by
  simp [marksOf]

theorem due_iff (c : LineCauses) : LineCauses.due c = true ↔ c.held = true ∨ c.zones ≠ [] := by
  cases h : c.zones <;> simp [LineCauses.due, h]

theorem causesOf_fields (held : Bool) (o : Vector ZoneOutcome 16) : causesOf held o =
    { left := { zones := zonesWhere ZoneOutcome.left o, held := held }
      right := { zones := zonesWhere ZoneOutcome.right o, held := held }
      boomUp := { zones := zonesWhere ZoneOutcome.boomUp o, held := false } } := rfl

theorem evaluateSlew_settled {p : Pose} {s : State} (pose : s.sl.pose = some p) : SlewSettled (evaluateSlew s) p := by
  have part := evaluateSlew_takingPart s
  have eval := evaluateSlew_some pose
  obtain ⟨lines, copy, slots⟩ := evaluateOn_mlu p s
  have sl := evaluateOn_sl p s
  rw [← eval] at lines copy slots sl
  rw [causesOn] at lines copy
  rw [stateOn] at slots
  have marks (k : Fin 16) : (evaluateSlew s).sl.marks[k] = (marksOf (outcomesOn p s))[k] := by rw [sl]
  have state : (evaluateSlew s).sl.state = slewStateOf (heldOn p s) (outcomesOn p s) := by rw [sl]; rfl
  have cutSet : (evaluateSlew s).sl.cutSet = cutSetOf (causesOf (heldOn p s) (outcomesOn p s)) := by rw [sl]; rfl
  have causes : (evaluateSlew s).sl.causes = causesOf (heldOn p s) (outcomesOn p s) := by rw [sl]; rfl
  have health : (evaluateSlew s).sl.health = s.sl.health := by rw [sl]
  have settings : (evaluateSlew s).sl.settings = s.sl.settings := by rw [sl]
  have held : SlewHeld (evaluateSlew s) p ↔ heldOn p s = true := by
    rw [heldOn_iff]
    simp only [SlewHeld, SlewValid, part, health]
  have notHeld : ¬heldOn p s = true ↔ heldOn p s = false := by rw [Bool.not_eq_true]
  obtain ⟨isHeld, isLimiting, isCaution⟩ := slewStateOf_iff (heldOn p s) (outcomesOn p s)
  unfold SlewSettled
  simp only [held, notHeld, part, marks, state, cutSet, lines, copy, slots]
  simp only [causes, causesOf_fields, cutSetOf, due_iff, mem_zonesWhere, Bool.false_eq_true, false_or]
  simp only [causesOf_fields, cutSetOf, due_iff, Bool.false_eq_true, false_or] at isLimiting isCaution
  have called (z : ZoneRecord) (n : Nat) (d : Side) : CutCalled (evaluateSlew s).sl p z n d ↔ CutCalled s.sl p z n d := by
    simp only [CutCalled, SlewValid, health]
  have lead : leadOf (evaluateSlew s).sl p = leadOf s.sl p := by simp only [leadOf, settings]
  refine ⟨fun k none => ?_, fun k z taking => ⟨?_, ?_⟩, fun k => ⟨?_, ?_, ?_⟩, trivial, trivial, trivial, trivial, trivial,
    trivial, isHeld, isLimiting, ?_, ?_, trivial, trivial⟩
  · rw [marksOf_get, outcome_none none]
  · simp only [called, lead]
    have mark : (marksOf (outcomesOn p s))[k].caution = (outcomesOn p s)[k].caution := by rw [marksOf_get]
    rw [mark]
    exact outcome_caution taking
  · simp only [Intruded, SlewValid, health]
    rw [marksOf_get]
    exact outcome_intruded taking
  · rw [marksOf_get]
  · rw [marksOf_get]
  · simp only [BoomCutCalled, SlewValid, health]
    exact outcome_boomUp
  · refine isCaution.trans (and_congr_right fun _ => and_congr_right fun _ => exists_congr fun k => ?_)
    rw [marksOf_get]
  · cases slewStateOf (heldOn p s) (outcomesOn p s) <;> rfl

/-- The held marks of an evaluation: each cut called for is held, and none is held that the hysteresis would not call for (R81,
R83, R84). -/
theorem evaluateSlew_held {p : Pose} {s : State} (pose : s.sl.pose = some p) {k : Fin 16} {z : ZoneRecord}
    (taking : s.zt.zones[k].takingPart = some z) (d : Side) : heldMark (evaluateSlew s).sl.marks[k] d = true ↔
      CutCalled s.sl p z (leadOf s.sl p) d ∨ CutKept s.sl p z (heldMark s.sl.marks[k] d) d := by
  have sl := evaluateOn_sl p s
  rw [← evaluateSlew_some pose] at sl
  have marks : (evaluateSlew s).sl.marks[k] = (marksOf (outcomesOn p s))[k] := by rw [sl]
  rw [marks]
  exact outcome_held taking d

/-- An evaluation leaves the settings, the pose in use and the health copy (R77). -/
theorem evaluateSlew_slKept (s : State) : (evaluateSlew s).sl.settings = s.sl.settings ∧
    (evaluateSlew s).sl.pose = s.sl.pose ∧ (evaluateSlew s).sl.health = s.sl.health := by
  cases pose : s.sl.pose with
  | none => rw [evaluateSlew_none pose]; exact ⟨rfl, pose, rfl⟩
  | some p => rw [evaluateSlew_some pose, evaluateOn_sl]; exact ⟨rfl, pose, rfl⟩

/-! ## The cuts stand -/

/-- Before the first evaluation all lines are asserted, with no causes and no marks (R31, R94). -/
def Unevaluated (s : State) : Prop :=
  s.sl.cutSet = { left := true, right := true, boomUp := true } ∧ s.sl.causes = {} ∧ s.sl.state = .held ∧
    (∀ k : Fin 16, s.sl.marks[k] = {}) ∧ s.mlu.slots.sl = .off ∧ s.mlu.cutLines = s.sl.cutSet ∧ s.mlu.cutCopy = s.sl.cutSet

/-- The Slew Limiter is settled on a pose, each mark held within the hysteresis (R81 to R87). -/
def Evaluated (s : State) (p : Pose) : Prop :=
  SlewSettled s p ∧
    ∀ k : Fin 16, ∀ z ∈ s.zt.zones[k].takingPart, ∀ d : Side,
      (CutCalled s.sl p z (leadOf s.sl p) d → heldMark s.sl.marks[k] d = true) ∧
        (heldMark s.sl.marks[k] d = true → CutCalled s.sl p z (leadOf s.sl p + s.sl.settings.hysteresis) d)

/-- The cuts stand as the zones call for on the pose in use, or as before the first evaluation. -/
def CutsStand (s : State) : Prop :=
  match s.sl.pose with
  | none => Unevaluated s
  | some p => Evaluated s p

theorem cutsInForce_iff (s : State) : CutsInForce s ↔ s.sl.health = s.scu[(3 : Fin 6)].health ∧ CutsStand s := Iff.rfl

/-- While no pose is in use no evaluation has been made. -/
def NotYet (s : State) : Prop := s.sl.pose = none → Unevaluated s

theorem CutsStand.notYet {s : State} (h : CutsStand s) : NotYet s := fun pose => by
  unfold CutsStand at h
  rw [pose] at h
  exact h

theorem evaluateSlew_stands {s : State} (h : NotYet s) : CutsStand (evaluateSlew s) := by
  obtain ⟨settings, pose', health⟩ := evaluateSlew_slKept s
  cases pose : s.sl.pose with
  | none =>
    rw [evaluateSlew_none pose]
    unfold CutsStand
    rw [pose]
    exact h pose
  | some p =>
    unfold CutsStand
    rw [pose', pose]
    refine ⟨evaluateSlew_settled pose, fun k z taking d => ?_⟩
    rw [evaluateSlew_takingPart] at taking
    have called (n : Nat) : CutCalled (evaluateSlew s).sl p z n d ↔ CutCalled s.sl p z n d := by
      simp only [CutCalled, SlewValid, health]
    have lead : leadOf (evaluateSlew s).sl p = leadOf s.sl p := by simp only [leadOf, settings]
    rw [evaluateSlew_held pose taking, called, called, lead, settings]
    refine ⟨.inl, ?_⟩
    rintro (called | ⟨-, kept, -⟩)
    · exact called.mono (by omega)
    · exact kept

/-- What the standing of the cuts reads: the zones held, the Slew Limiter's part of the lines, and what its evaluation leaves. -/
structure SameSlew (s t : State) : Prop where
  held     : ∀ k : Fin 16, t.zt.zones[k].held = s.zt.zones[k].held
  request  : t.mlu.slots.sl = s.mlu.slots.sl
  lines    : t.mlu.cutLines = s.mlu.cutLines
  copy     : t.mlu.cutCopy = s.mlu.cutCopy
  settings : t.sl.settings = s.sl.settings
  pose     : t.sl.pose = s.sl.pose
  health   : t.sl.health = s.sl.health
  marks    : t.sl.marks = s.sl.marks
  state    : t.sl.state = s.sl.state
  cutSet   : t.sl.cutSet = s.sl.cutSet
  causes   : t.sl.causes = s.sl.causes

theorem SameCuts.sameSlew {s t : State} (h : SameCuts s t) : SameSlew s t :=
  ⟨h.held, h.request, h.lines, h.copy, h.settings, h.pose, h.health, h.marks, h.state, h.cutSet, h.causes⟩

theorem SameSlew.notYet {s t : State} (h : SameSlew s t) (hs : NotYet s) : NotYet t := fun pose => by
  unfold Unevaluated
  rw [h.cutSet, h.causes, h.state, h.marks, h.request, h.lines, h.copy]
  exact hs (h.pose.symm.trans pose)

/-- What an evaluation reads and leaves, with the same zones taking part: the cuts stand still. -/
theorem SameSlew.stands {s t : State} (h : SameSlew s t) (hs : CutsStand s) : CutsStand t := by
  cases pose : s.sl.pose with
  | none =>
    unfold CutsStand
    rw [h.pose, pose]
    exact h.notYet hs.notYet (h.pose.trans pose)
  | some p =>
    unfold CutsStand at hs ⊢
    rw [h.pose, pose]
    rw [pose] at hs
    have part (k : Fin 16) : t.zt.zones[k].takingPart = s.zt.zones[k].takingPart := takingPart_of_held (h.held k)
    have valid : SlewValid t.sl p ↔ SlewValid s.sl p := by simp only [SlewValid, h.health]
    have called (z : ZoneRecord) (n : Nat) (d : Side) : CutCalled t.sl p z n d ↔ CutCalled s.sl p z n d := by
      simp only [CutCalled, valid]
    have lead : leadOf t.sl p = leadOf s.sl p := by simp only [leadOf, h.settings]
    simp only [Evaluated, SlewSettled, SlewHeld, Intruded, BoomCutCalled, part, valid, called, lead, h.settings, h.marks, h.state,
      h.cutSet, h.causes, h.request, h.lines, h.copy] at hs ⊢
    exact hs

/-- The count and its alarm are no part of the cuts. -/
theorem settleUnanchored_sameSlew (s : State) : SameSlew s (settleUnanchored s) := by
  unfold settleUnanchored
  simp only []
  split_ifs
  · exact ⟨fun _ => rfl, rfl, rfl, rfl, rfl, rfl, rfl, rfl, rfl, rfl, rfl⟩
  · obtain ⟨-, -, lines, copy, slots⟩ := requestZtAlarm_fields (ztAlarmFor (unanchoredCount s.zt.zones))
      { s with zt := { s.zt with unanchored := unanchoredCount s.zt.zones } }
    exact ⟨fun _ => rfl, (congrArg AlarmSlots.sl slots).trans rfl, lines, copy, rfl, rfl, rfl, rfl, rfl, rfl, rfl⟩

/-- A change that leaves the Slew Limiter and the lines leaves it unevaluated. -/
theorem NotYet.of_fields {s t : State} (hs : NotYet s) (sl : t.sl = s.sl) (request : t.mlu.slots.sl = s.mlu.slots.sl)
    (lines : t.mlu.cutLines = s.mlu.cutLines) (copy : t.mlu.cutCopy = s.mlu.cutCopy) : NotYet t := by
  unfold NotYet Unevaluated
  rw [sl, request, lines, copy]
  exact hs

theorem NotYet.of_touches {b : Blocks} {s t : State} (h : Touches b s t) (mlu : b.mlu = false) (sl : b.sl = false)
    (hs : NotYet s) : NotYet t := hs.of_fields (h.sl sl) (by rw [h.mlu mlu]) (by rw [h.mlu mlu]) (by rw [h.mlu mlu])

/-- What leaves the lines, and of the Slew Limiter what a reset of it sets, leaves it unevaluated. -/
theorem onSl_notYet {f : Sl → Sl} {s : State} (pose : (f s.sl).pose = s.sl.pose)
    (h : Unevaluated s → Unevaluated (onSl f s)) (hs : NotYet s) : NotYet (onSl f s) := fun none =>
  h (hs (pose.symm.trans none))

theorem forgetZone_notYet (k : Fin 16) {s : State} (hs : NotYet s) : NotYet (forgetZone k s) := by
  have cleared : NotYet (onSl (fun sl => { sl with marks := sl.marks.set k {} }) s) := by
    refine onSl_notYet rfl (fun h => ?_) hs
    obtain ⟨cutSet, causes, state, marks, rest⟩ := h
    refine ⟨cutSet, causes, state, fun i => ?_, rest⟩
    simp only [onSl_sl, Fin.getElem_fin, Vector.getElem_set]
    split_ifs
    · rfl
    · exact marks i
  unfold forgetZone
  simp only []
  split_ifs
  · exact cleared.of_touches (queueNotice_frame _ _).touches rfl rfl
  · exact cleared

/-! ## The operations on the zones and the cuts -/

theorem rearmZones_stands (a : Authority) {s : State} (h : NotYet s) : CutsStand (rearmZones a s) :=
  evaluateSlew_stands (NotYet.of_touches (zoneNotices_frame _ _).touches rfl rfl (h.of_fields rfl rfl rfl rfl))

theorem travelZones_stands {s : State} (h : CutsStand s) : CutsStand (travelZones s) := by
  unfold travelZones
  simp only []
  split_ifs
  · exact evaluateSlew_stands ((settleUnanchored_sameSlew _).notYet
      (NotYet.of_touches (zoneNotices_frame _ _).touches rfl rfl (h.notYet.of_fields rfl rfl rfl rfl)))
  · exact h

theorem settleAuthority_stands {s : State} (h : CutsStand s) : CutsStand (settleAuthority s) := by
  unfold settleAuthority
  simp only []
  split_ifs
  · exact h
  · exact rearmZones_stands _ (NotYet.of_touches (queueNotice_frame _ _).touches rfl rfl (h.notYet.of_fields rfl rfl rfl rfl))

theorem readInputs_stands (x : InputSamples) {s : State} (h : CutsStand s) : CutsStand (readInputs x s) := by
  have frame {b : Blocks} {s t : State} (k : Frame b s t) (mlu : b.mlu = false) (zt : b.zt = false) (sl : b.sl = false)
      (h : CutsStand s) : CutsStand t := (k.touches.sameCuts mlu zt sl).sameSlew.stands h
  refine readInputs_keeps (fun s h => h) x (fun s h => h) (fun f m u hu => ?_) s h
  simp only [List.mem_cons, List.not_mem_nil, or_false] at m
  rcases m with rfl | rfl | rfl | rfl | rfl | rfl | rfl
  · exact frame (takeActivity_frame _) rfl rfl rfl hu
  · exact frame (takeSeatChange_frame _) rfl rfl rfl hu
  · exact travelZones_stands hu
  · exact frame (toUnknown_frame _) rfl rfl rfl hu
  · exact frame (travelLoads_frame _) rfl rfl rfl hu
  · exact frame (travelEndedAtCt_frame _) rfl rfl rfl hu
  · exact settleAuthority_stands hu

/-- The evaluation that follows the replacing of an entry makes the cuts stand, before a change of the count or after it. -/
theorem replaceFollowers_stands (k : Fin 16) {s : State} (h : NotYet s) :
    CutsStand (anyOrder ((if unanchoredCount s.zt.zones = s.zt.unanchored then [] else [settleUnanchored]) ++
      [fun s => evaluateSlew (forgetZone k s)]) s) := by
  have evaluate {u : State} (hu : NotYet u) : CutsStand (evaluateSlew (forgetZone k u)) :=
    evaluateSlew_stands (forgetZone_notYet k hu)
  refine (anyOrder_establishes (P := NotYet) (Q := CutsStand) (fun _ _ h => h) (fun _ _ h => h) _ (fun f m u hu => ?_)
    (fun f m u hu hq => ?_) (.inr ⟨_, List.mem_append_right _ List.mem_cons_self, fun u hu => evaluate hu⟩) h).2
  · rcases mem_ite_append_singleton m with rfl | rfl
    · exact (settleUnanchored_sameSlew u).notYet hu
    · exact (evaluate hu).notYet
  · rcases mem_ite_append_singleton m with rfl | rfl
    · exact (settleUnanchored_sameSlew u).stands hq
    · exact evaluate hu

theorem replaceZone_stands (k : Fin 16) (z : Option Zone) {s : State} (h : CutsStand s) : CutsStand (replaceZone k z s) := by
  refine replaceFollowers_stands k ?_
  split
  · exact h.notYet.of_fields rfl rfl rfl rfl
  · exact h.notYet.of_fields rfl rfl rfl rfl

theorem moveZone_stands (k : Fin 16) (x : ZoneState) {s : State} (h : CutsStand s) : CutsStand (moveZone k x s) :=
  evaluateSlew_stands (h.notYet.of_fields rfl rfl rfl rfl)

theorem reanchorZones_stands (d : Angle) {s : State} (h : CutsStand s) : CutsStand (reanchorZones d s) := by
  unfold reanchorZones
  simp only []
  refine evaluateSlew_stands ((settleUnanchored_sameSlew _).notYet
    (NotYet.of_touches (zoneNotices_frame _ _).touches rfl rfl ?_))
  split_ifs <;> exact h.notYet.of_fields rfl rfl rfl rfl

theorem fresh_stands {s : State} {settings : SlewSettings} {turns : BitVec 32} {health : Health} {a : AlarmPattern}
    (sl : s.sl = .fresh settings turns health) (mlu : s.mlu = .fresh a) : CutsStand s := by
  have pose : s.sl.pose = none := by rw [sl]; rfl
  unfold CutsStand
  rw [pose]
  unfold Unevaluated
  rw [sl, mlu]
  exact ⟨rfl, rfl, rfl, fun k => by fin_cases k <;> rfl, rfl, rfl, rfl⟩

theorem cutsStand_keptByZoneWork : KeptByZoneWork CutsStand where
  same h hs := h.sameSlew.stands hs
  reading _ _ _ h := h
  readInputs x _ h := readInputs_stands x h
  deliverPose _ _ h := evaluateSlew_stands fun none => by cases none
  deliverHealth _ _ h := evaluateSlew_stands (onSl_notYet rfl (fun h => h) h.notYet)
  replaceZone k z _ _ h := replaceZone_stands k z h
  suspendZone k _ _ _ _ _ h := moveZone_stands k _ h
  resumeZone k _ _ _ _ h := moveZone_stands k _ h
  reanchorZones d _ h := reanchorZones_stands d h
  slewSettings _ _ _ same h := evaluateSlew_stands (same.sameSlew.notYet (onSl_notYet rfl (fun h => h) h.notYet))
  fresh _ _ _ _ _ _ _ := fresh_stands rfl rfl
  unpowered _ _ := fresh_stands rfl rfl

end Sys2Proof.Machine

/-! PROOFS. What every step keeps of the slew channel's health copy (R18, R78), and with it the cuts in force. -/

namespace Sys2Proof.Machine

/-- The health copy of the Slew Limiter is the slew channel's health (R18, R78). -/
def SlewHealthCopied (s : State) : Prop := s.sl.health = s.scu[(3 : Fin 6)].health

/-- The copy and the health stay. -/
structure SameHealth (s t : State) : Prop where
  copy    : t.sl.health = s.sl.health
  channel : t.scu[(3 : Fin 6)].health = s.scu[(3 : Fin 6)].health

theorem SameHealth.copied {s t : State} (h : SameHealth s t) (hs : SlewHealthCopied s) : SlewHealthCopied t :=
  h.copy.trans (hs.trans h.channel.symm)

theorem SameHealth.refl (s : State) : SameHealth s s := ⟨rfl, rfl⟩

theorem SameHealth.trans {s t u : State} (h : SameHealth s t) (k : SameHealth t u) : SameHealth s u :=
  ⟨k.copy.trans h.copy, k.channel.trans h.channel⟩

theorem SameHealth.after {s t u : State} (k : SameHealth t u) (h : SameHealth s t) : SameHealth s u := h.trans k

theorem Touches.sameHealth {b : Blocks} {s t : State} (h : Touches b s t) (scu : b.scu = false) (sl : b.sl = false) :
    SameHealth s t := ⟨by rw [h.sl sl], by rw [h.scu scu]⟩

theorem Frame.sameHealth {b : Blocks} {s t : State} (h : Frame b s t) (scu : b.scu = false) (sl : b.sl = false) :
    SameHealth s t := h.touches.sameHealth scu sl

/-! ## The channels -/

theorem onChannel_sameHealth (ch : Fin 6) {f : Channel → Channel} (h : ∀ c, (f c).health = c.health) (s : State) :
    SameHealth s (onChannel ch f s) := by
  refine ⟨rfl, ?_⟩
  by_cases e : ch = 3
  · subst e; rw [onChannel_self, h]
  · rw [onChannel_other ch f s (Ne.symm e)]

theorem withPressureTaken_sameHealth (ct : Ct) (s : State) : SameHealth s (withPressureTaken ct s) :=
  ⟨rfl, by simp [withPressureTaken]⟩

theorem drainPressure_sameHealth (s : State) : SameHealth s (drainPressure s) := by
  rw [drainPressure_eq]; exact withPressureTaken_sameHealth _ s

theorem onCt_sameHealth (f : Ct → Ct) (s : State) : SameHealth s (onCt f s) := (onCt_frame f s).sameHealth rfl rfl

theorem endRun_sameHealth (r : Run) (o : RunOutcome) (s : State) : SameHealth s (endRun r o s) :=
  ((onCt_sameHealth _ s).trans ((queueNotice_frame _ _).sameHealth rfl rfl)).trans (drainPressure_sameHealth _)

theorem hardFail_sameHealth (f : RunFailure) (s : State) : SameHealth s (hardFail f s) := by
  unfold hardFail
  split
  · exact SameHealth.refl s
  · exact endRun_sameHealth _ _ s

theorem nextStep_sameHealth (s : State) : SameHealth s (nextStep s) := by
  unfold nextStep
  split
  · exact onCt_sameHealth _ s
  · exact (onCt_sameHealth _ s).trans (drainPressure_sameHealth _)

theorem judgeStep_sameHealth (r : Run) (w : Window) (s : State) : SameHealth s (judgeStep r w s) := by
  obtain ⟨u, hu, h⟩ := judgeStep_cases r w s
  have same : SameHealth s u := by
    rcases hu with hu | ⟨r', hu⟩ | ⟨a, b, hu⟩ <;> rw [hu]
    · exact SameHealth.refl s
    · exact onCt_sameHealth _ s
    · exact (writeTables_frame a b s).sameHealth rfl rfl
  rcases h with h | ⟨r', o, h⟩ <;> rw [h]
  · exact same.trans (nextStep_sameHealth u)
  · exact same.trans (endRun_sameHealth _ _ u)

theorem startComputation_sameHealth (s : State) : SameHealth s (startComputation s) := by
  rw [startComputation_eq]; exact ⟨rfl, rfl⟩

theorem onPs_sameHealth (f : Ps → Ps) (s : State) : SameHealth s (onPs f s) := (onPs_frame f s).sameHealth rfl rfl

theorem requestComputation_sameHealth (s : State) : SameHealth s (requestComputation s) := by
  rw [requestComputation_eq]
  split_ifs
  · exact ⟨rfl, rfl⟩
  · exact ⟨rfl, rfl⟩

theorem deliverHealthToCt_sameHealth (h : Health) (s : State) : SameHealth s (deliverHealthToCt h s) :=
  deliverHealthToCt_keeps (P := SameHealth s) (fun _ k => k.trans ⟨rfl, rfl⟩) h (onCt_sameHealth _ s)
    (fun u k => k.trans (hardFail_sameHealth _ u)) (fun u k => k.trans (onCt_sameHealth _ u))

/-! ## The Slew Limiter -/

theorem evaluateSlew_sameHealth (s : State) : SameHealth s (evaluateSlew s) :=
  ⟨(evaluateSlew_slKept s).2.2, by rw [(evaluateSlew_frame s).scu rfl]⟩

theorem readSlewTravel_sameHealth (x : Sample) (s : State) : SameHealth s (readSlewTravel x s) :=
  ⟨(readSlewTravel_sameCuts x s).health, by rw [(readSlewTravel_frame x s).scu rfl]⟩

theorem deliverPoseToSl_sameHealth (p : Pose) (s : State) : SameHealth s (deliverPoseToSl p s) :=
  (evaluateSlew_sameHealth _).after ⟨rfl, rfl⟩

theorem deliverHealthToSl_copies (h : Health) (s : State) : (deliverHealthToSl h s).sl.health = h :=
  (evaluateSlew_slKept _).2.2

theorem deliverHealthToSl_channel (h : Health) (s : State) : (deliverHealthToSl h s).scu = s.scu :=
  (deliverHealthToSl_frame h s).scu rfl

theorem settleUnanchored_sameHealth (s : State) : SameHealth s (settleUnanchored s) :=
  (settleUnanchored_frame s).sameHealth rfl rfl

theorem zoneNotices_sameHealth (f : Fin 16 → Option ZoneEvent) (s : State) : SameHealth s (zoneNotices f s) :=
  (zoneNotices_frame f s).sameHealth rfl rfl

theorem forgetZone_sameHealth (k : Fin 16) (s : State) : SameHealth s (forgetZone k s) := by
  unfold forgetZone
  simp only []
  split_ifs
  · exact ((queueNotice_frame _ _).sameHealth rfl rfl).after ⟨rfl, rfl⟩
  · exact ⟨rfl, rfl⟩

theorem rearmZones_sameHealth (a : Authority) (s : State) : SameHealth s (rearmZones a s) :=
  SameHealth.trans ((withZones_frame _ s).sameHealth rfl rfl)
    ((zoneNotices_sameHealth _ _).trans (evaluateSlew_sameHealth _))

theorem travelZones_sameHealth (s : State) : SameHealth s (travelZones s) := by
  unfold travelZones
  simp only []
  split_ifs
  · exact (((SameHealth.trans ((withZones_frame _ s).sameHealth rfl rfl) (zoneNotices_sameHealth _ _)).trans
      (settleUnanchored_sameHealth _)).trans (evaluateSlew_sameHealth _))
  · exact SameHealth.refl s

theorem settleAuthority_sameHealth (s : State) : SameHealth s (settleAuthority s) := by
  unfold settleAuthority
  simp only []
  split_ifs
  · exact SameHealth.refl s
  · exact (SameHealth.trans ((onMlu_frame _ s).sameHealth rfl rfl) ((queueNotice_frame _ _).sameHealth rfl rfl)).trans
      (rearmZones_sameHealth _ _)

theorem replaceZone_sameHealth (k : Fin 16) (z : Option Zone) (s : State) : SameHealth s (replaceZone k z s) := by
  refine anyOrder_keeps (P := SameHealth s) (fun _ h => h.trans ⟨rfl, rfl⟩) _ _ (fun f m u hu => ?_)
    (SameHealth.trans ((onZone_frame k _ s).sameHealth rfl rfl) ((markedIf_frame _ _).sameHealth rfl rfl))
  rcases mem_ite_append_singleton m with rfl | rfl
  · exact hu.trans (settleUnanchored_sameHealth u)
  · exact hu.trans ((forgetZone_sameHealth k u).trans (evaluateSlew_sameHealth _))

theorem reanchorZones_sameHealth (d : Angle) (s : State) : SameHealth s (reanchorZones d s) := by
  unfold reanchorZones
  simp only []
  refine SameHealth.trans ?_ (((zoneNotices_sameHealth _ _).trans (settleUnanchored_sameHealth _)).trans
    (evaluateSlew_sameHealth _))
  split_ifs
  · exact ⟨rfl, rfl⟩
  · exact ⟨rfl, rfl⟩

theorem readInputs_sameHealth (x : InputSamples) (s : State) : SameHealth s (readInputs x s) := by
  refine readInputs_keeps (P := SameHealth s) (fun _ h => h.trans ⟨rfl, rfl⟩) x (fun _ h => h.trans ⟨rfl, rfl⟩)
    (fun f m u hu => hu.trans ?_) s (SameHealth.refl s)
  simp only [List.mem_cons, List.not_mem_nil, or_false] at m
  rcases m with rfl | rfl | rfl | rfl | rfl | rfl | rfl
  · exact (takeActivity_frame _).sameHealth rfl rfl
  · exact (takeSeatChange_frame _).sameHealth rfl rfl
  · exact travelZones_sameHealth u
  · exact (toUnknown_frame _).sameHealth rfl rfl
  · exact (travelLoads_frame _).sameHealth rfl rfl
  · exact (travelEndedAtCt_frame _).sameHealth rfl rfl
  · exact settleAuthority_sameHealth u

theorem completePose_sameHealth (c : Computation) (s : State) : SameHealth s (completePose c s) := by
  unfold completePose startPending
  simp only []
  generalize assemblePose s.ps c s.now = p
  have delivered : SameHealth s (deliverPose p (serveTip p (settleOverdig p
      (onPs (fun ps => { ps with pose := p, inFlight := none }) s)))) := by
    refine deliverPose_keeps (P := SameHealth s) (fun _ h => h.trans ⟨rfl, rfl⟩) _ _ (fun f m u hu => hu.trans ?_)
      ((((onPs_sameHealth _ s).trans ((settleOverdig_frame _ _).sameHealth rfl rfl)).trans
        ((serveTip_frame _ _).sameHealth rfl rfl)).trans ((takePoseAtCt_frame _ _).sameHealth rfl rfl))
    simp only [List.mem_cons, List.not_mem_nil, or_false] at m
    rcases m with rfl | rfl | rfl | rfl | rfl
    · exact deliverPoseToSl_sameHealth _ u
    · exact hardFail_sameHealth _ u
    · exact (arrivePass_frame _ _).sameHealth rfl rfl
    · exact (takeActivity_frame _).sameHealth rfl rfl
    · exact (takePhaseChange_frame _ _).sameHealth rfl rfl
  split_ifs
  · exact delivered.trans ((onPs_sameHealth _ _).trans (startComputation_sameHealth _))
  · exact delivered

/-! ## A change of health (R18) -/

/-- A change of health of another channel than the slew channel does not go to the Slew Limiter (R18). -/
theorem mem_healthActions_notSlew {ch : Fin 6} (hch : ch ≠ 3) {a b : Health} {f : State → State}
    (m : f ∈ healthActions ch a b) :
    f ∈ [fun s => queueNotice (.channelHealth ch a b s.now) s, requestComputation, deliverHealthToCt b] := by
  unfold healthActions at m
  rw [if_neg hch] at m
  split_ifs at m <;> simp at m ⊢ <;> tauto

/-- What reaches neither the Slew Limiter's copy nor the slew channel's health. -/
theorem otherDelivery_sameHealth {ch : Fin 6} {a b h : Health} {x : Sample} {f : State → State}
    (m : f ∈ [fun s => queueNotice (.channelHealth ch a b s.now) s, requestComputation, deliverHealthToCt h, readSlewTravel x,
      drainPressure]) (s : State) : SameHealth s (f s) := by
  simp only [List.mem_cons, List.not_mem_nil, or_false] at m
  rcases m with rfl | rfl | rfl | rfl | rfl
  · exact (queueNotice_frame _ _).sameHealth rfl rfl
  · exact requestComputation_sameHealth s
  · exact deliverHealthToCt_sameHealth h s
  · exact readSlewTravel_sameHealth x s
  · exact drainPressure_sameHealth s

/-- The deliveries of the slew channel, once its context is settled: the copy follows its health (R18, R78). -/
theorem slewDeliveries_copy {qs : List (List (State → State))} {ch : Fin 6} {a b new : Health} {x : Sample} {s : State}
    (sub : ∀ q ∈ qs, ∀ f ∈ q, f = deliverHealthToSl new ∨ f ∈ [fun s => queueNotice (.channelHealth ch a b s.now) s,
      requestComputation, deliverHealthToCt new, readSlewTravel x, drainPressure])
    (health : s.scu[(3 : Fin 6)].health = new) (copied : s.sl.health = new ∨ ∃ q ∈ qs, deliverHealthToSl new ∈ q) :
    SlewHealthCopied (interleave qs s) := by
  have both := interleave_establishes (P := fun u => u.scu[(3 : Fin 6)].health = new) (Q := fun u => u.sl.health = new)
    (fun _ _ h => h) (fun _ _ h => h) qs
    (fun q mq f mf u hu => by
      rcases sub q mq f mf with rfl | m
      · rw [deliverHealthToSl_channel]; exact hu
      · exact (otherDelivery_sameHealth m u).channel.trans hu)
    (fun q mq f mf u hu hq => by
      rcases sub q mq f mf with rfl | m
      · exact deliverHealthToSl_copies new u
      · exact (otherDelivery_sameHealth m u).copy.trans hq)
    (copied.imp_right fun ⟨q, mq, m⟩ => ⟨q, mq, _, m, fun u _ => deliverHealthToSl_copies new u⟩) health
  exact both.2.trans both.1.symm

theorem healthActions_slew (a b : Health) : healthActions 3 a b =
    if a = b then [] else [fun s => queueNotice (.channelHealth 3 a b s.now) s, requestComputation, deliverHealthToSl b] := by
  unfold healthActions
  split_ifs <;> simp_all

theorem onChannel_slew_other {ch : Fin 6} (h : ch ≠ 3) (f : Channel → Channel) (s : State) :
    SameHealth s (onChannel ch f s) := ⟨rfl, by rw [onChannel_other ch f s (Ne.symm h)]⟩

theorem changeChannel_copied (ch : Fin 6) (g : Channel → Channel) {s : State} (hs : SlewHealthCopied s) :
    SlewHealthCopied (changeChannel ch g s) := by
  unfold changeChannel
  by_cases hch : ch = 3
  · subst hch
    rw [healthActions_slew]
    refine slewDeliveries_copy (ch := 3) (a := s.scu[(3 : Fin 6)].health) (b := (g s.scu[(3 : Fin 6)]).health)
      (new := (g s.scu[(3 : Fin 6)]).health) (x := { a := 0, b := 0, stamp := 0, flags := {} })
      (fun q mq f mf => ?_) (by rw [onChannel_self]) ?_
    · obtain ⟨f', m, rfl⟩ := List.mem_map.1 mq
      obtain rfl : f = f' := by simpa using mf
      split_ifs at m <;> simp at m ⊢; tauto
    · by_cases h : s.scu[(3 : Fin 6)].health = (g s.scu[(3 : Fin 6)]).health
      · exact .inl (hs.trans h)
      · exact .inr ⟨[deliverHealthToSl (g s.scu[(3 : Fin 6)]).health], by rw [if_neg h]; simp, by simp⟩
  · refine (anyOrder_keeps (P := SameHealth s) (fun _ h => h.trans ⟨rfl, rfl⟩) _ _ (fun f m u hu => hu.trans ?_)
      (onChannel_slew_other hch g s)).copied hs
    exact otherDelivery_sameHealth (ch := ch) (x := { a := 0, b := 0, stamp := 0, flags := {} })
      (by have := mem_healthActions_notSlew hch m; simp at this ⊢; tauto) u

theorem arriveFrame_copied (ch : Fin 6) (bytes : List Byte) {s : State} (hs : SlewHealthCopied s) :
    SlewHealthCopied (arriveFrame ch bytes s) := by
  unfold arriveFrame
  simp only []
  by_cases hch : ch = 3
  · subst hch
    rw [healthActions_slew]
    generalize hc : ({ s.scu[(3 : Fin 6)] with assembler := .hunting } : Channel) = c
    refine slewDeliveries_copy (ch := 3) (a := s.scu[(3 : Fin 6)].health) (b := (Channel.afterFrame 3 bytes s.now c).health)
      (new := (Channel.afterFrame 3 bytes s.now c).health) (x := acceptedSample 3 bytes s.now c)
      (fun q mq f mf => ?_) (by rw [onChannel_self]) ?_
    · rcases List.mem_cons.1 mq with rfl | m
      · split_ifs at mf
        · have := mem_sampleActions mf
          simp at this ⊢; tauto
        · simp at mf
      · obtain ⟨f', m, rfl⟩ := List.mem_map.1 m
        obtain rfl : f = f' := by simpa using mf
        split_ifs at m <;> simp at m ⊢; tauto
    · by_cases h : s.scu[(3 : Fin 6)].health = (Channel.afterFrame 3 bytes s.now c).health
      · exact .inl (hs.trans h)
      · exact .inr ⟨[deliverHealthToSl (Channel.afterFrame 3 bytes s.now c).health], by rw [if_neg h]; simp, by simp⟩
  · refine (interleave_keeps (P := SameHealth s) (fun _ h => h.trans ⟨rfl, rfl⟩) _ _ (fun q mq f mf u hu => hu.trans ?_)
      (onChannel_slew_other hch _ s)).copied hs
    rcases List.mem_cons.1 mq with rfl | m
    · split_ifs at mf
      · exact otherDelivery_sameHealth (ch := ch) (a := .off) (b := .off) (h := .off)
          (by have := mem_sampleActions mf; simp at this ⊢; tauto) u
      · simp at mf
    · obtain ⟨f', mh, rfl⟩ := List.mem_map.1 m
      obtain rfl : f = f' := by simpa using mf
      exact otherDelivery_sameHealth (x := { a := 0, b := 0, stamp := 0, flags := {} })
        (by have := mem_healthActions_notSlew hch mh; simp at this ⊢; tauto) u

/-! ## Every command -/

theorem fresh_copied {s : State} {settings : SlewSettings} {turns : BitVec 32}
    (sl : s.sl = .fresh settings turns s.scu[(3 : Fin 6)].health) : SlewHealthCopied s := by
  unfold SlewHealthCopied
  rw [sl]
  rfl

theorem resetState_copied (r : Retained) (un : Fin 16 → Bool) (rs : Rs) (rate : LinkRate) (tx : Transmitter)
    (started : Notice) (s : State) : SlewHealthCopied (resetState r un rs rate tx started s) := by
  have at3 : (resetState r un rs rate tx started s).scu[(3 : Fin 6)] = r.channels[(3 : Fin 6)].freshChannel :=
    resetChannels_at r 3
  refine fresh_copied (settings := r.slew) (turns := r.slewTurns) ?_
  rw [at3]
  rfl

theorem exec_keeps_copied {c : Instr} {s t : State} (hs : SlewHealthCopied s) (e : exec c s = .next t) : SlewHealthCopied t := by
  have touches {s t : State} (h : Touches {} s t) (hs : SlewHealthCopied s) : SlewHealthCopied t :=
    (h.sameHealth rfl rfl).copied hs
  have owner {kind tag : Byte} {body : List Byte} {level : Authority} {ok : List Byte → Bool} {owner : Owner}
      (e : interpret kind level ok owner tag body s = .next t) (h : ∀ u, SameHealth u (owner body u).1) : SlewHealthCopied t :=
    interpret_keeps touches e (fun u hu => (h u).copied hu) hs
  cases c with
  | restartTakesEffect | powerOn | powerLoss =>
    rcases exec_reset e trivial with rfl | ⟨-, rfl⟩ | ⟨strap, rfl⟩ | ⟨image, rfl⟩
    · exact hs
    · exact resetState_copied ..
    · exact resetState_copied ..
    · exact fresh_copied (settings := .default) (turns := 0) rfl
  | sensorFrameArrival ch char =>
    rcases sensorFrameArrival_cases e with rfl | ⟨bytes, -, -, -, rfl⟩
    · exact hs
    · exact arriveFrame_copied ch _ hs
  | sensorCharacter ch char | sensorFramingError ch | breakDetectorSample ch high =>
    rcases eq_or_of_whenDue e with rfl | ⟨-, rfl⟩
    · exact hs
    · exact (onChannel_sameHealth ch (by intro; rfl) s).copied hs
  | breakDetected ch | breakEnd ch | staleTimerExpiry ch | silentTimerExpiry ch =>
    rcases eq_or_of_whenDue e with rfl | ⟨-, rfl⟩
    · exact hs
    · exact changeChannel_copied ch _ hs
  | inputLevelChange x =>
    rcases eq_or_of_whenDue e with rfl | ⟨-, rfl⟩
    · exact hs
    · exact (readInputs_sameHealth x s).copied hs
  | poseCompletion =>
    rcases poseCompletion_cases e with rfl | ⟨c, -, rfl⟩
    · exact hs
    · exact (completePose_sameHealth c s).copied hs
  | calibrationStepEnd =>
    rcases calibrationStepEnd_cases e with rfl | ⟨r, w, -, -, rfl⟩
    · exact hs
    · exact (judgeStep_sameHealth r w s).copied hs
  | channelSet tag body =>
    refine interpret_keeps touches e (fun u hu => ?_) hs
    rcases channelSetOwner_cases body u with h | ⟨ch, new, -, h⟩ <;> rw [h]
    · exact hu
    · exact changeChannel_copied ch _ (((markedIf_frame _ u).sameHealth rfl rfl).copied hu)
  | channelRestart tag body =>
    refine interpret_keeps touches e (fun u hu => ?_) hs
    rcases channelRestartOwner_cases body u with h | ⟨ch, -, h⟩ <;> rw [h]
    · exact hu
    · exact changeChannel_copied ch _ hu
  | channelStatus tag body =>
    refine owner e fun u => ?_
    rcases channelStatusOwner_cases body u with h | ⟨ch, h⟩ <;> rw [h]
    · exact SameHealth.refl u
    · exact onChannel_sameHealth ch (by intro; rfl) u
  | geometrySet tag body =>
    refine owner e fun u => ?_
    unfold geometrySetOwner
    rcases withFields_cases geometrySet? _ body u with h | ⟨g, -, h⟩ <;> rw [h]
    · exact SameHealth.refl u
    · refine SameHealth.trans (anyOrder_keeps (P := SameHealth u) (fun _ h => h.trans ⟨rfl, rfl⟩) _ _ (fun f m v hv => hv.trans ?_)
        (SameHealth.refl u)) (requestComputation_sameHealth _)
      rcases List.mem_cons.1 m with rfl | m
      · exact (replaceGeometry_frame g v).sameHealth rfl rfl
      · obtain ⟨-, rfl⟩ := mem_ite_singleton m
        exact hardFail_sameHealth _ v
  | gradeSet tag body =>
    refine owner e fun u => ?_
    unfold gradeSetOwner requestForGrade
    rcases withFields_cases gradeSet? _ body u with h | ⟨g, -, h⟩ <;> rw [h]
    · exact SameHealth.refl u
    · simp only []
      split_ifs
      · exact onPs_sameHealth _ u
      · exact (onPs_sameHealth _ u).trans (startComputation_sameHealth _)
  | zoneWrite tag body =>
    refine owner e fun u => ?_
    rcases zoneWriteOwner_cases body u with h | ⟨k, z, -, h⟩ <;> rw [h]
    · exact SameHealth.refl u
    · exact replaceZone_sameHealth k z u
  | zoneClear tag body =>
    refine owner e fun u => ?_
    rcases zoneClearOwner_cases body u with h | ⟨k, h⟩ <;> rw [h]
    · exact SameHealth.refl u
    · exact replaceZone_sameHealth k none u
  | zoneSuspend tag body =>
    refine owner e fun u => ?_
    rcases zoneSuspendOwner_cases body u with h | ⟨k, z, -, -, -, h⟩ <;> rw [h]
    · exact SameHealth.refl u
    · exact (evaluateSlew_sameHealth _).after ⟨rfl, rfl⟩
  | zoneResume tag body =>
    refine owner e fun u => ?_
    rcases zoneResumeOwner_cases body u with h | ⟨k, z, -, -, h⟩ <;> rw [h]
    · exact SameHealth.refl u
    · exact (evaluateSlew_sameHealth _).after ⟨rfl, rfl⟩
  | reanchor tag body =>
    refine owner e fun u => ?_
    rcases reanchorOwner_cases body u with h | ⟨d, h⟩ <;> rw [h]
    · exact SameHealth.refl u
    · exact reanchorZones_sameHealth d u
  | slewSettings tag body =>
    refine owner e fun u => ?_
    rcases slewSettingsOwner_cases body u with h | ⟨new, -, h⟩ <;> rw [h]
    · exact SameHealth.refl u
    · refine SameHealth.trans ?_ (evaluateSlew_sameHealth _)
      split
      · exact ⟨rfl, rfl⟩
      · exact ⟨rfl, rfl⟩
  | cycleSettings tag body =>
    refine owner e fun u => ?_
    unfold cycleSettingsOwner
    rcases withFields_cases cycleSettings? _ body u with h | ⟨op, -, h⟩ <;> rw [h]
    · exact SameHealth.refl u
    · cases op with
      | read => exact SameHealth.refl u
      | write c =>
        exact (SameHealth.trans (onCt_sameHealth _ u) ((markedIf_frame _ _).sameHealth rfl rfl)).trans (hardFail_sameHealth _ _)
  | calibrateCancel tag body =>
    refine owner e fun u => ?_
    unfold calibrateCancelOwner
    split
    · exact SameHealth.refl u
    · exact endRun_sameHealth _ _ u
  | _ => exact ((exec_touches id e).sameHealth rfl rfl).copied hs

/-- Settles O11: each evaluation makes the cuts those that the zones call for, and every change of what it reads ends in one; the
slew channel's health reaches the copy in whatever order its deliveries run. -/
theorem stepKeepsCutsInForce : Obligations.StepKeepsCutsInForce := by
  intro s t hs h
  rcases step_cases h with rfl | ⟨c, q, e⟩
  · exact ⟨((tick_touches s).sameHealth rfl rfl).copied hs.1, ((tick_touches s).sameCuts rfl rfl rfl).sameSlew.stands hs.2⟩
  · exact ⟨exec_keeps_copied (s := s.withPending q) hs.1 e, cutsStand_keptByZoneWork.exec (s := s.withPending q) hs.2 e⟩

end Sys2Proof.Machine

/-! PROOFS. The reset state meets the invariants, and the commands of the link and of the lines that no other block takes part in. -/

namespace Sys2Proof.Machine

/-! ## The reset state -/

theorem reset_cutsInForce : CutsInForce State.reset := (cutsInForce_iff _).2 ⟨rfl, fresh_stands (settings := .default) (turns := 0)
  (health := .acquiring) (a := .off) rfl rfl⟩

theorem reset_linkBounded : LinkBounded State.reset := by
  refine ⟨by decide, by decide, by decide, by decide, by decide, rfl, fun free => ?_, by decide⟩
  cases free

/-- Settles O6: each invariant by what makes a fresh block meet it. -/
theorem resetMeetsInvariants : Obligations.ResetMeetsInvariants :=
  ⟨reset_channelsConsistent, reset_authorised, mluFresh_right _, reset_counted, reset_cutsInForce,
    freshState_calibration rfl rfl, lrFresh_whole _ _ _, (economyFollowsMode_iff _).2 (emFresh_right _ _), reset_service, trivial, reset_linkBounded⟩

/-! ## The shape of an event, and of a command that queues no notice -/

theorem whenDue_of_due {due : Bool} {s : State} {f : State → State} (h : due = true) : whenDue due s f = .next (f s) := by
  rw [whenDue, h]; rfl

/-- A command that passes the common checks, whose owner leaves the Link Controller: its effect and the reply (R172, R173,
R175). -/
theorem interpret_answered {kind tag : Byte} {body : List Byte} {level : Authority} {ok : List Byte → Bool} {owner : Owner}
    {s u : State} {a : Answer} (h : CommandAllowed kind tag body level s) (hl : ok body = true)
    (e : owner body (takeFrame s) = (u, a)) (lc : u.lc = (takeFrame s).lc) :
    interpret kind level ok owner tag body s = .next { u with
      lc := answered s.lc (replyFrame kind tag a.status (if statusCode a.status < 0x10 then a.fields else [])) } := by
  rw [interpret_allowed h hl, e, placeReply_answered _ lc h.1.2.2.1, replyTo_eq]

/-! ## Characters and line samples (R1, R15) -/

theorem channelRuns_iff (ch : Fin 6) (s : State) :
    channelRuns ch s = true ↔ s.powered = true ∧ s.scu[ch].settings.enable = true := by
  simp [channelRuns]

theorem onChannel_id (ch : Fin 6) (s : State) : onChannel ch id s = s := by
  have kept : s.scu.set ch s.scu[ch] = s.scu := Vector.set_getElem_self ch.isLt
  rw [onChannel, id, kept]

/-- Settles O22: each event of an enabled channel changes its own part of the context. -/
theorem lineEventsStayInContext : Obligations.LineEventsStayInContext := by
  intro ch char s powered enabled
  have runs : channelRuns ch s = true := (channelRuns_iff ch s).2 ⟨powered, enabled⟩
  have character (h : awaitsNinth s.scu[ch].assembler = false) : exec (.sensorCharacter ch char) s =
      .next (onChannel ch (fun c => { c with assembler := Assembler.take char c.assembler }) s) :=
    whenDue_of_due (by rw [runs, h]; rfl)
  have sample (high : Bool) (h : (s.scu[ch].brk.detects high || s.scu[ch].brk.ends high) = false) :
      exec (.breakDetectorSample ch high) s = .next (onChannel ch (fun c => { c with brk := c.brk.sample high }) s) :=
    whenDue_of_due (by rw [Bool.or_eq_false_iff] at h; rw [runs, h.1, h.2]; rfl)
  refine ⟨whenDue_of_due runs, fun hunting start => ?_, fun hunting other => ?_, fun bytes collecting short => ?_,
    fun noEnd => ?_, fun noBreak => ?_⟩
  · rw [character (by rw [hunting]; rfl), onChannel, hunting, Assembler.take, if_pos start, start]
  · rw [character (by rw [hunting]; rfl), onChannel, hunting, Assembler.take, if_neg other, ← hunting]
    exact congrArg Host.Outcome.next (onChannel_id ch s)
  · rw [character (by rw [collecting]; exact beq_eq_false_iff_ne.2 (by omega)), onChannel, collecting, Assembler.take]
  · rw [sample true (by simpa [BreakDetector.detects, BreakDetector.ends, BreakDetector.lastHigh] using noEnd)]
    rfl
  · rw [sample false (by
      rw [and_comm] at noBreak
      simpa [BreakDetector.detects, BreakDetector.ends] using noBreak)]
    rfl

/-! ## Readings and the cadence (R24, R33) -/

/-- A sample that is not accepted becomes the last sample and leaves the level (R24). -/
theorem take_of_not_accepts {d : Debouncer} {v : Bool} (h : Debouncer.accepts d v = false) :
    Debouncer.take d v = { d with last := some v } := by
  simp [Debouncer.take, h]

/-- Settles O27: a reading without a level change, and a period of the cadence that has ended. -/
theorem quietReadingAndCadence : Obligations.QuietReadingAndCadence := by
  intro x len s powered
  refine ⟨fun due quiet => ?_, fun cadence due => ?_⟩
  · have reading : readingDue s = true := by rw [readingDue, powered]; exact decide_eq_true due
    have none' : PerInput.any (changesAt s.mlu x) = false := quiet
    have step : exec (.inputReading x) s = .next (takeReading x s) := whenDue_of_due (by rw [reading, none']; rfl)
    rw [step]
    simp only [PerInput.any, Bool.or_eq_false_iff] at none'
    obtain ⟨⟨⟨⟨⟨⟨pilot, seat⟩, left⟩, right⟩, travel⟩, key⟩, plug⟩ := none'
    simp only [takeReading, onMlu, PerInput.map₂]
    rw [take_of_not_accepts pilot, take_of_not_accepts seat, take_of_not_accepts left, take_of_not_accepts right,
      take_of_not_accepts travel, take_of_not_accepts key, take_of_not_accepts plug]
  · have period : periodLength s.mlu.driven s.mlu.sounder = some len := by
      rcases cadence with ⟨driven, rfl⟩ | ⟨driven, rfl⟩ <;> rw [driven] <;> rfl
    change execAlarmCadence s = _
    unfold execAlarmCadence
    rw [period]
    exact whenDue_of_due (by rw [powered]; exact decide_eq_true due)

/-! ## Characters of the host link (R169) -/

theorem late_eq_false {lc : Lc} (h : (lc.time - lc.lastChar).toNat ≤ 20) : Lc.late lc = false :=
  decide_eq_false (Nat.not_lt.2 h)

theorem late_eq_true {lc : Lc} (h : 20 < (lc.time - lc.lastChar).toNat) : Lc.late lc = true := decide_eq_true h

/-- Settles O57: the receive assembler, character by character. -/
theorem hostCharactersCollect : Obligations.HostCharactersCollect := by
  intro char s powered
  refine ⟨fun hunting start => ?_, fun hunting other => ?_, ?_, fun bytes collecting =>
    ⟨fun inTime one low high => ?_, fun inTime two more => ?_, fun inTime one bad => ?_, fun late => ?_⟩⟩
  · change execHostCharacter char s = _
    unfold execHostCharacter
    rw [hunting]
    simp only []
    rw [whenDue_of_due powered, huntChar, if_pos start, start]
  · change execHostCharacter char s = _
    unfold execHostCharacter
    rw [hunting]
    simp only []
    rw [whenDue_of_due powered, huntChar, if_neg other, ← hunting]
  · change execHostFramingError s = _
    unfold execHostFramingError
    rw [whenDue_of_due powered]
    rfl
  · have good : badLengthChar char = false := by simp [badLengthChar]; omega
    change execHostCharacter char s = _
    unfold execHostCharacter
    rw [collecting]
    exact whenDue_of_due (by simp [powered, late_eq_false inTime, good, awaitsLast, one])
  · change execHostCharacter char s = _
    unfold execHostCharacter
    rw [collecting]
    refine whenDue_of_due ?_
    have notLength : awaitsLength bytes = false := by simp [awaitsLength]; omega
    have notLast : awaitsLast bytes = false := by simp [awaitsLast]; omega
    simp [powered, late_eq_false inTime, notLength, notLast]
  · change execHostLengthError char s = _
    unfold execHostLengthError
    rw [collecting]
    refine whenDue_of_due ?_
    simp [powered, late_eq_false inTime, awaitsLength, one, badLengthChar]
    omega
  · change execHostGapTimeout char s = _
    unfold execHostGapTimeout
    rw [collecting]
    simp only []
    rw [whenDue_of_due (by rw [powered, late_eq_true late]; rfl)]
    unfold huntChar
    split_ifs with start
    · subst start; rfl
    · rfl

end Sys2Proof.Machine

/-! PROOFS. The commands that queue no notice: the effect of the owner, and the reply (R172, R173, R175). -/

namespace Sys2Proof.Machine

/-! ## The link and the store -/

/-- Settles O59: GET STATUS reads before it clears, and no check stands before it; an unknown kind has no owner. -/
theorem getStatusAndUnknownKind : Obligations.GetStatusAndUnknownKind := by
  intro kind tag body s
  refine ⟨fun h => ?_, fun h unknown => ?_⟩
  · have checked : checkedOwner 0x01 .operator (lengthIs 0) getStatusOwner [] (takeFrame s) =
        ({ takeFrame s with lc := { (takeFrame s).lc with noticeLoss := 0, stats := {} } },
          answerDone (statusFields (takeFrame s))) := by
      have low : ¬(takeFrame s).mlu.authority.rank < Authority.operator.rank := Nat.not_lt_zero _
      unfold checkedOwner
      rw [if_neg (by decide), if_neg (by simp [getStatusKind]), if_neg low]
      rfl
    have placed := placeReply_answered (s := { s with lc := { s.lc with noticeLoss := 0, stats := {} } })
      (u := { takeFrame s with lc := { (takeFrame s).lc with noticeLoss := 0, stats := {} } })
      (replyTo 0x01 tag (answerDone (statusFields (takeFrame s)))) rfl h.2.2.1
    have run := interpret_ready (level := .operator) (ok := lengthIs 0) (owner := getStatusOwner) h
    refine (show exec (.getStatus tag []) s = _ from run).trans ?_
    rw [runFrame, checked, placed]
    rfl
  · have known : knownKinds.contains kind = false := by
      rw [List.contains_eq_mem]; exact decide_eq_false unknown
    have due : (takeable kind tag body s && !knownKinds.contains kind) = true := by
      rw [(takeable_iff ..).2 h, known]; rfl
    refine (show exec (.unknownKind kind tag body) s = _ from whenDue_of_due due).trans ?_
    rw [runFrame, placeReply_answered _ rfl h.2.2.1]
    rfl

/-- Settles O53: a snapshot of the content as it stands, and the mark of a RESTART with those of the notices that wait. -/
theorem commitAndRestartBegin : Obligations.CommitAndRestartBegin := by
  intro tag s
  refine ⟨fun h => ⟨fun busy => ?_, fun idle => ?_⟩, fun h => ?_⟩
  · have owner : commitOwner [] (takeFrame s) = (takeFrame s, answerRefused .busy) := if_pos busy
    exact interpret_answered h rfl owner rfl
  · have owner : commitOwner [] (takeFrame s) = (beginCommit .host (takeFrame s), answerAccepted) :=
      if_neg (by rw [takeFrame_rs, idle]; decide)
    exact interpret_answered h rfl owner rfl
  · have run := interpret_allowed (ok := lengthIs 0) (owner := restartOwner) h rfl
    refine (show exec (.restart tag []) s = _ from run).trans ?_
    have placed (r : Reply) := placeReply_answered (s := { s with
        rs := { s.rs with restartPending := true, awaited := none }
        lc := { s.lc with early := List.replicate s.lc.notices.length true } })
      (u := (restartOwner [] (takeFrame s)).1) r rfl h.1.2.2.1
    rw [placed, replyTo_eq]
    cases committing : s.rs.state.isCommitting <;> simp [restartOwner, committing, takeFrame, answerAccepted, answerDone, statusCode]

/-! ## The notice queue and the transmitter (R167, R174, R175) -/

theorem replacesItsKind_iff (n : Notice) : n.replacesItsKind = true ↔ noticeKind n = 0x45 ∨ noticeKind n = 0x4A := by
  cases n <;> simp [Notice.replacesItsKind, noticeKind]

/-- While no RESTART pends the oldest notice is next (R175). -/
theorem nextNotice_running {rs : Rs} (h : rs.restartPending = false) (lc : Lc) : nextNotice rs lc = some 0 := by
  simp [nextNotice, h]

/-- Once the reset is due none is next (R167). -/
theorem nextNotice_due {rs : Rs} (pends : rs.restartPending = true) (idle : rs.state.isCommitting = false) (lc : Lc) :
    nextNotice rs lc = none := by
  simp [nextNotice, pends, idle]

/-- During the commit that a RESTART waits for the oldest early one is next (R167). -/
theorem nextNotice_waits {rs : Rs} (pends : rs.restartPending = true) (busy : rs.state.isCommitting = true) (lc : Lc) :
    nextNotice rs lc = lc.early.findIdx? id := by
  simp [nextNotice, pends, busy]

theorem findIdx?_early_none {early : List Bool} (h : true ∉ early) : early.findIdx? id = none := by
  rw [List.findIdx?_eq_none_iff]
  intro x m
  cases x
  · rfl
  · exact absurd m h

theorem findIdx?_early_some {early : List Bool} {i : Nat} (h : early[i]? = some true) (first : ∀ j < i, early[j]? = some false) :
    early.findIdx? id = some i := by
  obtain ⟨hi, at'⟩ := List.getElem?_eq_some_iff.1 h
  refine List.findIdx?_eq_some_iff_getElem.2 ⟨hi, at', fun j hj => ?_⟩
  have := first j hj
  obtain ⟨hlt, e⟩ := List.getElem?_eq_some_iff.1 this
  rw [e]
  decide

/-- The transmitter stays as it is: it is sending, or it is free with nothing that may be sent. -/
def TransmitterStill (rs : Rs) (lc : Lc) : Prop :=
  lc.tx ≠ .free ∨ (lc.replySlot = none ∧ rs.restartPending = true ∧ (rs.state.isCommitting = false ∨ true ∉ lc.early))

theorem pump_still {rs : Rs} {lc : Lc} (h : TransmitterStill rs lc) : lc.pump (nextNotice rs lc) = lc := by
  unfold Lc.pump
  split
  · rfl
  · next free =>
    rcases h with h | ⟨slot, pends, idle | none'⟩
    · exact absurd free h
    · rw [slot, nextNotice_due pends idle]
    · cases busy : rs.state.isCommitting with
      | false => rw [slot, nextNotice_due pends busy]
      | true => rw [slot, nextNotice_waits pends busy, findIdx?_early_none none']

theorem queueNotice_still {n : Notice} {s : State} (h : TransmitterStill s.rs (s.lc.enqueue n)) :
    queueNotice n s = { s with lc := s.lc.enqueue n } := by
  change { s with lc := (s.lc.enqueue n).pump (nextNotice s.rs (s.lc.enqueue n)) } = _
  rw [pump_still h]

/-- A notice that waits alone of its kind is replaced where it stands (R174). -/
theorem enqueue_replaces {n m : Notice} {before after : List Notice} {lc : Lc} (replaces : n.replacesItsKind = true)
    (notices : lc.notices = before ++ m :: after) (kind : noticeKind m = noticeKind n)
    (hb : ∀ x ∈ before, noticeKind x ≠ noticeKind n) (ha : ∀ x ∈ after, noticeKind x ≠ noticeKind n) :
    lc.enqueue n = { lc with notices := before ++ n :: after, early := lc.early.set before.length false } := by
  have others (l : List Notice) (h : ∀ x ∈ l, noticeKind x ≠ noticeKind n) :
      l.map (fun m => if noticeKind m = noticeKind n then n else m) = l := by
    conv_rhs => rw [← List.map_id l]
    exact List.map_congr_left fun x m => if_neg (h x m)
  have place : (before ++ m :: after).findIdx (fun m => noticeKind m == noticeKind n) = before.length := by
    rw [List.findIdx_append, if_neg, List.findIdx_cons]
    · simp [kind]
    · rw [List.findIdx_lt_length]
      rintro ⟨x, mx, hx⟩
      exact hb x mx (beq_iff_eq.1 hx)
  have any : (lc.notices.any fun m => noticeKind m == noticeKind n) = true := by
    rw [notices]; simp [kind]
  unfold Lc.enqueue
  rw [replaces, any, Bool.and_self, if_pos rfl, notices, place, List.map_append, List.map_cons, others before hb, others after ha, if_pos kind]

/-- A notice of which none waits, or that replaces none, goes to the tail of fewer than 32, or is lost (R174). -/
theorem enqueue_appends {n : Notice} {lc : Lc} (h : n.replacesItsKind = false ∨ ∀ m ∈ lc.notices, noticeKind m ≠ noticeKind n) :
    lc.enqueue n = if lc.notices.length < 32 then { lc with notices := lc.notices ++ [n] }
      else { lc with noticeLoss := satAdd max16 lc.noticeLoss 1 } := by
  have none' : (n.replacesItsKind && lc.notices.any fun m => noticeKind m == noticeKind n) = false := by
    rcases h with h | h
    · rw [h]; rfl
    · rw [Bool.and_eq_false_iff]
      refine .inr (List.any_eq_false.2 fun m hm => ?_)
      simpa using h m hm
  unfold Lc.enqueue
  rw [none']
  rfl

theorem exec_transmitEnd {s : State} (powered : s.powered = true) (sending : s.lc.tx ≠ .free) :
    exec .transmitEnd s = .next { s with lc := s.lc.endTransmission (nextNotice s.rs s.lc) } := by
  change execTransmitEnd s = _
  unfold execTransmitEnd
  rw [whenDue_of_due (by rw [powered]; exact decide_eq_true sending)]

/-- Settles O60: the queue by kind and room, and the transmitter's next frame by what waits. -/
theorem noticeQueueAndTransmitterOrder : Obligations.NoticeQueueAndTransmitterOrder := by
  refine ⟨fun n s => ⟨fun still replaces before m after notices kind hb ha => ?_, fun still other => ⟨fun room => ?_, fun full => ?_⟩,
    fun free slot empty running => ?_⟩, fun s powered sending => ⟨fun r slot => ?_, fun n rest slot notices running => ?_,
    fun i n slot waits notice early first => ?_, fun slot nothing => ?_⟩⟩
  · have enqueued := enqueue_replaces ((replacesItsKind_iff n).2 replaces) notices kind hb ha
    rw [queueNotice_still, enqueued]
    rw [enqueued]
    refine still.imp_right fun ⟨slot, pends, idle⟩ => ⟨slot, pends, idle.imp_right fun none' m => ?_⟩
    rcases List.mem_or_eq_of_mem_set m with m | e
    · exact none' m
    · cases e
  · have enqueued := enqueue_appends (lc := s.lc) (n := n) (other.imp_left fun h => by
      rw [← Bool.not_eq_true, replacesItsKind_iff]; exact h)
    rw [if_pos room] at enqueued
    rw [queueNotice_still (by rw [enqueued]; exact still), enqueued]
  · have enqueued := enqueue_appends (lc := s.lc) (n := n) (other.imp_left fun h => by
      rw [← Bool.not_eq_true, replacesItsKind_iff]; exact h)
    rw [if_neg (by omega)] at enqueued
    rw [queueNotice_still (by rw [enqueued]; exact still), enqueued]
    rfl
  · have enqueued := enqueue_appends (lc := s.lc) (n := n) (.inr (by rw [empty]; simp))
    rw [empty, if_pos (by decide)] at enqueued
    change { s with lc := (s.lc.enqueue n).pump (nextNotice s.rs (s.lc.enqueue n)) } = _
    rw [enqueued, nextNotice_running running]
    simp [Lc.pump, free, slot, empty]
  · rw [exec_transmitEnd powered sending]
    simp only [Lc.endTransmission, Lc.pump, show s.lc.replySlot = some r from slot]
  · rw [exec_transmitEnd powered sending, nextNotice_running running]
    simp [Lc.endTransmission, Lc.pump, slot, notices]
  · rw [exec_transmitEnd powered sending, nextNotice_waits waits.1 waits.2, findIdx?_early_some early first]
    simp [Lc.endTransmission, Lc.pump, slot, notice]
  · rw [exec_transmitEnd powered sending]
    rcases nothing with ⟨running, empty⟩ | ⟨waits, none'⟩ | ⟨pends, idle⟩
    · rw [nextNotice_running running]
      simp [Lc.endTransmission, Lc.pump, slot, empty]
    · rw [nextNotice_waits waits.1 waits.2, findIdx?_early_none none']
      simp [Lc.endTransmission, Lc.pump, slot]
    · rw [nextNotice_due pends idle]
      simp [Lc.endTransmission, Lc.pump, slot]

end Sys2Proof.Machine

/-! PROOFS. The reads with a clear flag, the settings, the grade and the geometry record, and the calibration runs' commands. -/

namespace Sys2Proof.Machine

/-! ## Bodies of one and two bytes -/

theorem u8_ofNat_cons {n : Nat} (h : n < 256) (rest : List Byte) : u8 (BitVec.ofNat 8 n :: rest) 0 = n := by
  simpa [u8] using h

theorem u8_cons_succ (b : Byte) (rest : List Byte) (i : Nat) : u8 (b :: rest) (i + 1) = u8 rest i := rfl

theorem index?_val {k : Nat} (i : Fin k) : index? k i.val = some i := by simp [index?]

theorem flag?_toNat (b : Bool) : flag? b.toNat = some b := by cases b <;> rfl

theorem flag_lt (b : Bool) : b.toNat < 256 := by cases b <;> decide

theorem lengthIs_of {body : List Byte} {n : Nat} (h : body.length = n) : lengthIs n body = true := beq_iff_eq.2 h

theorem withFields_some {α : Type} {read : List Byte → Option α} {act : α → State → State × Answer} {body : List Byte} {a : α}
    (h : read body = some a) (s : State) : withFields read act body s = act a s := by
  simp [withFields, h]

theorem onChannel_eq (ch : Fin 6) (f : Channel → Channel) (s : State) :
    onChannel ch f s = { s with scu := s.scu.set ch (f s.scu[ch]) } := rfl

theorem onZone_eq (k : Fin 16) (f : ZoneEntry → ZoneEntry) (s : State) :
    onZone k f s = { s with zt := { s.zt with zones := s.zt.zones.set k (f s.zt.zones[k]) } } := rfl

/-- The answer's place in a reply: its fields stand behind a status of a command done or accepted alone (R173). -/
def replyOf (kind tag : Byte) (a : Answer) : Reply :=
  replyFrame kind tag a.status (if statusCode a.status < 0x10 then a.fields else [])

/-- A command that passes the common checks and its owner's reading of the fields: its effect and the reply, behind the notices it
hands over (R172, R173, R175). -/
theorem interpret_fields {α : Type} {kind tag : Byte} {body : List Byte} {level : Authority} {ok : List Byte → Bool}
    {read : List Byte → Option α} {act : α → State → State × Answer} {a : α} {s : State} {lc : Lc}
    (h : CommandAllowed kind tag body level s) (length : ok body = true) (fields : read body = some a)
    (told : (act a (takeFrame s)).1.lc = taken lc) :
    interpret kind level ok (withFields read act) tag body s = .next { (act a (takeFrame s)).1 with
      lc := answered lc (replyOf kind tag (act a (takeFrame s)).2) } := by
  rw [interpret_allowed h length, withFields_some fields, placeReply_taken _ told, replyTo_eq]
  rfl

/-- Likewise, the effect and the answer of the owner being named. -/
theorem interpret_fields_eq {α : Type} {kind tag : Byte} {body : List Byte} {level : Authority} {ok : List Byte → Bool}
    {read : List Byte → Option α} {act : α → State → State × Answer} {a : α} {s u : State} {answer : Answer} {lc : Lc}
    (h : CommandAllowed kind tag body level s) (length : ok body = true) (fields : read body = some a)
    (e : act a (takeFrame s) = (u, answer)) (told : u.lc = taken lc) :
    interpret kind level ok (withFields read act) tag body s = .next { u with lc := answered lc (replyOf kind tag answer) } := by
  rw [interpret_fields h length fields (by rw [e]; exact told), e]

/-! ## The reads with a clear flag (R21, R71, R136) -/

theorem channelStatus?_body (ch : Fin 6) (clear : Bool) :
    channelStatus? [BitVec.ofNat 8 ch.val, BitVec.ofNat 8 clear.toNat] = some (ch, clear) := by
  rw [channelStatus?, u8_ofNat_cons (by omega), u8_cons_succ, u8_ofNat_cons (flag_lt clear), index?_val, flag?_toNat]

theorem zoneRead?_body (k : Fin 16) (clear : Bool) :
    zoneRead? [BitVec.ofNat 8 k.val, BitVec.ofNat 8 clear.toNat] = some (k, clear) := by
  rw [zoneRead?, u8_ofNat_cons (by omega), u8_cons_succ, u8_ofNat_cons (flag_lt clear), index?_val, flag?_toNat]

theorem flag?_body (clear : Bool) : flag? (u8 [BitVec.ofNat 8 clear.toNat] 0) = some clear := by
  rw [u8_ofNat_cons (flag_lt clear), flag?_toNat]

theorem clearCounters_eq (s : State) : clearCounters s = { s with
    em := { s.em with histogram := Vector.replicate 8 0, gaps := 0 }
    rs := if ∃ b : Fin 8, s.em.histogram[b] ≠ 0 then Rs.mark s.rs else s.rs } := by
  have counted : s.em.histogram.toList.any (· != 0) = true ↔ ∃ b : Fin 8, s.em.histogram[b] ≠ 0 := by
    rw [List.any_eq_true]
    constructor
    · rintro ⟨n, m, h⟩
      obtain ⟨i, hi, rfl⟩ := Vector.mem_iff_getElem.1 (Vector.mem_toList_iff.1 m)
      exact ⟨⟨i, hi⟩, by simpa using h⟩
    · rintro ⟨b, h⟩
      exact ⟨s.em.histogram[b], Vector.mem_toList_iff.2 (Vector.getElem_mem _), by simpa using h⟩
  unfold clearCounters
  simp only [counted]
  split_ifs <;> rfl

/-- Settles O26: each read answers the fields it found, and the flag clears its own counts. -/
theorem readsReturnAndThenClear : Obligations.ReadsReturnAndThenClear := by
  intro tag clear s
  refine ⟨fun ch allowed => ?_, fun k allowed => ?_, fun allowed => ?_⟩
  · cases clear <;> exact interpret_fields (lc := s.lc) allowed rfl (channelStatus?_body ch _) rfl
  · cases clear <;> exact interpret_fields (lc := s.lc) allowed rfl (zoneRead?_body k _) rfl
  · cases clear
    · refine (interpret_fields (lc := s.lc) allowed rfl (flag?_body _) ?_).trans ?_ <;> rfl
    · have cleared := clearCounters_eq (takeFrame s)
      refine (interpret_fields (lc := s.lc) allowed rfl (flag?_body _) ?_).trans ?_
      · exact congrArg State.lc cleared
      · simp only [if_true, cleared, true_and]
        rfl

/-! ## The grade and the tip reports (R49, R52) -/

theorem tipIntervalOf_eq (request : Nat) : tipIntervalOf request =
    if request = 0 then 0 else if request < 20 then 20 else if 1000 < request then 1000 else request := by
  unfold tipIntervalOf
  split_ifs <;> omega

theorem requestForGrade_idle {s : State} (idle : s.ps.inFlight = none) :
    requestForGrade s = { s with scu := fifosEmptied s.scu, ps := begun s.scu s.ps } := by
  rw [requestForGrade, idle, ← startComputation_eq]
  rfl

/-- Settles O34: the grade is stored, a computation beginning where none is in flight; the interval is stored. -/
theorem gradeAndTipIntervalStored : Obligations.GradeAndTipIntervalStored := by
  refine ⟨fun tag body g s allowed length read => ⟨fun inFlight => ?_, fun idle => ?_⟩, fun tag hi lo s allowed => ?_⟩
  · have e : requestForGrade (onPs (fun ps => { ps with grade := g }) (takeFrame s)) = onPs (fun ps => { ps with grade := g }) (takeFrame s) :=
      if_pos inFlight
    refine (interpret_fields (lc := s.lc) allowed (lengthIs_of length) read ?_).trans ?_
    · exact congrArg State.lc e
    · rw [e]; rfl
  · have e := requestForGrade_idle (s := onPs (fun ps => { ps with grade := g }) (takeFrame s)) idle
    refine (interpret_fields (lc := s.lc) allowed (lengthIs_of length) read ?_).trans ?_
    · exact congrArg State.lc e
    · rw [e]; rfl
  · intro request interval
    rw [show interval = tipIntervalOf request from (tipIntervalOf_eq request).symm]
    exact interpret_answered (owner := tipSubscribeOwner) allowed rfl rfl rfl

/-! ## The end of a run while a frame is interpreted (R115 to R117) -/

theorem Rs.mark_sameRestart (rs : Rs) : SameRestart (Rs.mark rs) rs := by
  unfold SameRestart Rs.mark
  cases h : rs.state <;> simp [h, RsState.isCommitting]

theorem SameRestart.refl (rs : Rs) : SameRestart rs rs := ⟨rfl, fun _ => rfl⟩

theorem SameRestart.ofMarkedIf (p : Prop) [Decidable p] (rs : Rs) : SameRestart (if p then rs else Rs.mark rs) rs := by
  split_ifs
  · exact .refl rs
  · exact Rs.mark_sameRestart rs

/-- The end of a run hands over its notice as it would have before the frame was taken (R117, R174). -/
theorem endRun_taken (r : Run) (outcome : RunOutcome) (ct : Ct) {rs : Rs} {s : State} (same : SameRestart rs s.rs) :
    endRun r outcome { takeFrame s with ct := ct, rs := rs } = { withRunEnded r outcome ct s with
      rs := rs, lc := taken (withRunEnded r outcome ct s).lc } := by
  have lc := queueNotice_taken (.calibrationResult (RunKind.isGain r.kind) outcome r.soft s.lc.time)
    (u := { takeFrame s with ct := ct, rs := rs }) (v := s) rfl same
  rw [endRun_eq]
  unfold withRunEnded
  rw [show (takeFrame s).lc.time = s.lc.time from rfl, lc]
  rfl

/-! ## The cycle settings and the calibration runs (R95, R109, R110, R116) -/

theorem marked_eq {α : Type} [BEq α] [LawfulBEq α] [DecidableEq α] (a b : α) (s : State) :
    (if (a != b) = true then markRetained s else s) = { s with rs := if a = b then s.rs else Rs.mark s.rs } := by
  by_cases h : a = b
  · subst h; simp
  · simp [h, markRetained]

theorem lengthByOp_write {n0 n1 : Nat} {body : List Byte} (length : body.length = n1) (op : u8 body 0 = 1) :
    lengthByOp n0 n1 body = true := by
  cases body with
  | nil => simp [u8] at op
  | cons b rest =>
    have one : b = 1 := BitVec.eq_of_toNat_eq (by simpa [u8] using op)
    subst one
    simpa [lengthByOp] using length

theorem op_of_cycleSettings?_write {body : List Byte} {c : CycleSettings} (h : cycleSettings? body = some (.write c)) :
    u8 body 0 = 1 := by
  unfold cycleSettings? at h
  split at h
  · cases h
  · next e => exact e
  · cases h

/-- Settles O40: a READ answers what stands; a WRITE stores, marks, and ends an active run. -/
theorem cycleSettingsReadAndWrite : Obligations.CycleSettingsReadAndWrite := by
  intro tag body s allowed
  refine ⟨fun read => ?_, fun c length read => ?_⟩
  · subst read
    exact interpret_fields (lc := s.lc) (a := ReadWrite.read) allowed rfl rfl rfl
  intro done written marked
  have ok := lengthByOp_write (n0 := 1) length (op_of_cycleSettings?_write read)
  have same : SameRestart marked s.rs := .ofMarkedIf ..
  have stored := marked_eq c s.ct.settings { takeFrame s with ct := written }
  have effect {u : State} (e : hardFail .hardSettings { takeFrame s with ct := written, rs := marked } = u) :=
    congrArg (fun u => (u, answerDone (cycleSettingsBytes u.ct.settings ++ calibrationBytes u.ct.fempty u.ct.gain)))
      ((congrArg (hardFail .hardSettings) stored).trans e)
  refine ⟨fun run => ?_, fun r run => ?_⟩
  · have kept : hardFail .hardSettings { takeFrame s with ct := written, rs := marked } =
        { takeFrame s with ct := written, rs := marked } := by
      rw [hardFail, show written.run = none from run]
    refine (interpret_fields_eq (lc := s.lc) allowed ok read (effect kept) rfl).trans ?_
    rfl
  · have ends : hardFail .hardSettings { takeFrame s with ct := written, rs := marked } =
        { withRunEnded r (.failed .hardSettings) written s with
          rs := marked, lc := taken (withRunEnded r (.failed .hardSettings) written s).lc } := by
      rw [hardFail, show written.run = some r from run]
      exact endRun_taken r (.failed .hardSettings) written same
    obtain ⟨force, window, h⟩ := withRunEnded_ct r (.failed .hardSettings) written s
    refine ⟨(interpret_fields_eq allowed ok read (effect ends) rfl).trans ?_, ?_⟩
    · simp only [h]
      rfl
    · rw [h]
      exact ⟨rfl, rfl, rfl, rfl, rfl, rfl, rfl, rfl⟩

end Sys2Proof.Machine

/-! PROOFS. The calibration runs: their commands, a GOOD window, and the geometry record that ends one. -/

namespace Sys2Proof.Machine

/-- A command that passes the common checks, its owner's effect and answer being named (R172, R173, R175). -/
theorem interpret_told {kind tag : Byte} {body : List Byte} {level : Authority} {ok : List Byte → Bool} {owner : Owner}
    {s u : State} {answer : Answer} {lc : Lc} (h : CommandAllowed kind tag body level s) (length : ok body = true)
    (e : owner body (takeFrame s) = (u, answer)) (told : u.lc = taken lc) :
    interpret kind level ok owner tag body s = .next { u with lc := answered lc (replyOf kind tag answer) } := by
  rw [interpret_allowed h length, e, placeReply_taken _ told, replyTo_eq]
  rfl

/-! ## The beginning and the cancelling of a run (R109, R110, R116) -/

theorem startRun_accepted {kind : RunKind} {s : State} (idle : s.ct.run = none ∧ s.ct.health = .live) :
    startRun kind s = ({ s with ct := { s.ct with run := some { kind := kind, soft := 0 } } }, answerAccepted) := by
  rw [startRun, idle.1, idle.2]
  rfl

theorem startRun_refused {kind : RunKind} {s : State} (busy : s.ct.run ≠ none ∨ s.ct.health ≠ .live) :
    startRun kind s = (s, answerRefused .state) := by
  refine if_pos ?_
  rw [Bool.or_eq_true, Option.isSome_iff_ne_none, bne_iff_ne]
  exact busy

theorem calibrateEmpty?_bands {bands : Byte} (h : bands ≠ 0) : calibrateEmpty? [bands] = some bands := if_neg h

theorem calibrateGain?_load {hi lo : Byte} (least : 1000 ≤ hi.toNat * 256 + lo.toNat) (most : hi.toNat * 256 + lo.toNat ≤ 65000) :
    calibrateGain? [hi, lo] = some (hi.toNat * 256 + lo.toNat) := if_pos ⟨least, most⟩

/-- Settles O41: the two commands that begin a run by what stands, and the end of one by a cancel. -/
theorem calibrationRunsStartAndCancel : Obligations.CalibrationRunsStartAndCancel := by
  intro tag s
  refine ⟨fun bands set allowed => ⟨fun idle => ?_, fun busy => ?_⟩, fun hi lo least most allowed => ⟨fun idle => ?_, fun busy => ?_⟩,
    fun allowed => ⟨fun none' => ?_, fun r run => ?_⟩⟩
  · exact (interpret_fields_eq (lc := s.lc) allowed rfl (calibrateEmpty?_bands set) (startRun_accepted (s := takeFrame s) idle) rfl).trans rfl
  · exact (interpret_fields_eq (lc := s.lc) allowed rfl (calibrateEmpty?_bands set) (startRun_refused (s := takeFrame s) busy) rfl).trans rfl
  · exact (interpret_fields_eq (lc := s.lc) allowed rfl (calibrateGain?_load least most) (startRun_accepted (s := takeFrame s) idle) rfl).trans rfl
  · exact (interpret_fields_eq (lc := s.lc) allowed rfl (calibrateGain?_load least most) (startRun_refused (s := takeFrame s) busy) rfl).trans rfl
  · have e : calibrateCancelOwner [] (takeFrame s) = (takeFrame s, answerRefused .state) := by
      rw [calibrateCancelOwner, show (takeFrame s).ct.run = none from none']
    exact interpret_told (lc := s.lc) allowed rfl e rfl
  · have e : calibrateCancelOwner [] (takeFrame s) = ({ withRunEnded r .cancelled s.ct s with
        rs := s.rs, lc := taken (withRunEnded r .cancelled s.ct s).lc }, answerDone []) := by
      rw [calibrateCancelOwner, show (takeFrame s).ct.run = some r from run,
        ← endRun_taken r .cancelled s.ct (SameRestart.refl s.rs)]
      rfl
    obtain ⟨force, window, h⟩ := withRunEnded_ct r .cancelled s.ct s
    refine ⟨interpret_told allowed rfl e rfl, ?_⟩
    rw [h]
    exact ⟨rfl, rfl, rfl, rfl, rfl, rfl, rfl⟩

/-! ## The success of a run (R108, R112, R113) -/

theorem writeTables_eq (fempty : Vector Int 8) (gain : Vector Nat 8) (s : State) : writeTables fempty gain s = { s with
    ct := { s.ct with fempty := fempty, gain := gain }
    rs := if fempty = s.ct.fempty ∧ gain = s.ct.gain then s.rs else Rs.mark s.rs } := by
  unfold writeTables
  by_cases hf : fempty = s.ct.fempty <;> by_cases hg : gain = s.ct.gain <;> simp [hf, hg, onCt, markRetained]

/-- A run that succeeds writes its tables, and ends on the Cycle Tracker that holds them (R108, R117). -/
theorem endRun_written (r : Run) (outcome : RunOutcome) (fempty : Vector Int 8) (gain : Vector Nat 8) (s : State) :
    endRun r outcome (writeTables fempty gain s) =
      { withRunEnded r outcome { s.ct with fempty := fempty, gain := gain } s with
        rs := if fempty = s.ct.fempty ∧ gain = s.ct.gain then s.rs else Rs.mark s.rs } := by
  have lc := queueNotice_congr (.calibrationResult (RunKind.isGain r.kind) outcome r.soft s.lc.time)
    (u := writeTables fempty gain s) (v := s) (by rw [writeTables_eq]) (by rw [writeTables_eq]; exact .ofMarkedIf ..)
  rw [endRun_eq]
  unfold withRunEnded
  rw [show (writeTables fempty gain s).lc.time = s.lc.time by rw [writeTables_eq], lc, writeTables_eq]
  rfl

theorem gainFor_eq (load : Nat) (d : Int) :
    (gainFor load d : Int) = max 1 (min 65535 ((2 * (load * 65536) + d) / (2 * d))) := by
  unfold gainFor clampInt
  push_cast
  omega

theorem judgeGain_good {r : Run} {load : Nat} {w : Window} {x : Weighed} {d : Int} (s : State) (result : w.result = some x)
    (good : x.quality = .good) (lifted : x.lifted = some d) (above : 0 < d) : judgeGain r load w s =
      endRun r (.done (1 <<< w.band.val) [(gainFor load d : Int)]) (writeTables s.ct.fempty (s.ct.gain.set w.band (gainFor load d)) s) := by
  obtain ⟨band, count, mean, spread, lift, payload, quality⟩ := x
  subst good
  obtain rfl : lift = some d := lifted
  unfold judgeGain
  rw [result]
  exact if_neg (by omega)

theorem emptyQuality_good {w : Window} (good : 4 ≤ w.count ∧ w.most.getD 0 - w.least.getD 0 ≤ w.steadiness ∧ w.length ≤ w.count) :
    Window.emptyQuality w = .good := by
  unfold Window.emptyQuality Window.steadyQuality Window.spread
  rw [if_neg (by omega), if_neg (by omega), if_neg (by omega)]

theorem all_bandsOf {bands : Byte} {p : Fin 8 → Bool} : (bandsOf bands).all p = true ↔ ∀ b : Fin 8, bands.getLsbD b.val = true → p b = true := by
  simp only [List.all_eq_true, bandsOf, List.mem_filter, List.mem_finRange, true_and, inBands]

/-- The Fempty table a run that succeeds writes (R112). -/
def fittedTable (bands : Byte) (collected : Vector (List Int) 8) (old : Vector Int 8) : Vector Int 8 :=
  old.mapFinIdx fun i old h => if inBands bands ⟨i, h⟩ then meanOfTwo collected[i] else old

theorem fittedTable_get (bands : Byte) (collected : Vector (List Int) 8) (old : Vector Int 8) (b : Fin 8) :
    (fittedTable bands collected old)[b] = if bands.getLsbD b.val = true then collected[b].sum.tdiv 2 else old[b] := by
  simp [fittedTable, inBands, meanOfTwo]

section
variable {r : Run} {bands : Byte} {collected : Vector (List Int) 8} {w : Window} {s : State}

/-- The collection with a window's mean force added to its band (R112). -/
def collectedWith (w : Window) (collected : Vector (List Int) 8) : Vector (List Int) 8 :=
  collected.set w.band (collected[w.band] ++ [w.sum.tdiv w.count])

theorem judgeEmpty_outside (out : ¬bands.getLsbD w.band.val = true) : judgeEmpty r bands collected w s = nextStep s := by
  refine if_pos ?_
  rw [Bool.not_eq_true', inBands]
  exact Bool.eq_false_iff.2 out

theorem judgeEmpty_full (inSet : bands.getLsbD w.band.val = true) (good : Window.emptyQuality w = .good)
    (two : ¬collected[w.band].length < 2) : judgeEmpty r bands collected w s = nextStep s := by
  rw [judgeEmpty, inBands, inSet, if_neg (by decide), if_neg (not_not.2 good), if_pos (Nat.not_lt.1 two)]

/-- Every band of the set has its two mean forces (R112). -/
theorem bandsWhole_iff : (bandsOf bands).all (fun b => collected[b].length == 2) = true ↔
    ∀ b : Fin 8, bands.getLsbD b.val = true → collected[b].length = 2 := by
  rw [all_bandsOf]
  simp only [beq_iff_eq]

/-- The window that gives every band its two mean forces ends the run (R112). -/
theorem judgeEmpty_ends {grown : Vector (List Int) 8} (e : grown = collectedWith w collected)
    (inSet : bands.getLsbD w.band.val = true) (good : Window.emptyQuality w = .good) (few : collected[w.band].length < 2)
    (whole : ∀ b : Fin 8, bands.getLsbD b.val = true → grown[b].length = 2) : judgeEmpty r bands collected w s =
      endRun { kind := .empty bands grown, soft := r.soft }
        (.done bands ((bandsOf bands).map fun b => (fittedTable bands grown s.ct.fempty)[b]))
        (writeTables (fittedTable bands grown s.ct.fempty) s.ct.gain s) := by
  subst e
  rw [judgeEmpty, inBands, inSet, if_neg (by decide), if_neg (not_not.2 good), if_neg (Nat.not_le.2 few)]
  exact if_pos (bandsWhole_iff.2 whole)

/-- One that leaves a band without them lets the run go on (R112). -/
theorem judgeEmpty_goesOn {grown : Vector (List Int) 8} (e : grown = collectedWith w collected)
    (inSet : bands.getLsbD w.band.val = true) (good : Window.emptyQuality w = .good) (few : collected[w.band].length < 2)
    (wanting : ¬∀ b : Fin 8, bands.getLsbD b.val = true → grown[b].length = 2) : judgeEmpty r bands collected w s =
      nextStep { s with ct := { s.ct with run := some { kind := .empty bands grown, soft := r.soft } } } := by
  subst e
  rw [judgeEmpty, inBands, inSet, if_neg (by decide), if_neg (not_not.2 good), if_neg (Nat.not_le.2 few)]
  exact if_neg fun all => wanting (bandsWhole_iff.1 all)

end

/-- The run goes on: the next window that waits begins a step, or the step is READY and the samples that wait are taken (R111). -/
theorem nextStep_goesOn (ct : Ct) (s : State) :
    (∀ next rest, ct.waiting = next :: rest →
      nextStep { s with ct := ct } = { s with ct := { ct with step := some next, waiting := rest } }) ∧
    (ct.waiting = [] → nextStep { s with ct := ct } = withPressureTaken { ct with step := none } s) :=
  ⟨fun _ _ waits => nextStep_cons waits, fun none' => nextStep_nil (s := { s with ct := ct }) none'⟩

theorem endRun_written_ct (r : Run) (outcome : RunOutcome) (fempty : Vector Int 8) (gain : Vector Nat 8) (s : State) :
    let t := endRun r outcome (writeTables fempty gain s)
    t.ct.fempty = fempty ∧ t.ct.gain = gain ∧ t.ct.run = none ∧ t.ct.step = none ∧ t.ct.waiting = [] := by
  intro t
  have e : t.ct = (withRunEnded r outcome { s.ct with fempty := fempty, gain := gain } s).ct := by
    rw [show t = _ from endRun_written r outcome fempty gain s]
  obtain ⟨force, window, h⟩ := withRunEnded_ct r outcome { s.ct with fempty := fempty, gain := gain } s
  rw [e, h]
  exact ⟨rfl, rfl, rfl, rfl, rfl⟩

/-- Settles O43: a GOOD window ends a GAIN run with its band's gain; an EMPTY run is ended by the last mean force it wants. -/
theorem goodWindowWritesGain : Obligations.GoodWindowWritesGain := by
  refine ⟨fun soft load d w x s powered run step result good lifted above => ?_, fun soft bands collected w s powered run step => ?_⟩
  · have judged : exec .calibrationStepEnd s = .next (judgeGain { kind := .gain load, soft := soft } load w s) :=
      exec_calibrationStepEnd powered run step
    rw [judgeGain_good s result good lifted above] at judged
    obtain ⟨fempty, gain, ready⟩ := endRun_written_ct { kind := .gain load, soft := soft }
      (.done (1 <<< w.band.val) [(gainFor load d : Int)]) s.ct.fempty (s.ct.gain.set w.band (gainFor load d)) s
    have own : (s.ct.gain.set w.band (gainFor load d))[w.band] = gainFor load d := Vector.getElem_set_self ..
    refine ⟨_, judged, ?_, fun b other => ?_, fempty, ready.1, ready.2.1, ready.2.2, ?_⟩
    · rw [gain, own, gainFor_eq]
    · rw [gain]
      exact Vector.getElem_set_ne _ _ fun same => other (Fin.ext same.symm)
    · rw [gain, own, endRun_written]
      simp only [true_and]
  · intro inSet' good' grown whole'
    have judged : exec .calibrationStepEnd s =
        .next (judgeEmpty { kind := .empty bands collected, soft := soft } bands collected w s) := exec_calibrationStepEnd powered run step
    refine ⟨fun inSet good few whole => ?_, fun goesOn => ?_⟩
    · rw [judgeEmpty_ends (grown := grown) rfl inSet (emptyQuality_good good) few whole] at judged
      obtain ⟨fempty, gain, ready⟩ := endRun_written_ct { kind := .empty bands grown, soft := soft }
        (.done bands ((bandsOf bands).map fun b => (fittedTable bands grown s.ct.fempty)[b]))
        (fittedTable bands grown s.ct.fempty) s.ct.gain s
      refine ⟨_, judged, fun b inSet => ?_, fun b out => ?_, gain, ready.1, ready.2.1, ready.2.2, ?_⟩
      · rw [fempty, fittedTable_get, if_pos inSet]
      · rw [fempty, fittedTable_get, if_neg out]
      · rw [fempty, endRun_written]
        simp only [and_true]
        rfl
    · intro left gone
      have kept (h : ¬(inSet' w.band ∧ collected[w.band].length < 2)) : { s with ct := gone } = s := by
        have same : gone = s.ct := by simp only [gone, left, if_neg h, ← run]
        rw [same]
      have next : exec .calibrationStepEnd s = .next (nextStep { s with ct := gone }) := by
        rw [judged]
        by_cases inSet : inSet' w.band
        · obtain ⟨good, more⟩ := goesOn.resolve_left (not_not.2 inSet)
          by_cases few : collected[w.band].length < 2
          · rw [judgeEmpty_goesOn (grown := grown) rfl inSet (emptyQuality_good good) few fun whole => more ⟨few, whole⟩]
            have grew : left = { kind := .empty bands grown, soft := soft } := by simp only [left, if_pos (And.intro inSet few)]
            simp only [gone, grew]
          · rw [judgeEmpty_full inSet (emptyQuality_good good) few, kept fun h => few h.2]
        · rw [judgeEmpty_outside inSet, kept fun h => inSet h.1]
      rw [next]
      exact ⟨fun n rest waits => congrArg _ ((nextStep_goesOn gone s).1 n rest waits),
        fun none' => congrArg _ ((nextStep_goesOn gone s).2 none')⟩

end Sys2Proof.Machine

/-! PROOFS. What the start of a computation reads and leaves, one or two actions in a free order, and GEOMETRY SET. -/

namespace Sys2Proof.Machine

/-! ## The start of a computation (R9, R41, R42) -/

theorem fifosEmptied_get (scu : Vector Channel 6) (ch : Fin 6) :
    (fifosEmptied scu)[ch] = if ch = 5 then scu[ch] else emptied scu[ch] := by
  fin_cases ch <;> rfl

/-- The start of a computation reads channels 0 to 4 alone (R41). -/
theorem begun_congr {a b : Vector Channel 6} (h : ∀ ch : Fin 6, ch ≠ 5 → a[ch] = b[ch]) (ps : Ps) : begun a ps = begun b ps := by
  have h0 : a[0] = b[0] := h 0 (by decide)
  have h1 : a[1] = b[1] := h 1 (by decide)
  have h2 : a[2] = b[2] := h 2 (by decide)
  have h3 : a[3] = b[3] := h 3 (by decide)
  have h4 : a[4] = b[4] := h 4 (by decide)
  have degraded : (fun k : Fin 5 => (k != 4 || a[4].health == .live || a[4].health == .acquiring) &&
        (newestGood a[k.val].fifo).any fun x => x.flags.degraded) =
      fun k : Fin 5 => (k != 4 || b[4].health == .live || b[4].health == .acquiring) &&
        (newestGood b[k.val].fifo).any fun x => x.flags.degraded := by
    funext k
    have hk : a[k.val] = b[k.val] := h ⟨k.val, by omega⟩ (by intro e; have := congrArg Fin.val e; simp at this; omega)
    rw [hk, h4]
  unfold begun
  rw [degraded, h0, h1, h2, h3, h4]

theorem requestComputation_ps (s : State) : (requestComputation s).ps =
    if s.ps.inFlight.isSome then { s.ps with pendingStart := true } else begun s.scu s.ps := by
  rw [requestComputation_eq]; split <;> rfl

theorem requestComputation_scu (s : State) : (requestComputation s).scu =
    if s.ps.inFlight.isSome then s.scu else fifosEmptied s.scu := by
  rw [requestComputation_eq]; split <;> rfl

theorem requestComputation_else (s : State) : requestComputation s = { s with
    scu := (requestComputation s).scu, ps := (requestComputation s).ps } := by
  rw [requestComputation_eq]; split <;> rfl

/-! ## One or two actions in a free order -/

theorem anyOrder_one (f : State → State) (s : State) : anyOrder [f] s = f s := rfl

/-- Two actions in a free order are taken the one first or the other. -/
theorem anyOrder_two (f g : State → State) (s : State) :
    anyOrder [f, g] s = g (f { s with choices := s.choices + 1 }) ∨ anyOrder [f, g] s = f (g { s with choices := s.choices + 1 }) := by
  rcases Nat.mod_two_eq_zero_or_one (Config.freeChoice s.choices) with h | h
  · left
    simp [anyOrder, interleave, runInterleaved, h]
  · right
    simp [anyOrder, interleave, runInterleaved, h]

/-! ## A reply behind notices (R172 to R175) -/

/-- A reply placed behind the notices a command handed over, the slot having been empty. -/
theorem answersWith_of_answered {r : Reply} {s t : State} {lc : Lc} (e : t.lc = answered lc r) (told : Queued s.lc lc) :
    AnswersWith r s t := by
  unfold AnswersWith
  rw [e]
  simp only [answered, told.assembler, told.lastChar, told.inbox, told.stats, told.rate, told.time]
  by_cases free : lc.tx = .free <;> simp [free]

/-! ## GEOMETRY SET (R36, R115) -/

theorem replaceGeometry_eq (g : Geometry) (s : State) : replaceGeometry g s = { s with
    ps := { s.ps with geometry := g }, rs := if g = s.ps.geometry then s.rs else Rs.mark s.rs } :=
  marked_eq g s.ps.geometry (onPs (fun ps => { ps with geometry := g }) s)

/-- The state once GEOMETRY SET has replaced the record and ended the run `r`, in either order (R36, R115, R117, assumption
log 32). -/
theorem geometry_ends_run (g : Geometry) {r : Run} {s : State} (run : s.ct.run = some r) :
    ∃ record, (record = g ∨ record = s.ps.geometry) ∧ ∃ n,
      let ended := withPressureTaken (endedRun s.ct) { s with ps := { s.ps with geometry := record } }
      anyOrder [replaceGeometry g, hardFail .hardSettings] (takeFrame s) = { ended with
        ps := { s.ps with geometry := g }
        rs := if g = s.ps.geometry then s.rs else Rs.mark s.rs
        lc := taken (queueNotice (.calibrationResult (RunKind.isGain r.kind) (.failed .hardSettings) r.soft s.lc.time) s).lc
        choices := n } := by
  have hard (ps : Ps) {rs : Rs} (same : SameRestart rs s.rs) :
      hardFail .hardSettings { takeFrame s with ps := ps, rs := rs, choices := s.choices + 1 } =
        { withPressureTaken (endedRun s.ct) { s with ps := ps } with
          rs := rs
          lc := taken (queueNotice (.calibrationResult (RunKind.isGain r.kind) (.failed .hardSettings) r.soft s.lc.time) s).lc
          choices := s.choices + 1 } := by
    rw [hardFail_eq, show (takeFrame s).ct.run = some r from run]
    rw [← queueNotice_taken _ (u := { takeFrame s with ps := ps, rs := rs, choices := s.choices + 1 }) (v := s) rfl same]
    rfl
  rcases anyOrder_two (replaceGeometry g) (hardFail .hardSettings) (takeFrame s) with e | e <;> rw [e]
  · refine ⟨g, .inl rfl, s.choices + 1, ?_⟩
    rw [replaceGeometry_eq]
    exact hard { s.ps with geometry := g } (.ofMarkedIf ..)
  · refine ⟨s.ps.geometry, .inr rfl, s.choices + 1, ?_⟩
    refine (congrArg (replaceGeometry g) (hard s.ps (.refl s.rs))).trans ?_
    rw [replaceGeometry_eq]
    rfl

/-- What the taking of the waiting pressure samples leaves of the channels: all but channel 5, and of that one its health and
settings (R10, R96). -/
theorem withPressureTaken_other (ct : Ct) (s : State) {ch : Fin 6} (h : ch ≠ 5) : (withPressureTaken ct s).scu[ch] = s.scu[ch] :=
  Vector.getElem_set_ne (by decide) ch.isLt fun e => h (Fin.ext e.symm)

theorem withPressureTaken_self (ct : Ct) (s : State) : (withPressureTaken ct s).scu[(5 : Fin 6)] =
    drained (pressureTaken s.ps.geometry ct s.scu[(5 : Fin 6)].fifo).2 s.scu[(5 : Fin 6)] :=
  Vector.getElem_set_self ..

/-- The channel contexts differ in the pressure channel's alone, and there neither in the health nor in the settings. -/
def PressureApart (a b : Vector Channel 6) : Prop :=
  (∀ ch : Fin 6, ch ≠ 5 → a[ch] = b[ch]) ∧ a[(5 : Fin 6)].health = b[(5 : Fin 6)].health ∧
    a[(5 : Fin 6)].settings = b[(5 : Fin 6)].settings

theorem withPressureTaken_apart (ct : Ct) (s : State) : PressureApart (withPressureTaken ct s).scu s.scu := by
  refine ⟨fun _ h => withPressureTaken_other ct s h, ?_, ?_⟩ <;> rw [withPressureTaken_self] <;> rfl

/-- What GEOMETRY SET's call for a computation leaves, the record replaced and a run ended before it (R9, R40 to R42). -/
theorem requestComputation_apart {g : Geometry} {s v : State} (ps : v.ps = { s.ps with geometry := g })
    (apart : PressureApart v.scu s.scu) :
    let t := requestComputation v
    t.scu[(5 : Fin 6)] = v.scu[(5 : Fin 6)] ∧
      t.ps = (if s.ps.inFlight.isSome then { s.ps with geometry := g, pendingStart := true }
        else begun s.scu { s.ps with geometry := g }) ∧
      (∀ ch : Fin 6, ch ≠ 5 → t.scu[ch] = if s.ps.inFlight.isSome then s.scu[ch] else emptied s.scu[ch]) ∧
      ∀ ch : Fin 6, t.scu[ch].health = s.scu[ch].health ∧ t.scu[ch].settings = s.scu[ch].settings := by
  intro t
  obtain ⟨other, health, settings⟩ := apart
  have scu : t.scu = if s.ps.inFlight.isSome then v.scu else fifosEmptied v.scu := by
    rw [show t.scu = _ from requestComputation_scu v, ps]
  have five : t.scu[(5 : Fin 6)] = v.scu[(5 : Fin 6)] := by
    rw [scu]
    split
    · rfl
    · exact fifosEmptied_get v.scu 5
  have rest (ch : Fin 6) (h : ch ≠ 5) : t.scu[ch] = if s.ps.inFlight.isSome then s.scu[ch] else emptied s.scu[ch] := by
    rw [scu, ← other ch h]
    split
    · rfl
    · rw [fifosEmptied_get, if_neg h]
  refine ⟨five, ?_, rest, fun ch => ?_⟩
  · rw [show t.ps = _ from requestComputation_ps v, ps, begun_congr other]
  · by_cases h : ch = 5
    · subst h
      rw [five]
      exact ⟨health, settings⟩
    · rw [rest ch h]
      split <;> exact ⟨rfl, rfl⟩

/-- Settles O33: the record is replaced around the end of the run, and then a computation is called for. -/
theorem geometrySetReplacesRecord : Obligations.GeometrySetReplacesRecord := by
  intro tag body g s allowed length read done
  cases run : s.ct.run with
  | none =>
    have acted : geometrySetOwner body (takeFrame s) = (requestComputation (replaceGeometry g (takeFrame s)), answerDone []) := by
      rw [geometrySetOwner, withFields_some read]
      simp only [show (takeFrame s).ct.run = none from run]
      rfl
    rw [replaceGeometry_eq, requestComputation_else] at acted
    refine ⟨_, interpret_told (lc := s.lc) allowed (lengthIs_of length) acted rfl, answersWith_of_answered rfl (Queued.refl _), ?_⟩
    obtain ⟨five, ps, rest, kept⟩ := requestComputation_apart (g := g) (s := s) (v := { takeFrame s with
      ps := { s.ps with geometry := g }, rs := if g = s.ps.geometry then s.rs else Rs.mark s.rs }) rfl ⟨fun _ _ => rfl, rfl, rfl⟩
    refine ⟨?_, run, rfl, rfl, fun _ => ⟨rfl, five, rfl, rfl⟩, fun r some' => absurd some' (by simp), rfl, ps, rest, kept, rfl⟩
    exact (congrArg Ps.geometry ps).trans (by split <;> rfl)
  | some r =>
    obtain ⟨record, which, n, ended⟩ := geometry_ends_run g run
    have acted : geometrySetOwner body (takeFrame s) =
        (requestComputation (anyOrder [replaceGeometry g, hardFail .hardSettings] (takeFrame s)), answerDone []) := by
      rw [geometrySetOwner, withFields_some read]
      simp only [show (takeFrame s).ct.run = some r from run]
      rfl
    rw [ended, requestComputation_else] at acted
    have notice := (queueNotice_frame (.calibrationResult (RunKind.isGain r.kind) (.failed .hardSettings) r.soft s.lc.time) s).lc
    refine ⟨_, interpret_told allowed (lengthIs_of length) acted rfl, answersWith_of_answered rfl notice, ?_⟩
    obtain ⟨force, window, ct⟩ :=
      withRunEnded_ct r (.failed .hardSettings) s.ct { s with ps := { s.ps with geometry := record } }
    have ct : (withPressureTaken (endedRun s.ct) { s with ps := { s.ps with geometry := record } }).ct = _ := ct
    obtain ⟨five, ps, rest, kept⟩ := requestComputation_apart (g := g) (s := s)
      (v := { withPressureTaken (endedRun s.ct) { s with ps := { s.ps with geometry := record } } with
        ps := { s.ps with geometry := g }
        rs := if g = s.ps.geometry then s.rs else Rs.mark s.rs
        lc := taken (queueNotice (.calibrationResult (RunKind.isGain r.kind) (.failed .hardSettings) r.soft s.lc.time) s).lc
        choices := n }) rfl (withPressureTaken_apart (endedRun s.ct) { s with ps := { s.ps with geometry := record } })
    refine ⟨?_, ?_, ?_, ?_, fun none' => absurd none' (by simp), ?_, rfl, ps, rest, kept, rfl⟩
    · exact (congrArg Ps.geometry ps).trans (by split <;> rfl)
    · exact congrArg Ct.run ct
    · exact (congrArg Ct.fempty ct).trans rfl
    · exact (congrArg Ct.gain ct).trans rfl
    · rintro r' some'
      cases some'
      exact ⟨congrArg Ct.step ct, congrArg Ct.waiting ct, ⟨record, which, rfl, five⟩, rfl⟩

end Sys2Proof.Machine

/-! PROOFS. What an operation hands over: the notices it queues, one after another, with the RESTART standing as it stood. -/

namespace Sys2Proof.Machine

/-! ## Notices handed over one after another -/

/-- An operation hands over `ns`: of the Link Controller and the RESTART it leaves what the queueing of these notices leaves. -/
def Tells (ns : List Notice) (s t : State) : Prop := t.lc = (queueNotices ns s).lc ∧ SameRestart t.rs s.rs

theorem SameRestart.trans {a b c : Rs} (h : SameRestart a b) (k : SameRestart b c) : SameRestart a c :=
  ⟨h.1.trans k.1, fun p => (h.2 p).trans (k.2 (h.1 ▸ p))⟩

theorem SameRestart.symm {a b : Rs} (h : SameRestart a b) : SameRestart b a := ⟨h.1.symm, fun p => (h.2 (h.1.trans p)).symm⟩

theorem queueNotices_rs (ns : List Notice) (s : State) : (queueNotices ns s).rs = s.rs := (queueNotices_frame ns s).rs rfl

theorem queueNotices_congr (ns : List Notice) {u v : State} (lc : u.lc = v.lc) (rs : SameRestart u.rs v.rs) :
    (queueNotices ns u).lc = (queueNotices ns v).lc := by
  induction ns generalizing u v with
  | nil => exact lc
  | cons n ns ih => exact ih (queueNotice_congr n lc rs) rs

theorem Tells.silent {s t : State} (lc : t.lc = s.lc) (rs : SameRestart t.rs s.rs) : Tells [] s t := ⟨lc, rs⟩

theorem Tells.trans {ns ms : List Notice} {s t u : State} (h : Tells ns s t) (k : Tells ms t u) : Tells (ns ++ ms) s u := by
  have same : SameRestart t.rs (queueNotices ns s).rs := by rw [queueNotices_rs]; exact h.2
  exact ⟨by rw [k.1, queueNotices_append, queueNotices_congr ms h.1 same], k.2.trans h.2⟩

theorem queueNotice_tells (n : Notice) (s : State) : Tells [n] s (queueNotice n s) := ⟨rfl, .refl _⟩

/-- An operation hands over notices, whichever they are. -/
def Telling (s t : State) : Prop := ∃ ns, Tells ns s t

theorem Tells.telling {ns : List Notice} {s t : State} (h : Tells ns s t) : Telling s t := ⟨ns, h⟩

theorem Telling.trans {s t u : State} (h : Telling s t) (k : Telling t u) : Telling s u := by
  obtain ⟨ns, h⟩ := h
  obtain ⟨ms, k⟩ := k
  exact ⟨ns ++ ms, h.trans k⟩

theorem Telling.silent {s t : State} (lc : t.lc = s.lc) (rs : SameRestart t.rs s.rs) : Telling s t := (Tells.silent lc rs).telling

/-- A change of the blocks besides hands over nothing. -/
theorem Telling.of_eq {s t : State} (lc : t.lc = s.lc) (rs : t.rs = s.rs) : Telling s t :=
  .silent lc (by rw [rs]; exact .refl _)

theorem Telling.after {s t u : State} (k : Telling t u) (lc : t.lc = s.lc) (rs : t.rs = s.rs) : Telling s u :=
  (Telling.of_eq lc rs).trans k

theorem Telling.refl (s : State) : Telling s s := .of_eq rfl rfl

theorem queueNotice_telling (n : Notice) (s : State) : Telling s (queueNotice n s) := (queueNotice_tells n s).telling

theorem foldl_telling {α : Type} (f : State → α → State) (h : ∀ s a, Telling s (f s a)) (l : List α) (s : State) :
    Telling s (l.foldl f s) := by
  induction l generalizing s with
  | nil => exact .refl s
  | cons a l ih => exact (h s a).trans (ih (f s a))

theorem interleave_telling (qs : List (List (State → State))) (s : State) (h : ∀ q ∈ qs, ∀ f ∈ q, ∀ u, Telling u (f u)) :
    Telling s (interleave qs s) :=
  interleave_keeps (P := Telling s) (fun _ k => k.trans (.of_eq rfl rfl)) qs s (fun q m f mf u k => k.trans (h q m f mf u)) (.refl s)

theorem anyOrder_telling (fs : List (State → State)) (s : State) (h : ∀ f ∈ fs, ∀ u, Telling u (f u)) :
    Telling s (anyOrder fs s) :=
  anyOrder_keeps (P := Telling s) (fun _ k => k.trans (.of_eq rfl rfl)) fs s (fun f m u k => k.trans (h f m u)) (.refl s)

/-! ## The store and the machine lines -/

theorem markRetained_telling (s : State) : Telling s (markRetained s) := .silent rfl (Rs.mark_sameRestart _)

theorem markedIf_telling (b : Prop) [Decidable b] (s : State) : Telling s (if b then markRetained s else s) := by
  split
  · exact markRetained_telling s
  · exact .refl s

theorem beginCommit_telling (r : Requester) {s : State} (running : s.rs.restartPending = false) : Telling s (beginCommit r s) :=
  .silent rfl ⟨rfl, fun pends => absurd (running.symm.trans pends) (by decide)⟩

/-! ## The Economy Manager -/

theorem settleAdvice_telling (s : State) : Telling s (settleAdvice s) := by
  unfold settleAdvice
  simp only []
  split_ifs
  · exact .refl s
  · exact Telling.trans (.of_eq (t := onEm (fun em => { em with lastAdvice := Em.advice s.em }) s) rfl rfl) (queueNotice_telling _ _)

theorem requestCommit_telling (s : State) : Telling s (requestCommit s) := by
  unfold requestCommit
  split_ifs with h
  · exact .refl s
  · exact beginCommit_telling _ (by cases p : s.rs.restartPending <;> simp_all)

theorem enterPending_telling (s : State) : Telling s (enterPending s) := by
  unfold enterPending
  simp only []
  split
  · exact .of_eq rfl rfl
  · exact Telling.trans (.of_eq (t := onEm (Em.setMode s.now .shutdownPending) s) rfl rfl) ((requestCommit_telling _).trans (.of_eq rfl rfl))
  · exact Telling.trans (.of_eq (t := onEm (Em.setMode s.now .shutdownPending) s) rfl rfl) ((requestCommit_telling _).trans (.of_eq rfl rfl))
  · exact .of_eq rfl rfl

theorem testShutdown_telling (s : State) : Telling s (testShutdown s) := by
  unfold testShutdown
  split
  · exact enterPending_telling s
  · exact .of_eq rfl rfl

theorem expireShutdown_telling (start : Stamp) (s : State) : Telling s (expireShutdown start s) :=
  (testShutdown_telling _).after rfl rfl

theorem reworkIdle_telling (s : State) : Telling s (reworkIdle s) := by
  unfold reworkIdle
  split <;> exact .of_eq rfl rfl

theorem reworkShutdown_telling (s : State) : Telling s (reworkShutdown s) := by
  unfold reworkShutdown
  split
  · split
    · exact expireShutdown_telling _ s
    · exact .of_eq rfl rfl
  · exact .refl s

theorem onEm_settled_telling (f : Em → Em) (s : State) : Telling s (settleAdvice (onEm f s)) :=
  (settleAdvice_telling _).after rfl rfl

theorem takeActivity_telling (s : State) : Telling s (takeActivity s) := onEm_settled_telling _ s

theorem takeSeatChange_telling (s : State) : Telling s (takeSeatChange s) := (reworkIdle_telling s).trans (settleAdvice_telling _)

theorem takePhaseChange_telling (p : Phase) (s : State) : Telling s (takePhaseChange p s) := onEm_settled_telling _ s

theorem takeCap_telling (n : Nat) (s : State) : Telling s (takeCap n s) := onEm_settled_telling _ s

theorem takeCommitEnd_telling (failed : Bool) (s : State) : Telling s (takeCommitEnd failed s) := by
  unfold takeCommitEnd
  split
  · exact .refl s
  · exact (requestCommit_telling s).trans (onEm_settled_telling _ _)
  · exact onEm_settled_telling _ s

theorem writeEconomy_telling (x : EconomySettings) (s : State) : Telling s (writeEconomy x s) := by
  have stored : Telling s (onEm (fun em => { em with settings := x }) s) := .of_eq rfl rfl
  exact (((stored.trans (markedIf_telling _ _)).trans (reworkIdle_telling _)).trans (reworkShutdown_telling _)).trans
    (onEm_settled_telling _ _)

/-! ## The Service Table and the Load Recorder -/

theorem settleCap_telling (s : State) : Telling s (settleCap s) := by
  unfold settleCap
  simp only []
  split
  · exact .refl s
  · exact (takeCap_telling _ _).after rfl rfl

theorem incrementEntry_telling (b : Basis) (n : Nat) (i : Fin 24) (s : State) : Telling s (incrementEntry b n i s) := by
  unfold incrementEntry
  split
  · exact .refl s
  · split
    · simp only []
      split
      · exact (queueNotice_telling _ _).after rfl rfl
      · exact .of_eq rfl rfl
    · exact .refl s

theorem takeIncrement_telling (b : Basis) (n : Nat) (s : State) : Telling s (takeIncrement b n s) := by
  unfold takeIncrement
  split
  · exact .refl s
  · exact ((foldl_telling _ (fun s i => incrementEntry_telling b n i s) _ s).trans (markedIf_telling _ _)).trans (settleCap_telling _)

theorem replaceItem_telling (i : Fin 24) (x : Option ServiceItem) (s : State) : Telling s (replaceItem i x s) :=
  (markedIf_telling _ (setEntry i (x.map entryOf) s)).after rfl rfl

theorem told_telling (ns : List Notice) (lr : Lr) (s : State) : Telling s (told ns lr s) :=
  ⟨ns, rfl, by rw [told]; exact (queueNotices_rs ns s) ▸ .refl _⟩

theorem closeLoad_telling (how : LoadState) (s : State) : Telling s (closeLoad how s) := by
  rw [closeLoad_eq]; exact told_telling _ _ s

theorem travelLoads_telling (s : State) : Telling s (travelLoads s) := by
  unfold travelLoads
  split
  · exact .of_eq rfl rfl
  · exact closeLoad_telling _ s

theorem takeTravelFirst_telling (s : State) : Telling s (takeTravelFirst s) := (closeLoad_telling _ s).trans (.of_eq rfl rfl)

theorem chargeFuel_telling (n : Nat) (s : State) : Telling s (chargeFuel n s) := by
  unfold chargeFuel
  split <;> exact .of_eq rfl rfl

theorem handlePass_telling (p : Pass) (s : State) : Telling s (handlePass p s) := by
  unfold handlePass
  split
  · rw [filePass_eq]; exact told_telling _ _ s
  · exact queueNotice_telling _ s

theorem receivePass_telling (p : Pass) (s : State) : Telling s (receivePass p s) := by
  have counted : Telling s (countPass p s) := (markRetained_telling _).after rfl rfl
  refine counted.trans (anyOrder_telling _ _ fun f m u => ?_)
  simp only [List.mem_cons, List.not_mem_nil, or_false] at m
  rcases m with rfl | rfl | rfl
  · exact handlePass_telling p u
  · exact takeIncrement_telling _ _ u
  · exact takeIncrement_telling _ _ u

theorem arrivePass_telling (p : Pass) (s : State) : Telling s (arrivePass p s) := by
  have chosen : Telling s { s with choices := s.choices + 1 } := .of_eq rfl rfl
  unfold arrivePass
  simp only []
  split
  · split
    · exact (chosen.trans (takeTravelFirst_telling _)).trans (receivePass_telling p _)
    · exact chosen.trans (receivePass_telling p _)
  · exact receivePass_telling p s

theorem reclass_telling (i : Fin 16) (s : State) : Telling s (reclass i s) := by
  unfold reclass
  split
  · exact .refl s
  · next l h =>
    have e := reclass_eq (i := i) h
    simp only [reclass, h] at e
    rw [e]
    exact told_telling _ _ s

theorem integrateReport_telling (s : State) : Telling s (integrateReport s) := by
  unfold integrateReport
  split
  · exact .refl s
  · next c _ =>
    simp only []
    refine Telling.trans ((markedIf_telling _ (onEm (fun _ => if c.report.running = true then
      Em.integrateTime c (min (reportInterval s c) 1000) (Em.integrateFuel c (reportInterval s c) s.em)
      else Em.integrateFuel c (reportInterval s c) s.em) s)).after rfl rfl) (anyOrder_telling _ _ fun f m u => ?_)
    simp only [List.mem_cons, List.not_mem_nil, or_false] at m
    rcases m with rfl | rfl | rfl | rfl
    · exact chargeFuel_telling _ u
    all_goals exact takeIncrement_telling _ _ u

theorem takeReport_telling (r : EngineReport) (s : State) : Telling s (takeReport r s) := by
  have steps (u : State) : Telling u (reportModeSteps r u) := by
    unfold reportModeSteps
    split
    · exact .of_eq rfl rfl
    · split
      · exact .of_eq rfl rfl
      · split
        · exact testShutdown_telling u
        · exact .refl u
      · exact .refl u
  exact (integrateReport_telling s).trans (((steps (onEm (fun em => { em with
    copy := some { report := r, stamp := (integrateReport s).now } }) (integrateReport s))).trans (settleAdvice_telling _)).after rfl rfl)

/-! ## The Slew Limiter and the Zone Table -/

theorem settleIntrusion_telling (i : SlewInputs) (k : Fin 16) (b : Bool) (s : State) : Telling s (settleIntrusion i k b s) := by
  unfold settleIntrusion
  simp only []
  split
  · split
    · exact .refl s
    · exact (queueNotice_telling _ _).after rfl rfl
  · split
    · exact queueNotice_telling _ s
    · exact .refl s

theorem settleIntrusions_telling (i : SlewInputs) (o : Vector ZoneOutcome 16) (s : State) : Telling s (settleIntrusions i o s) := by
  refine anyOrder_telling _ _ fun f m u => ?_
  obtain ⟨k, -, rfl⟩ := List.mem_map.1 m
  exact settleIntrusion_telling _ k _ u

theorem countCuts_telling (old new : Bool) (c : LineCauses) (s : State) : Telling s (countCuts old new c s) := by
  unfold countCuts
  split
  · exact foldl_telling (fun u k => onZone k ZoneEntry.countCut u) (fun u k => .of_eq rfl rfl) _ s
  · exact .refl s

theorem cutsCounted_telling (p : Pose) (s t : State) : Telling t (cutsCounted p s t) :=
  ((countCuts_telling _ _ _ _).trans (countCuts_telling _ _ _ _)).trans (countCuts_telling _ _ _ _)

theorem evaluateSlew_telling (s : State) : Telling s (evaluateSlew s) := by
  cases pose : s.sl.pose with
  | none => rw [evaluateSlew_none pose]; exact .refl s
  | some p =>
    have lined (a : AlarmPattern) (f : Mlu → Mlu) (g : Sl → Sl) (u : State) : Telling u (requestSlAlarm a (onMlu f (onSl g u))) :=
      .of_eq rfl rfl
    have taken : Telling s (cutsTaken p s) := (settleIntrusions_telling _ _ s).trans (lined _ _ _ _)
    rw [evaluateSlew_some pose, evaluateOn_eq]
    split
    · exact taken.trans (cutsCounted_telling p s _)
    · exact (taken.trans (cutsCounted_telling p s _)).trans (queueNotice_telling _ _)

theorem forgetZone_telling (k : Fin 16) (s : State) : Telling s (forgetZone k s) := by
  unfold forgetZone
  simp only []
  split
  · exact (queueNotice_telling _ _).after rfl rfl
  · exact .of_eq rfl rfl

theorem deliverHealthToSl_telling (h : Health) (s : State) : Telling s (deliverHealthToSl h s) :=
  (evaluateSlew_telling _).after rfl rfl

theorem deliverPoseToSl_telling (p : Pose) (s : State) : Telling s (deliverPoseToSl p s) :=
  (evaluateSlew_telling _).after rfl rfl

/-- A turn of `n` units taken and counted hands over what its increment does (R93). -/
theorem turnTaken_telling (n : Nat) (s : State) : Telling s
    (takeIncrement .slewTurns n (markRetained (onSl (fun sl => { sl with travel := sl.travel - n, turns := sl.turns + 1 }) s))) :=
  ((markRetained_telling _).trans (takeIncrement_telling _ _ _)).after rfl rfl

theorem countTurn_telling (s : State) : Telling s (countTurn s) := turnTaken_telling 65536 s

theorem readSlewTravel_telling (x : Sample) (s : State) : Telling s (readSlewTravel x s) := by
  have moved (f : Sl → Sl) : Telling s (onSl f s) := .of_eq rfl rfl
  unfold readSlewTravel
  simp only []
  split
  · exact .refl s
  · split
    · exact moved _
    · split
      · exact (moved _).trans (countTurn_telling _)
      · exact moved _

theorem settleUnanchored_telling (s : State) : Telling s (settleUnanchored s) := by
  unfold settleUnanchored
  simp only []
  split <;> exact .of_eq rfl rfl

theorem zoneNotices_telling (e : Fin 16 → Option ZoneEvent) (s : State) : Telling s (zoneNotices e s) := by
  refine anyOrder_telling _ _ fun f m u => ?_
  obtain ⟨k, -, hk⟩ := List.mem_filterMap.1 m
  obtain ⟨x, -, rfl⟩ := Option.map_eq_some_iff.1 hk
  exact queueNotice_telling _ u

theorem rearmZones_telling (a : Authority) (s : State) : Telling s (rearmZones a s) :=
  ((zoneNotices_telling _ _).trans (evaluateSlew_telling _)).after rfl rfl

theorem travelZones_telling (s : State) : Telling s (travelZones s) := by
  unfold travelZones
  simp only []
  split
  · exact (((zoneNotices_telling _ _).trans (settleUnanchored_telling _)).trans (evaluateSlew_telling _)).after rfl rfl
  · exact .refl s

theorem replaceZone_telling (k : Fin 16) (z : Option Zone) (s : State) : Telling s (replaceZone k z s) := by
  have replaced (differs : Bool) : Telling s (if differs = true then markRetained (onZone k (fun _ => { held := z }) s)
      else onZone k (fun _ => { held := z }) s) := (markedIf_telling _ (onZone k (fun _ => { held := z }) s)).after rfl rfl
  refine (replaced _).trans (anyOrder_telling _ _ fun f m u => ?_)
  rcases mem_ite_append_singleton m with rfl | rfl
  · exact settleUnanchored_telling u
  · exact (forgetZone_telling k u).trans (evaluateSlew_telling _)

theorem clearZone_telling (k : Fin 16) (s : State) : Telling s (clearZone k s) := by
  unfold clearZone
  split
  · exact .refl s
  · exact replaceZone_telling k none s

theorem moveZone_telling (k : Fin 16) (x : ZoneState) (s : State) : Telling s (moveZone k x s) :=
  (evaluateSlew_telling _).after rfl rfl

theorem reanchorZones_telling (d : Angle) (s : State) : Telling s (reanchorZones d s) := by
  have turned (u : State) : Telling u (if d = 0 then u else markRetained u) := by
    split
    · exact .refl u
    · exact markRetained_telling u
  exact ((((turned _).trans (zoneNotices_telling _ _)).trans (settleUnanchored_telling _)).trans (evaluateSlew_telling _)).after rfl rfl

theorem settleAuthority_telling (s : State) : Telling s (settleAuthority s) := by
  unfold settleAuthority
  simp only []
  split
  · exact .refl s
  · exact ((queueNotice_telling _ _).trans (rearmZones_telling _ _)).after rfl rfl

/-! ## The Cycle Tracker, the Pose Solver and the channels -/

theorem drainPressure_telling (s : State) : Telling s (drainPressure s) := by
  rw [drainPressure_eq]; exact .of_eq rfl rfl

theorem endRun_telling (r : Run) (o : RunOutcome) (s : State) : Telling s (endRun r o s) :=
  ((queueNotice_telling _ _).trans (drainPressure_telling _)).after rfl rfl

theorem hardFail_telling (cause : RunFailure) (s : State) : Telling s (hardFail cause s) := by
  unfold hardFail
  split
  · exact .refl s
  · exact endRun_telling _ _ s

theorem nextStep_telling (s : State) : Telling s (nextStep s) := by
  unfold nextStep
  split
  · exact .of_eq rfl rfl
  · exact (drainPressure_telling _).after rfl rfl

theorem judgeStep_telling (r : Run) (w : Window) (s : State) : Telling s (judgeStep r w s) := by
  obtain ⟨u, hu, h⟩ := judgeStep_cases r w s
  have hu : Telling s u := by
    rcases hu with rfl | ⟨r', rfl⟩ | ⟨a, b, rfl⟩
    · exact .refl _
    · exact .of_eq rfl rfl
    · exact (markedIf_telling _ (onCt (fun ct => { ct with fempty := a, gain := b }) s)).after rfl rfl
  rcases h with h | ⟨r', o, h⟩ <;> rw [h]
  · exact hu.trans (nextStep_telling u)
  · exact hu.trans (endRun_telling _ _ u)

theorem setPhase_telling (p : Phase) (s : State) : Telling s (setPhase p s) := by
  unfold setPhase
  split
  · exact .refl s
  · exact (takePhaseChange_telling p _).after rfl rfl

theorem toUnknown_telling (s : State) : Telling s (toUnknown s) := (setPhase_telling _ _).after rfl rfl

theorem travelEndedAtCt_telling (s : State) : Telling s (travelEndedAtCt s) := by
  unfold travelEndedAtCt
  split
  · split
    · exact .refl s
    · exact setPhase_telling _ s
  · exact .refl s

theorem deliverHealthToCt_telling (h : Health) (s : State) : Telling s (deliverHealthToCt h s) := by
  refine Telling.trans (t := onCt (fun ct => { ct with health := h }) s) (.of_eq rfl rfl) (anyOrder_telling _ _ fun f m u => ?_)
  rcases mem_ctHealthActions m with rfl | rfl
  · exact hardFail_telling _ u
  · exact .of_eq rfl rfl

theorem requestComputation_telling (s : State) : Telling s (requestComputation s) := by
  rw [requestComputation_eq]; split <;> exact .of_eq rfl rfl

theorem settleOverdig_telling (p : Pose) (s : State) : Telling s (settleOverdig p s) := by
  have alarmed (a : AlarmPattern) (u : State) : Telling u (requestPsAlarm a u) := .of_eq rfl rfl
  unfold settleOverdig
  simp only []
  split
  · exact ((queueNotice_telling _ _).trans (alarmed _ _)).after rfl rfl
  · split
    · exact ((queueNotice_telling _ _).trans (alarmed _ _)).after rfl rfl
    · exact .refl s

theorem serveTip_telling (p : Pose) (s : State) : Telling s (serveTip p s) := by
  unfold serveTip
  split
  · exact (queueNotice_telling _ _).after rfl rfl
  · exact .refl s

theorem closeAtDump_telling (s : State) : Telling s (closeAtDump s) := by
  unfold closeAtDump
  split
  · split <;> exact .of_eq rfl rfl
  · exact .refl s

theorem takePoseAtCt_telling (p : Pose) (s : State) : Telling s (takePoseAtCt p s) := by
  have moved : Telling s (moveWindow p s) := by
    unfold moveWindow
    split
    · exact .of_eq rfl rfl
    · split <;> exact .of_eq rfl rfl
    · split
      · exact (closeAtDump_telling s).trans (.of_eq rfl rfl)
      · exact .refl s
    · exact .refl s
  exact moved.trans (.of_eq rfl rfl)

theorem deliverPose_telling (p : Pose) (s : State) : Telling s (deliverPose p s) := by
  refine deliverPose_keeps (P := Telling s) (fun _ h => h.trans (.of_eq rfl rfl)) p s (fun f m u hu => hu.trans ?_)
    (takePoseAtCt_telling p s)
  simp only [List.mem_cons, List.not_mem_nil, or_false] at m
  rcases m with rfl | rfl | rfl | rfl | rfl
  · exact deliverPoseToSl_telling _ u
  · exact hardFail_telling _ u
  · exact arrivePass_telling _ u
  · exact takeActivity_telling u
  · exact takePhaseChange_telling _ u

theorem startPending_telling (s : State) : Telling s (startPending s) := by
  unfold startPending
  split
  · rw [startComputation_eq]; exact .of_eq rfl rfl
  · exact .refl s

theorem completePose_telling (c : Computation) (s : State) : Telling s (completePose c s) :=
  ((((settleOverdig_telling _ _).trans (serveTip_telling _ _)).trans (deliverPose_telling _ _)).trans (startPending_telling _)).after rfl rfl

theorem changeChannel_telling (ch : Fin 6) (g : Channel → Channel) (s : State) : Telling s (changeChannel ch g s) := by
  refine changeChannel_keeps (P := Telling s) (fun _ h => h.trans (.of_eq rfl rfl)) ch g (fun a b f m u hu => hu.trans ?_)
    (.of_eq rfl rfl)
  simp only [List.mem_cons, List.not_mem_nil, or_false] at m
  rcases m with rfl | rfl | rfl | rfl
  · exact queueNotice_telling _ u
  · exact requestComputation_telling u
  · exact deliverHealthToSl_telling b u
  · exact deliverHealthToCt_telling b u

theorem arriveFrame_telling (ch : Fin 6) (bytes : List Byte) (s : State) : Telling s (arriveFrame ch bytes s) := by
  refine arriveFrame_keeps (P := Telling s) (fun _ h => h.trans (.of_eq rfl rfl)) ch bytes (fun a b x f m u hu => hu.trans ?_)
    (.of_eq rfl rfl)
  simp only [List.mem_cons, List.not_mem_nil, or_false] at m
  rcases m with rfl | rfl | rfl | rfl | rfl | rfl
  · exact queueNotice_telling _ u
  · exact requestComputation_telling u
  · exact deliverHealthToSl_telling b u
  · exact deliverHealthToCt_telling b u
  · exact readSlewTravel_telling x u
  · exact drainPressure_telling u

theorem readInputs_telling (x : InputSamples) (s : State) : Telling s (readInputs x s) := by
  refine readInputs_keeps (P := Telling s) (fun _ h => h.trans (.of_eq rfl rfl)) x (fun _ h => h.trans (.of_eq rfl rfl))
    (fun f m u hu => hu.trans ?_) s (.refl s)
  simp only [List.mem_cons, List.not_mem_nil, or_false] at m
  rcases m with rfl | rfl | rfl | rfl | rfl | rfl | rfl
  · exact takeActivity_telling u
  · exact takeSeatChange_telling u
  · exact travelZones_telling u
  · exact toUnknown_telling u
  · exact travelLoads_telling u
  · exact travelEndedAtCt_telling u
  · exact settleAuthority_telling u

end Sys2Proof.Machine

/-! PROOFS. The queues and counts of the Link Controller keep their bounds (R167, R171, R172, R174, R175, R179). -/

namespace Sys2Proof.Machine

/-! ## The bounds -/

/-- The bounds of the queues and the counts. -/
structure LcBounded (lc : Lc) : Prop where
  inbox   : lc.inbox.length ≤ 4
  notices : lc.notices.length ≤ 32
  tips    : noticesOfKind 0x45 lc ≤ 1
  advices : noticesOfKind 0x4A lc ≤ 1
  early   : lc.early.length ≤ lc.notices.length
  counts  : ∀ n ∈ [lc.noticeLoss, lc.stats.received, lc.stats.check, lc.stats.length, lc.stats.timeout, lc.stats.framing,
    lc.stats.inboxFull], n ≤ 65535

/-- A free transmitter leaves nothing waiting but the notices that a pending RESTART keeps back (R175, R167). -/
def Served (rs : Rs) (lc : Lc) : Prop :=
  lc.tx = .free → lc.replySlot = none ∧
    (lc.notices = [] ∨ (rs.restartPending = true ∧ (rs.state.isCommitting = false ∨ true ∉ lc.early)))

/-- The bounds and the serving of the queue. -/
def Linked (s : State) : Prop := LcBounded s.lc ∧ Served s.rs s.lc

theorem linkBounded_iff (s : State) : LinkBounded s ↔ Linked s ∧ s.lc.interpreter = .idle := by
  constructor
  · rintro ⟨inbox, notices, tips, advices, early, idle, served, counts⟩
    exact ⟨⟨⟨inbox, notices, tips, advices, early, counts⟩, served⟩, idle⟩
  · rintro ⟨⟨⟨inbox, notices, tips, advices, early, counts⟩, served⟩, idle⟩
    exact ⟨inbox, notices, tips, advices, early, idle, served, counts⟩

theorem Served.of_sameRestart {a b : Rs} {lc : Lc} (h : Served a lc) (same : SameRestart b a) : Served b lc := fun free => by
  obtain ⟨slot, waits⟩ := h free
  refine ⟨slot, waits.imp_right fun ⟨pends, idle⟩ => ?_⟩
  have pends' := same.1.trans pends
  exact ⟨pends', idle.imp_left fun idle => (same.2 pends').trans idle⟩

theorem Served.of_busy {rs : Rs} {lc : Lc} (busy : lc.tx ≠ .free) : Served rs lc := fun free => absurd free busy

/-! ## What keeps the bounds -/

/-- The number of waiting notices of a kind, whether one enters the queue in the place of its kind or at the tail (R174). -/
theorem noticesOfKind_enqueue {k : Nat} (n : Notice) {lc : Lc} (h : noticesOfKind k lc ≤ 1)
    (replaces : noticeKind n = k → n.replacesItsKind = true) : noticesOfKind k (lc.enqueue n) ≤ 1 := by
  unfold Lc.enqueue
  split_ifs with waits
  · have same : (fun m => noticeKind m == k) ∘ (fun m => if noticeKind m = noticeKind n then n else m) =
        fun m => noticeKind m == k := by
      funext m
      by_cases e : noticeKind m = noticeKind n <;> simp [e]
    simpa only [noticesOfKind, List.countP_map, same] using h
  · simp only [noticesOfKind, List.countP_append, List.countP_singleton]
    by_cases kind : noticeKind n = k
    · have none' : noticesOfKind k lc = 0 := by
        rw [noticesOfKind, List.countP_eq_zero]
        intro m hm
        simp only [replaces kind, Bool.true_and, List.any_eq_true, not_exists, not_and, kind] at waits
        exact waits m hm
      rw [show List.countP (fun n => noticeKind n == k) lc.notices = 0 from none']
      simp [kind]
    · rw [if_neg (by simpa using kind)]
      exact h
  · exact h

theorem satAdd_le (n : Nat) : satAdd max16 n 1 ≤ 65535 := min_le_left ..

theorem enqueue_bounded (n : Notice) {lc : Lc} (h : LcBounded lc) : LcBounded (lc.enqueue n) := by
  have tips := noticesOfKind_enqueue n h.tips fun e => (replacesItsKind_iff n).2 (.inl e)
  have advices := noticesOfKind_enqueue n h.advices fun e => (replacesItsKind_iff n).2 (.inr e)
  obtain ⟨inbox, notices, -, -, early, counts⟩ := h
  unfold Lc.enqueue at tips advices ⊢
  split_ifs at tips advices ⊢ with waits room
  · exact ⟨inbox, by simpa using notices, tips, advices, by simpa using early, counts⟩
  · exact ⟨inbox, by simp only [List.length_append, List.length_singleton]; omega, tips, advices,
      by simp only [List.length_append, List.length_singleton]; omega, counts⟩
  · refine ⟨inbox, notices, tips, advices, early, ?_⟩
    simp only [List.forall_mem_cons] at counts ⊢
    exact ⟨satAdd_le _, counts.2⟩

theorem noticesOfKind_erase {k i : Nat} {lc : Lc} (h : noticesOfKind k lc ≤ 1) :
    List.countP (fun n => noticeKind n == k) (lc.notices.eraseIdx i) ≤ 1 :=
  ((List.eraseIdx_sublist lc.notices i).countP_le).trans h

theorem pump_bounded (next : Option Nat) {lc : Lc} (h : LcBounded lc) : LcBounded (lc.pump next) := by
  unfold Lc.pump
  split
  · exact h
  · split
    · exact ⟨h.inbox, h.notices, h.tips, h.advices, h.early, h.counts⟩
    · split
      · exact h
      · next i =>
        split
        · exact h
        · next n at' =>
          have hi : i < lc.notices.length := (List.getElem?_eq_some_iff.1 at').1
          have notices := h.notices
          have early := h.early
          refine ⟨h.inbox, ?_, noticesOfKind_erase h.tips, noticesOfKind_erase h.advices, ?_, h.counts⟩
          · simp only [List.length_eraseIdx]; split <;> omega
          · simp only [List.length_eraseIdx, hi, if_true]; split <;> omega

/-- The transmitter that looks for its next frame leaves nothing waiting that may be sent (R175, R167). -/
theorem pump_served (rs : Rs) {lc : Lc} (h : LcBounded lc) : Served rs (lc.pump (nextNotice rs lc)) := by
  unfold Lc.pump
  split
  · next busy => exact .of_busy (by rw [busy]; simp)
  · split
    · exact .of_busy (by simp)
    · next slot =>
      split
      · next none' =>
        intro _
        refine ⟨slot, .inr ?_⟩
        unfold nextNotice at none'
        split_ifs at none' with pends busy
        · exact ⟨pends, .inr fun m => by simpa using List.findIdx?_eq_none_iff.1 none' true m⟩
        · exact ⟨pends, .inl (by simpa using busy)⟩
      · next i some' =>
        split
        · next gone =>
          intro _
          refine ⟨slot, ?_⟩
          have out : lc.notices.length ≤ i := List.getElem?_eq_none_iff.1 gone
          unfold nextNotice at some'
          split_ifs at some' with pends busy
          · have inside := List.findIdx?_eq_some_iff_findIdx_eq.1 some'
            have := h.early
            omega
          · cases some'
            exact .inl (List.length_eq_zero_iff.1 (by omega))
        · exact .of_busy (by simp)

theorem queueNotice_bounded (n : Notice) {s : State} (h : LcBounded s.lc) : LcBounded (queueNotice n s).lc :=
  pump_bounded _ (enqueue_bounded n h)

theorem queueNotice_linked (n : Notice) {s : State} (h : LcBounded s.lc) : Linked (queueNotice n s) :=
  ⟨queueNotice_bounded n h, pump_served s.rs (enqueue_bounded n h)⟩

theorem queueNotices_bounded (ns : List Notice) {s : State} (h : LcBounded s.lc) : LcBounded (queueNotices ns s).lc := by
  induction ns generalizing s with
  | nil => exact h
  | cons n ns ih => exact ih (queueNotice_bounded n h)

theorem queueNotices_linked (ns : List Notice) {s : State} (h : Linked s) : Linked (queueNotices ns s) := by
  induction ns generalizing s with
  | nil => exact h
  | cons n ns ih => exact ih (queueNotice_linked n h.1)

theorem Telling.bounded {s t : State} (h : Telling s t) (hs : LcBounded s.lc) : LcBounded t.lc := by
  obtain ⟨ns, lc, -⟩ := h
  rw [lc]
  exact queueNotices_bounded ns hs

theorem Telling.linked {s t : State} (h : Telling s t) (hs : Linked s) : Linked t := by
  obtain ⟨ns, lc, same⟩ := h
  have told := queueNotices_linked ns hs
  unfold Linked at told ⊢
  rw [queueNotices_rs] at told
  rw [lc]
  exact ⟨told.1, told.2.of_sameRestart same⟩

theorem Telling.idle {s t : State} (h : Telling s t) (hs : s.lc.interpreter = .idle) : t.lc.interpreter = .idle := by
  obtain ⟨ns, lc, -⟩ := h
  rw [lc]
  exact (queueNotices_frame ns s).lc.interpreter.trans hs

theorem Telling.linkBounded {s t : State} (h : Telling s t) (hs : LinkBounded s) : LinkBounded t :=
  (linkBounded_iff t).2 ⟨h.linked ((linkBounded_iff s).1 hs).1, h.idle ((linkBounded_iff s).1 hs).2⟩

end Sys2Proof.Machine

/-! PROOFS. Every step keeps the bounds of the inbox, the notice queue and the link counts (R167, R171, R172, R174, R175, R179). -/

namespace Sys2Proof.Machine

/-! ## The owners of the host's commands hand over notices, or leave the link's bounds -/

theorem withFields_telling {α : Type} (fields? : List Byte → Option α) {owner : α → State → State × Answer}
    (h : ∀ a u, Telling u (owner a u).1) (body : List Byte) (s : State) : Telling s (withFields fields? owner body s).1 := by
  rcases withFields_cases fields? owner body s with e | ⟨a, -, e⟩ <;> rw [e]
  · exact .refl s
  · exact h a s

theorem channelSetOwner_telling (body : List Byte) (s : State) : Telling s (channelSetOwner body s).1 := by
  rcases channelSetOwner_cases body s with h | ⟨ch, new, -, h⟩ <;> rw [h]
  · exact .refl s
  · exact (markedIf_telling _ s).trans (changeChannel_telling ch _ _)

theorem channelStatusOwner_telling (body : List Byte) (s : State) : Telling s (channelStatusOwner body s).1 := by
  rcases channelStatusOwner_cases body s with h | ⟨ch, h⟩ <;> rw [h]
  · exact .refl s
  · exact .of_eq rfl rfl

theorem channelRestartOwner_telling (body : List Byte) (s : State) : Telling s (channelRestartOwner body s).1 := by
  rcases channelRestartOwner_cases body s with h | ⟨ch, -, h⟩ <;> rw [h]
  · exact .refl s
  · exact changeChannel_telling ch _ s

theorem replaceGeometry_telling (g : Geometry) (s : State) : Telling s (replaceGeometry g s) :=
  (markedIf_telling _ _).after rfl rfl

theorem geometrySetOwner_telling (body : List Byte) (s : State) : Telling s (geometrySetOwner body s).1 :=
  withFields_telling geometrySet? (fun g u => by
    refine Telling.trans (anyOrder_telling _ _ fun f m v => ?_) (requestComputation_telling _)
    rcases List.mem_cons.1 m with rfl | m
    · exact replaceGeometry_telling g v
    · obtain ⟨-, rfl⟩ := mem_ite_singleton m
      exact hardFail_telling _ v) body s

theorem requestForGrade_telling (s : State) : Telling s (requestForGrade s) := by
  unfold requestForGrade
  split_ifs
  · exact .refl s
  · exact .of_eq rfl rfl

theorem gradeSetOwner_telling (body : List Byte) (s : State) : Telling s (gradeSetOwner body s).1 :=
  withFields_telling gradeSet? (fun g u =>
    (requestForGrade_telling (onPs (fun ps => { ps with grade := g }) u)).after (s := u) rfl rfl) body s

theorem zoneWriteOwner_telling (body : List Byte) (s : State) : Telling s (zoneWriteOwner body s).1 := by
  rcases zoneWriteOwner_cases body s with h | ⟨k, z, -, h⟩ <;> rw [h]
  · exact .refl s
  · exact replaceZone_telling k z s

theorem zoneClearOwner_telling (body : List Byte) (s : State) : Telling s (zoneClearOwner body s).1 := by
  rcases zoneClearOwner_cases body s with h | ⟨k, h⟩ <;> rw [h]
  · exact .refl s
  · exact replaceZone_telling k none s

theorem zoneReadOwner_telling (body : List Byte) (s : State) : Telling s (zoneReadOwner body s).1 := by
  rcases zoneReadOwner_cases body s with h | ⟨k, h⟩ <;> rw [h]
  · exact .refl s
  · exact .of_eq rfl rfl

theorem zoneSuspendOwner_telling (body : List Byte) (s : State) : Telling s (zoneSuspendOwner body s).1 := by
  rcases zoneSuspendOwner_cases body s with h | ⟨k, z, -, -, -, h⟩ <;> rw [h]
  · exact .refl s
  · exact moveZone_telling _ _ s

theorem zoneResumeOwner_telling (body : List Byte) (s : State) : Telling s (zoneResumeOwner body s).1 := by
  rcases zoneResumeOwner_cases body s with h | ⟨k, z, -, -, h⟩ <;> rw [h]
  · exact .refl s
  · exact moveZone_telling _ _ s

theorem reanchorOwner_telling (body : List Byte) (s : State) : Telling s (reanchorOwner body s).1 := by
  rcases reanchorOwner_cases body s with h | ⟨d, h⟩ <;> rw [h]
  · exact .refl s
  · exact reanchorZones_telling d s

theorem slewSettingsOwner_telling (body : List Byte) (s : State) : Telling s (slewSettingsOwner body s).1 := by
  rcases slewSettingsOwner_cases body s with h | ⟨new, -, h⟩ <;> rw [h]
  · exact .refl s
  · exact ((markedIf_telling _ (onSl (fun sl => { sl with settings := new }) s)).trans (evaluateSlew_telling _)).after rfl rfl

theorem cycleSettingsOwner_telling (body : List Byte) (s : State) : Telling s (cycleSettingsOwner body s).1 :=
  withFields_telling cycleSettings? (fun op u => by
    cases op with
    | read => exact .refl u
    | write c =>
      exact ((markedIf_telling _ (onCt (fun ct => { ct with settings := c }) u)).trans (hardFail_telling _ _)).after rfl rfl)
    body s

theorem startRun_telling (kind : RunKind) (s : State) : Telling s (startRun kind s).1 := by
  unfold startRun
  split_ifs
  · exact .refl s
  · exact .of_eq rfl rfl

theorem calibrateCancelOwner_telling (body : List Byte) (s : State) : Telling s (calibrateCancelOwner body s).1 := by
  unfold calibrateCancelOwner
  split
  · exact .refl s
  · exact endRun_telling _ _ s

theorem writeClass_telling (i : Fin 16) (c : TruckClass) (s : State) : Telling s (writeClass i c s) :=
  (markedIf_telling _ _).after rfl rfl

theorem truckClassOwner_telling (body : List Byte) (s : State) : Telling s (truckClassOwner body s).1 :=
  withFields_telling truckClassSet? (fun op u => by
    cases op with
    | read => exact .refl u
    | write a =>
      obtain ⟨i, c⟩ := a
      simp only []
      split_ifs
      · exact .refl u
      · exact writeClass_telling i c u) body s

theorem loadNextOwner_telling (body : List Byte) (s : State) : Telling s (loadNextOwner body s).1 :=
  withFields_telling loadNext? (fun ⟨i, flag⟩ u => by
    simp only []
    split_ifs
    · exact .refl u
    · exact (reclass_telling i _).after rfl rfl
    · exact .of_eq rfl rfl) body s

theorem loadCloseOwner_telling (body : List Byte) (s : State) : Telling s (loadCloseOwner body s).1 := by
  unfold loadCloseOwner
  split
  · exact .refl s
  · exact closeLoad_telling _ s

theorem loadReadOwner_telling (body : List Byte) (s : State) : Telling s (loadReadOwner body s).1 :=
  withFields_telling _ (fun x u => by
    split
    · exact .refl u
    · exact .refl u) body s

theorem clearCounters_telling (s : State) : Telling s (clearCounters s) := (markedIf_telling _ _).after rfl rfl

theorem countersOwner_telling (body : List Byte) (s : State) : Telling s (countersOwner body s).1 :=
  withFields_telling _ (fun clear u => by
    cases clear
    · exact .refl u
    · exact clearCounters_telling u) body s

theorem economyOwner_telling (body : List Byte) (s : State) : Telling s (economyOwner body s).1 :=
  withFields_telling economySet? (fun op u => by
    cases op with
    | read => exact .refl u
    | write x => exact writeEconomy_telling x u) body s

theorem settleReplaced_telling (i : Fin 24) (item : Option ServiceItem) (s : State) :
    Telling s (settleCap (replaceItem i item s)) :=
  (replaceItem_telling i item s).trans (settleCap_telling _)

theorem serviceItemOwner_telling (body : List Byte) (s : State) : Telling s (serviceItemOwner body s).1 :=
  withFields_telling serviceItemSet? (fun ⟨i, d⟩ u => settleReplaced_telling i (d.map newItem) u) body s

theorem serviceDoneOwner_telling (body : List Byte) (s : State) : Telling s (serviceDoneOwner body s).1 :=
  withFields_telling _ (fun i u => by
    split
    · exact .refl u
    · exact settleReplaced_telling _ _ u) body s

theorem serviceSuspendOwner_telling (body : List Byte) (s : State) : Telling s (serviceSuspendOwner body s).1 :=
  withFields_telling serviceSuspend? (fun ⟨i, on⟩ u => by
    simp only []
    split
    · exact .refl u
    · simp only []
      split_ifs
      · exact .refl u
      · exact settleReplaced_telling _ _ u) body s

theorem serviceAckOwner_telling (body : List Byte) (s : State) : Telling s (serviceAckOwner body s).1 :=
  withFields_telling serviceAck? (fun is u => by
    simp only []
    split_ifs
    · exact .of_eq rfl rfl
    · exact (markRetained_telling _).after rfl rfl) body s

theorem LcBounded.cleared {lc : Lc} (h : LcBounded lc) : LcBounded { lc with noticeLoss := 0, stats := {} } :=
  ⟨h.inbox, h.notices, h.tips, h.advices, h.early, by simp⟩

theorem LcBounded.keptBack {lc : Lc} (h : LcBounded lc) :
    LcBounded { lc with early := List.replicate lc.notices.length true } :=
  ⟨h.inbox, h.notices, h.tips, h.advices, by rw [List.length_replicate], h.counts⟩

theorem commitOwner_bounded (body : List Byte) {s : State} (h : LcBounded s.lc) : LcBounded (commitOwner body s).1.lc := by
  unfold commitOwner
  split_ifs <;> exact h

/-- No owner of a command takes the link's queues and counts out of their bounds. -/
theorem ownerOfKind_bounded (kind : Byte) (body : List Byte) {s : State} (h : LcBounded s.lc) :
    LcBounded (ownerOfKind kind body s).1.lc := by
  unfold ownerOfKind
  generalize kind.toNat = n
  split
  · exact h.cleared
  · exact h.keptBack
  · exact commitOwner_bounded body h
  · exact (channelSetOwner_telling body s).bounded h
  · exact (channelStatusOwner_telling body s).bounded h
  · exact (channelRestartOwner_telling body s).bounded h
  · exact (geometrySetOwner_telling body s).bounded h
  · exact h
  · exact (gradeSetOwner_telling body s).bounded h
  · exact h
  · exact (zoneWriteOwner_telling body s).bounded h
  · exact (zoneClearOwner_telling body s).bounded h
  · exact (zoneReadOwner_telling body s).bounded h
  · exact (zoneSuspendOwner_telling body s).bounded h
  · exact (zoneResumeOwner_telling body s).bounded h
  · exact (reanchorOwner_telling body s).bounded h
  · exact (slewSettingsOwner_telling body s).bounded h
  · exact (cycleSettingsOwner_telling body s).bounded h
  · exact (withFields_telling calibrateEmpty? (fun _ u => startRun_telling _ u) body s).bounded h
  · exact (withFields_telling calibrateGain? (fun _ u => startRun_telling _ u) body s).bounded h
  · exact (calibrateCancelOwner_telling body s).bounded h
  · exact (truckClassOwner_telling body s).bounded h
  · exact (loadNextOwner_telling body s).bounded h
  · exact (loadCloseOwner_telling body s).bounded h
  · exact (loadReadOwner_telling body s).bounded h
  · exact (takeReport_telling _ s).bounded h
  · exact (economyOwner_telling body s).bounded h
  · exact (countersOwner_telling body s).bounded h
  · exact (serviceItemOwner_telling body s).bounded h
  · exact (withFields_telling serviceRead? (fun _ u => .refl u) body s).bounded h
  · exact (serviceAckOwner_telling body s).bounded h
  · exact (serviceDoneOwner_telling body s).bounded h
  · exact (serviceSuspendOwner_telling body s).bounded h
  · exact h

/-! ## The interpreter -/

theorem takeFrame_bounded {s : State} (h : LcBounded s.lc) : LcBounded (takeFrame s).lc :=
  ⟨(List.length_tail ▸ Nat.sub_le _ _).trans h.inbox, h.notices, h.tips, h.advices, h.early, h.counts⟩

theorem pump_interpreter (next : Option Nat) (lc : Lc) : (lc.pump next).interpreter = lc.interpreter :=
  (pump_queued next lc).interpreter

/-- The placing of a reply sends what may be sent, so it leaves the link in order from the bounds alone (R172, R175). -/
theorem placeReply_linkBounded (r : Reply) {s : State} (h : LcBounded s.lc) : LinkBounded (placeReply r s) := by
  have placed : LcBounded { s.lc with replySlot := some r, interpreter := .idle } :=
    ⟨h.inbox, h.notices, h.tips, h.advices, h.early, h.counts⟩
  have idle : (placeReply r s).lc.interpreter = .idle := by rw [placeReply_lc, pump_interpreter]
  exact (linkBounded_iff _).2 ⟨⟨pump_bounded (nextNotice s.rs s.lc) placed, pump_served s.rs placed⟩, idle⟩

theorem hostCommand_linkBounded {c : Instr} {f : CommandFrame} (named : hostFrameOf c = some f) {s t : State}
    (hs : LinkBounded s) (e : exec c s = .next t) : LinkBounded t := by
  have bounded : LcBounded (takeFrame s).lc := takeFrame_bounded ((linkBounded_iff s).1 hs).1.1
  rw [exec_hostCommand named] at e
  rcases interpret_cases e with rfl | ⟨-, r, rfl | ⟨-, -, -, rfl⟩⟩
  · exact hs
  · exact placeReply_linkBounded r bounded
  · exact placeReply_linkBounded r (ownerOfKind_bounded f.kind f.body bounded)

theorem execUnknownKind_linkBounded {kind tag : Byte} {body : List Byte} {s t : State} (hs : LinkBounded s)
    (e : execUnknownKind kind tag body s = .next t) : LinkBounded t := by
  rcases eq_or_of_whenDue e with rfl | ⟨-, rfl⟩
  · exact hs
  · exact placeReply_linkBounded _ (takeFrame_bounded ((linkBounded_iff s).1 hs).1.1)

/-! ## The receive side and the transmitter -/

/-- A change of the Link Controller that leaves the transmitter, its queues and the interpreter. -/
structure Receives (a b : Lc) : Prop where
  inbox       : a.inbox.length ≤ 4 → b.inbox.length ≤ 4
  counts      : (∀ n ∈ [a.noticeLoss, a.stats.received, a.stats.check, a.stats.length, a.stats.timeout, a.stats.framing,
    a.stats.inboxFull], n ≤ 65535) → ∀ n ∈ [b.noticeLoss, b.stats.received, b.stats.check, b.stats.length, b.stats.timeout,
    b.stats.framing, b.stats.inboxFull], n ≤ 65535
  notices     : b.notices = a.notices
  early       : b.early = a.early
  replySlot   : b.replySlot = a.replySlot
  tx          : b.tx = a.tx
  interpreter : b.interpreter = a.interpreter

theorem Receives.trans {a b c : Lc} (h : Receives a b) (k : Receives b c) : Receives a c where
  inbox := k.inbox ∘ h.inbox
  counts := k.counts ∘ h.counts
  notices := k.notices.trans h.notices
  early := k.early.trans h.early
  replySlot := k.replySlot.trans h.replySlot
  tx := k.tx.trans h.tx
  interpreter := k.interpreter.trans h.interpreter

theorem Receives.linkBounded {s t : State} (h : Receives s.lc t.lc) (rs : t.rs = s.rs) (hs : LinkBounded s) : LinkBounded t := by
  obtain ⟨inbox, notices, tips, advices, early, idle, served, counts⟩ := hs
  refine ⟨h.inbox inbox, h.notices ▸ notices, ?_, ?_, ?_, h.interpreter.trans idle, ?_, h.counts counts⟩
  · rw [noticesOfKind, h.notices]; exact tips
  · rw [noticesOfKind, h.notices]; exact advices
  · rw [h.early, h.notices]; exact early
  · rw [h.tx, h.replySlot, h.notices, h.early, rs]; exact served

theorem Receives.assembling (a : Assembler) (last time : Stamp) (lc : Lc) :
    Receives lc { lc with assembler := a, lastChar := last, time := time } := ⟨id, id, rfl, rfl, rfl, rfl, rfl⟩

theorem huntChar_receives (char : Byte) (lc : Lc) : Receives lc (huntChar char lc) := by
  unfold huntChar
  split_ifs
  · exact .assembling _ lc.time lc.time lc
  · exact .assembling _ lc.lastChar lc.time lc

theorem counted_receives (lc : Lc) (f : LinkStats → LinkStats)
    (h : ∀ l : LinkStats, (∀ n ∈ [l.received, l.check, l.length, l.timeout, l.framing, l.inboxFull], n ≤ 65535) →
      ∀ n ∈ [(f l).received, (f l).check, (f l).length, (f l).timeout, (f l).framing, (f l).inboxFull], n ≤ 65535) :
    Receives lc { lc with stats := f lc.stats } where
  inbox := id
  counts k := List.forall_mem_cons.2 ⟨(List.forall_mem_cons.1 k).1, h lc.stats (List.forall_mem_cons.1 k).2⟩
  notices := rfl
  early := rfl
  replySlot := rfl
  tx := rfl
  interpreter := rfl

theorem offerFrame_receives (f : CommandFrame) (s : State) : Receives s.lc (offerFrame f s).lc := by
  unfold offerFrame
  split_ifs with room
  · exact ⟨fun _ => by simp only [List.length_append, List.length_singleton]; omega, id, rfl, rfl, rfl, rfl, rfl⟩
  · exact counted_receives s.lc (fun l => { l with inboxFull := satAdd max16 l.inboxFull 1 }) fun l k => by
      simp only [List.forall_mem_cons] at k ⊢
      exact ⟨k.1, k.2.1, k.2.2.1, k.2.2.2.1, k.2.2.2.2.1, satAdd_le _, List.forall_mem_nil _⟩

theorem takeHostFrame_receives (bytes : List Byte) (s : State) : Receives s.lc (takeHostFrame bytes s).lc := by
  have hunting : Receives s.lc { s.lc with assembler := .hunting, lastChar := s.lc.time } := .assembling _ s.lc.time s.lc.time s.lc
  unfold takeHostFrame
  simp only []
  split_ifs
  · refine hunting.trans (Receives.trans ?_ (offerFrame_receives _ _))
    exact counted_receives _ (fun l => { l with received := satAdd max16 l.received 1 }) fun l k => by
      simp only [List.forall_mem_cons] at k ⊢
      exact ⟨satAdd_le _, k.2⟩
  · refine hunting.trans (counted_receives _ (fun l => { l with check := satAdd max16 l.check 1 }) fun l k => ?_)
    simp only [List.forall_mem_cons] at k ⊢
    exact ⟨k.1, satAdd_le _, k.2.2⟩

theorem hostCharacter_linkBounded {char : Byte} {s t : State} (hs : LinkBounded s) (e : execHostCharacter char s = .next t) :
    LinkBounded t := by
  unfold execHostCharacter at e
  split at e <;> rcases eq_or_of_whenDue e with rfl | ⟨-, rfl⟩
  · exact hs
  · exact (huntChar_receives char s.lc).linkBounded (s := s) rfl hs
  · exact hs
  · exact (Receives.assembling _ s.lc.time s.lc.time s.lc).linkBounded (s := s) rfl hs

theorem hostFramingError_linkBounded {s t : State} (hs : LinkBounded s) (e : execHostFramingError s = .next t) :
    LinkBounded t := by
  rcases eq_or_of_whenDue e with rfl | ⟨-, rfl⟩
  · exact hs
  · refine Receives.linkBounded (.trans (.assembling .hunting s.lc.lastChar s.lc.time s.lc)
      (counted_receives _ (fun l => { l with framing := satAdd max16 l.framing 1 }) fun l k => ?_)) rfl hs
    simp only [List.forall_mem_cons] at k ⊢
    exact ⟨k.1, k.2.1, k.2.2.1, k.2.2.2.1, satAdd_le _, k.2.2.2.2.2⟩

theorem hostLengthError_linkBounded {char : Byte} {s t : State} (hs : LinkBounded s) (e : execHostLengthError char s = .next t) :
    LinkBounded t := by
  unfold execHostLengthError at e
  split at e
  · cases e; exact hs
  · rcases eq_or_of_whenDue e with rfl | ⟨-, rfl⟩
    · exact hs
    · refine Receives.linkBounded (.trans (.assembling .hunting s.lc.lastChar s.lc.time s.lc)
        (counted_receives _ (fun l => { l with length := satAdd max16 l.length 1 }) fun l k => ?_)) rfl hs
      simp only [List.forall_mem_cons] at k ⊢
      exact ⟨k.1, k.2.1, satAdd_le _, k.2.2.2⟩

theorem hostGapTimeout_linkBounded {char : Byte} {s t : State} (hs : LinkBounded s) (e : execHostGapTimeout char s = .next t) :
    LinkBounded t := by
  unfold execHostGapTimeout at e
  split at e
  · cases e; exact hs
  · rcases eq_or_of_whenDue e with rfl | ⟨-, rfl⟩
    · exact hs
    · refine Receives.linkBounded ((huntChar_receives char s.lc).trans
        (counted_receives _ (fun l => { l with timeout := satAdd max16 l.timeout 1 }) fun l k => ?_)) rfl hs
      simp only [List.forall_mem_cons] at k ⊢
      exact ⟨k.1, k.2.1, k.2.2.1, satAdd_le _, k.2.2.2.2⟩

theorem hostFrameArrival_linkBounded {char : Byte} {s t : State} (hs : LinkBounded s)
    (e : execHostFrameArrival char s = .next t) : LinkBounded t := by
  unfold execHostFrameArrival at e
  split at e
  · cases e; exact hs
  · rcases eq_or_of_whenDue e with rfl | ⟨-, rfl⟩
    · exact hs
    · refine (takeHostFrame_receives _ s).linkBounded ?_ hs
      unfold takeHostFrame offerFrame
      simp only []
      split_ifs <;> rfl

theorem transmitEnd_linkBounded {s t : State} (hs : LinkBounded s) (e : execTransmitEnd s = .next t) : LinkBounded t := by
  rcases eq_or_of_whenDue e with rfl | ⟨-, rfl⟩
  · exact hs
  · obtain ⟨⟨bounded, -⟩, idle⟩ := (linkBounded_iff s).1 hs
    have freed : LcBounded { s.lc with tx := .free } :=
      ⟨bounded.inbox, bounded.notices, bounded.tips, bounded.advices, bounded.early, bounded.counts⟩
    have still : (s.lc.endTransmission (nextNotice s.rs s.lc)).interpreter = s.lc.interpreter :=
      pump_interpreter _ _
    exact (linkBounded_iff _).2 ⟨⟨pump_bounded _ freed, pump_served s.rs freed⟩, still.trans idle⟩

/-! ## The end of a commit (R165) -/

theorem commitRace_linkBounded {s : State} (hs : LinkBounded s) : LinkBounded (commitRace s) := by
  unfold commitRace
  split
  · next f prior waiting =>
    simp only []
    split_ifs
    · have bounded : LcBounded (takeFrame s).lc := takeFrame_bounded ((linkBounded_iff s).1 hs).1.1
      refine placeReply_linkBounded _ ?_
      unfold checkedOwner
      split_ifs
      · exact bounded
      · exact bounded
      · exact bounded
      · exact commitOwner_bounded _ bounded
    · exact hs
  · exact hs

theorem endCommit_linkBounded (r : CommitRecord) (done : Bool) {s : State} (hs : LinkBounded s) :
    LinkBounded (endCommit r done s) := by
  obtain ⟨⟨bounded, -⟩, idle⟩ := (linkBounded_iff s).1 hs
  refine (takeCommitEnd_telling _ _).linkBounded (commitRace_linkBounded ((linkBounded_iff _).2 ⟨queueNotice_linked _ bounded, ?_⟩))
  exact (queueNotice_frame _ _).lc.interpreter.trans idle

theorem endAttempt_linkBounded (written : Bool) (image : Image) {r : CommitRecord} {s : State} (busy : s.rs.state = .committing r)
    (hs : LinkBounded s) : LinkBounded (endAttempt written image r s) := by
  unfold endAttempt
  simp only []
  have read : Telling s { s with rs := { s.rs with image := image } } := .silent rfl ⟨rfl, fun _ => rfl⟩
  have again (r' : CommitRecord) : Telling s { s with rs := { s.rs with image := image, state := .committing r' } } :=
    .silent rfl ⟨rfl, fun _ => by rw [busy]; rfl⟩
  split_ifs
  · exact endCommit_linkBounded r true (read.linkBounded hs)
  · exact (again _).linkBounded hs
  · exact endCommit_linkBounded r false (read.linkBounded hs)

/-! ## The resets and the supply -/

theorem fresh_bounded (rate : LinkRate) (tx : Transmitter) (n : Notice) : LcBounded { Lc.fresh rate tx with notices := [n] } := by
  refine ⟨by simp [Lc.fresh], by simp, ?_, ?_, by simp [Lc.fresh], by simp [Lc.fresh]⟩ <;>
    exact List.countP_le_length.trans (by simp)

theorem resetState_linkBounded (r : Retained) (unanchored : Fin 16 → Bool) {rs : Rs} (rate : LinkRate) (tx : Transmitter)
    (started : Notice) (s : State) (running : rs.restartPending = false) :
    LinkBounded (resetState r unanchored rs rate tx started s) := by
  have fresh := fresh_bounded rate tx started
  have next : nextNotice rs { Lc.fresh rate tx with notices := [started] } = some 0 :=
    nextNotice_running running _
  have served := pump_served rs fresh
  rw [next] at served
  exact (linkBounded_iff _).2 ⟨⟨pump_bounded (some 0) fresh, served⟩, pump_interpreter (some 0) _⟩

theorem unpowered_linkBounded (image : Image) (s : State) : LinkBounded (unpowered image s) := by
  refine ⟨by simp [unpowered, Lc.fresh], by simp [unpowered, Lc.fresh], by simp [unpowered, Lc.fresh, noticesOfKind],
    by simp [unpowered, Lc.fresh, noticesOfKind], by simp [unpowered, Lc.fresh], rfl, fun _ => ⟨rfl, .inl rfl⟩,
    by simp [unpowered, Lc.fresh]⟩

/-! ## Every step -/

theorem exec_linkBounded {c : Instr} {s t : State} (hs : LinkBounded s) (e : exec c s = .next t) : LinkBounded t := by
  cases c with
  | sensorFrameArrival ch char =>
    rcases sensorFrameArrival_cases e with rfl | ⟨bytes, -, -, -, rfl⟩
    · exact hs
    · exact (arriveFrame_telling ch _ s).linkBounded hs
  | sensorCharacter | sensorFramingError | breakDetectorSample | inputReading =>
    rcases eq_or_of_whenDue e with rfl | ⟨-, rfl⟩
    · exact hs
    · exact (Telling.of_eq (s := s) rfl rfl).linkBounded hs
  | breakDetected ch | breakEnd ch | staleTimerExpiry ch | silentTimerExpiry ch =>
    rcases eq_or_of_whenDue e with rfl | ⟨-, rfl⟩
    · exact hs
    · exact (changeChannel_telling ch _ s).linkBounded hs
  | inputLevelChange x =>
    rcases eq_or_of_whenDue e with rfl | ⟨-, rfl⟩
    · exact hs
    · exact (readInputs_telling x s).linkBounded hs
  | alarmCadence =>
    rcases alarmCadence_cases e with rfl | ⟨len, -, rfl⟩
    · exact hs
    · exact (Telling.of_eq (s := s) rfl rfl).linkBounded hs
  | poseCompletion =>
    rcases poseCompletion_cases e with rfl | ⟨c, -, rfl⟩
    · exact hs
    · exact (completePose_telling c s).linkBounded hs
  | calibrationStepEnd =>
    rcases calibrationStepEnd_cases e with rfl | ⟨r, w, -, -, rfl⟩
    · exact hs
    · exact (judgeStep_telling r w s).linkBounded hs
  | idleTimerExpiry =>
    change execIdleTimerExpiry s = _ at e
    unfold execIdleTimerExpiry at e
    rcases eq_or_of_whenDue e with rfl | ⟨-, rfl⟩
    · exact hs
    · exact ((settleAdvice_telling (expireIdle s)).after (s := s) rfl rfl).linkBounded hs
  | shutdownTimerExpiry =>
    rcases shutdownTimerExpiry_cases e with rfl | ⟨start, -, -, rfl⟩
    · exact hs
    · exact ((expireShutdown_telling start s).trans (settleAdvice_telling _)).linkBounded hs
  | commitAttemptEnd written image =>
    rcases commitAttemptEnd_cases e with rfl | ⟨r, busy, rfl⟩
    · exact hs
    · exact endAttempt_linkBounded written image busy hs
  | unknownKind => exact execUnknownKind_linkBounded hs e
  | hostCharacter => exact hostCharacter_linkBounded hs e
  | hostFramingError => exact hostFramingError_linkBounded hs e
  | hostLengthError => exact hostLengthError_linkBounded hs e
  | hostGapTimeout => exact hostGapTimeout_linkBounded hs e
  | hostFrameArrival => exact hostFrameArrival_linkBounded hs e
  | transmitEnd => exact transmitEnd_linkBounded hs e
  | restartTakesEffect =>
    rcases restartTakesEffect_cases e with rfl | ⟨-, -, -, -, rfl⟩
    · exact hs
    · exact resetState_linkBounded _ _ _ _ _ s rfl
  | powerOn high =>
    rcases powerOn_cases e with rfl | ⟨-, rfl⟩
    · exact hs
    · exact resetState_linkBounded _ _ _ _ _ s rfl
  | powerLoss left =>
    rcases powerLoss_cases e with rfl | ⟨-, rfl⟩
    · exact hs
    · exact unpowered_linkBounded _ s
  | _ => exact hostCommand_linkBounded rfl hs e

/-- Settles O17: a notice and a reply keep the queues' bounds and leave nothing waiting that may be sent. -/
theorem stepKeepsLinkBounded : Obligations.StepKeepsLinkBounded := by
  intro s t hs h
  rcases step_cases h with rfl | ⟨c, q, e⟩
  · unfold tick
    split_ifs
    · exact (Receives.assembling s.lc.assembler s.lc.lastChar _ s.lc).linkBounded rfl hs
    · exact hs
  · exact exec_linkBounded (s := s.withPending q) hs e

end Sys2Proof.Machine

/-! PROOFS. The commands of the load recorder and the service reads (R119, R120, R127, R128, R130, R156, R157). -/

namespace Sys2Proof.Machine

/-! ## Notices handed over while a frame is interpreted -/

theorem queueNotices_onlyLc (ns : List Notice) (s : State) : queueNotices ns s = { s with lc := (queueNotices ns s).lc } := by
  induction ns generalizing s with
  | nil => rfl
  | cons n ns ih => exact ih (queueNotice n s)

/-- Notices of the Load Recorder while a frame is interpreted: they are handed over as they would have been before the frame was
taken (R174). -/
theorem told_takeFrame (ns : List Notice) (lr : Lr) (s : State) : told ns lr (takeFrame s) =
    { takeFrame s with lr := lr, lc := taken (queueNotices ns s).lc } := by
  have lc := queueNotices_taken ns (u := takeFrame s) (v := s) rfl (.refl _)
  unfold told
  rw [queueNotices_onlyLc, lc]

/-! ## LOAD CLOSE and LOAD READ (R127, R128, R130) -/

theorem loadRead?_open : loadRead? [0xFF] = some .isOpen := rfl

theorem loadRead?_age {sel : Byte} (h : sel.toNat < 16) : loadRead? [sel] = some (.age ⟨sel.toNat, h⟩) := by
  have byte : u8 [sel] 0 = sel.toNat := rfl
  rw [loadRead?, byte, if_neg (by omega), index?, dif_pos h]
  rfl

/-- A selector of the range names the open load or a closed one (R130). -/
theorem loadRead?_chosen {sel : Byte} (h : sel.toNat < 16 ∨ sel = 0xFF) (lr : Lr) : ∃ x, loadRead? [sel] = some x ∧
    selectLoad lr x = if sel = 0xFF then lr.openLoad else lr.history[sel.toNat]? := by
  by_cases e : sel = 0xFF
  · subst e
    exact ⟨.isOpen, loadRead?_open, (if_pos rfl).symm⟩
  · have small := h.resolve_right e
    exact ⟨_, loadRead?_age small, (if_neg e).symm⟩

theorem loadCloseOwner_open {body : List Byte} {s : State} {l : Load} (h : s.lr.openLoad = some l) :
    loadCloseOwner body (takeFrame s) = ({ takeFrame s with
      lr := { s.lr with openLoad := none, history := (closedAs .closedHost s.lc.time l :: s.lr.history).take 16 }
      lc := taken (queueNotice (.loadEvent .closed (closedAs .closedHost s.lc.time l) s.lc.time) s).lc }, answerDone (be 2 l.number)) := by
  have closed := closeLoad_eq .closedHost (takeFrame s)
  rw [told_takeFrame] at closed
  simp only [closedNotices, withLoadClosed, takeFrame_lr, h] at closed
  rw [loadCloseOwner, show (takeFrame s).lr.openLoad = some l from h]
  exact congrArg (·, _) closed

/-- Settles O47: a closing of the open load, and the record that a selector names. -/
theorem loadCloseAndRead : Obligations.LoadCloseAndRead := by
  intro tag s
  refine ⟨fun allowed => ⟨fun none' => ?_, fun l some' => ?_⟩, fun sel allowed range => ?_⟩
  · have e : loadCloseOwner [] (takeFrame s) = (takeFrame s, answerRefused .state) := by
      rw [loadCloseOwner, show (takeFrame s).lr.openLoad = none from none']
    exact interpret_told (lc := s.lc) allowed rfl e rfl
  · exact interpret_told allowed rfl (loadCloseOwner_open (Option.mem_def.1 some')) rfl
  · obtain ⟨x, read, chosen⟩ := loadRead?_chosen range s.lr
    intro record
    have named : selectLoad (takeFrame s).lr x = record := chosen
    refine ⟨fun none' => ?_, fun l some' => ?_⟩
    · rw [none'] at named
      refine (interpret_fields_eq (lc := s.lc) (u := takeFrame s) (answer := answerRefused .notFound) allowed rfl read ?_ rfl).trans rfl
      simp only [named]
    · rw [Option.mem_def.1 some'] at named
      have presence : packBits [l.reportedFuelPerTonne.isSome, l.closed.isSome] =
          (if l.reportedFuelPerTonne.isSome then 1 else 0) + (if l.closed.isSome then 2 else 0) := by
        cases l.reportedFuelPerTonne.isSome <;> cases l.closed.isSome <;> rfl
      rw [← presence]
      refine (interpret_fields_eq (lc := s.lc) (u := takeFrame s) (answer := answerDone _) allowed rfl read ?_ rfl).trans rfl
      simp only [named]
      rfl

/-! ## TRUCK CLASS SET and LOAD NEXT (R119, R120) -/

theorem op_of_truckClassSet?_write {body : List Byte} {x : Fin 16 × TruckClass} (h : truckClassSet? body = some (.write x)) :
    u8 body 0 = 1 := by
  unfold truckClassSet? at h
  split at h
  · cases h
  · next e => exact e
  · cases h

theorem loadNext?_body (i : Fin 16) (flag : Bool) : loadNext? [BitVec.ofNat 8 i.val, BitVec.ofNat 8 flag.toNat] = some (i, flag) := by
  rw [loadNext?, u8_ofNat_cons (by omega), u8_cons_succ, u8_ofNat_cons (flag_lt flag), index?_val, flag?_toNat]

theorem writeClass_eq (i : Fin 16) (c : TruckClass) (s : State) : writeClass i c s = { s with
    lr := { s.lr with classes := s.lr.classes.set i c }
    rs := if c = s.lr.classes[i] then s.rs else Rs.mark s.rs } :=
  marked_eq c s.lr.classes[i] (onLr (fun lr => { lr with classes := lr.classes.set i c }) s)

section
variable {tag : Byte} {i : Fin 16} {s : State}

theorem loadNext_unused {flag : Bool} (allowed : CommandAllowed 0x25 tag [BitVec.ofNat 8 i.val, BitVec.ofNat 8 flag.toNat] .operator s)
    (unused : s.lr.classes[i].target = 0) : exec (.loadNext tag [BitVec.ofNat 8 i.val, BitVec.ofNat 8 flag.toNat]) s =
      .next { s with lc := answered s.lc (replyFrame 0x25 tag .badField []) } := by
  refine (interpret_fields_eq (lc := s.lc) (u := takeFrame s) (answer := answerRefused .badField) allowed rfl (loadNext?_body i flag) ?_ rfl).trans rfl
  exact if_pos unused

theorem reclass_none (none' : s.lr.openLoad = none) : reclass i s = s := by
  rw [reclass, none']

theorem loadNext_stored {flag : Bool} (allowed : CommandAllowed 0x25 tag [BitVec.ofNat 8 i.val, BitVec.ofNat 8 flag.toNat] .operator s)
    (used : s.lr.classes[i].target ≠ 0) (stays : flag = false ∨ s.lr.openLoad = none) :
    exec (.loadNext tag [BitVec.ofNat 8 i.val, BitVec.ofNat 8 flag.toNat]) s = .next { s with
      lr := { s.lr with nextClass := i }
      lc := answered s.lc (replyFrame 0x25 tag .done (be 1 i.val ++ be 1 0)) } := by
  refine (interpret_fields_eq (lc := s.lc) (u := onLr (fun lr => { lr with nextClass := i }) (takeFrame s))
    (answer := answerDone (be 1 i.val ++ be 1 0)) allowed rfl (loadNext?_body i flag) ?_ rfl).trans rfl
  refine (if_neg used).trans ?_
  rcases stays with rfl | none'
  · rfl
  · have still : reclass i (onLr (fun lr => { lr with nextClass := i }) (takeFrame s)) = _ := reclass_none none'
    have closed : (takeFrame s).lr.openLoad.isSome = false := by rw [takeFrame_lr, none']; rfl
    cases flag
    · rfl
    · simp only [if_true, still, closed]
      rfl

/-- The re-classing of an open load while a frame is interpreted (R120). -/
theorem loadNext_reclasses {l : Load} (allowed : CommandAllowed 0x25 tag [BitVec.ofNat 8 i.val, BitVec.ofNat 8 true.toNat] .operator s)
    (used : s.lr.classes[i].target ≠ 0) {ns : List Notice} {settled : Load}
    (e : ∀ u : State, u.lr.openLoad = some l → u.lr.classes = s.lr.classes → u.lc.time = s.lc.time →
      reclass i u = told ns { u.lr with openLoad := some settled } u) (h : s.lr.openLoad = some l) :
    exec (.loadNext tag [BitVec.ofNat 8 i.val, BitVec.ofNat 8 true.toNat]) s = .next { s with
      lr := { s.lr with nextClass := i, openLoad := some settled }
      lc := answered (queueNotices ns s).lc (replyFrame 0x25 tag .done (be 1 i.val ++ be 1 1)) } := by
  have reclassed := e (onLr (fun lr => { lr with nextClass := i }) (takeFrame s)) h rfl rfl
  have again : told ns { s.lr with nextClass := i, openLoad := some settled } (onLr (fun lr => { lr with nextClass := i }) (takeFrame s)) =
      { takeFrame s with lr := { s.lr with nextClass := i, openLoad := some settled }, lc := taken (queueNotices ns s).lc } := by
    refine Eq.trans ?_ (told_takeFrame ns _ s)
    unfold told onLr
    rw [queueNotices_withLr]
  refine (interpret_fields_eq (u := { takeFrame s with
    lr := { s.lr with nextClass := i, openLoad := some settled }, lc := taken (queueNotices ns s).lc })
    (answer := answerDone (be 1 i.val ++ be 1 1)) allowed rfl (loadNext?_body i true) ?_ rfl).trans rfl
  refine (if_neg used).trans ?_
  have opened : (takeFrame s).lr.openLoad.isSome = true := by rw [takeFrame_lr, h]; rfl
  simp only [if_true, opened]
  exact congrArg (·, _) (reclassed.trans again)

end

/-- Settles O45: the classes by operation, and the next class with the open load settled on its figures. -/
theorem classesAndNextClassStored : Obligations.ClassesAndNextClassStored := by
  refine ⟨fun tag body s allowed => ⟨fun read => ?_, fun i c length read => ⟨fun unset => ?_, fun kept => ?_⟩⟩,
    fun tag i flag s => ?_⟩
  · subst read
    exact interpret_fields (lc := s.lc) (a := ReadWrite.read) allowed rfl rfl rfl
  · have ok := lengthByOp_write (n0 := 1) length (op_of_truckClassSet?_write read)
    refine (interpret_fields_eq (lc := s.lc) (u := takeFrame s) (answer := answerRefused .state) allowed ok read ?_ rfl).trans rfl
    exact if_pos unset
  · have ok := lengthByOp_write (n0 := 1) length (op_of_truckClassSet?_write read)
    have written := writeClass_eq i c (takeFrame s)
    refine (interpret_fields_eq (lc := s.lc) (u := writeClass i c (takeFrame s))
      (answer := answerDone (classesBytes (writeClass i c (takeFrame s)).lr.classes)) allowed ok read ?_ ?_).trans ?_
    · exact if_neg kept
    · rw [written]; rfl
    · rw [written]; rfl
  · intro body allowed
    refine ⟨loadNext_unused allowed, loadNext_stored allowed, ?_⟩
    rintro used rfl l h figured reaches exceeds settled events
    refine loadNext_reclasses allowed used (fun u openLoad classes time => ?_) (Option.mem_def.1 h)
    have reclassed := reclass_eq (i := i) openLoad
    rw [classes, time] at reclassed
    exact reclassed

end Sys2Proof.Machine

/-! PROOFS. The commands of the service table (R150, R154 to R159). -/

namespace Sys2Proof.Machine

/-! ## Reading and acknowledging (R156, R157) -/

theorem be_one (n : Nat) : be 1 n = [BitVec.ofNat 8 n] := by simp [be]

theorem be_one_toNat (b : Byte) : be 1 b.toNat = [b] := by rw [be_one, BitVec.ofNat_toNat, BitVec.setWidth_eq]

theorem serviceRead?_body {first count : Byte} (last : first.toNat ≤ 23) (one : 1 ≤ count.toNat) (six : count.toNat ≤ 6)
    (inside : first.toNat + count.toNat ≤ 24) : serviceRead? [first, count] = some (first.toNat, count.toNat) :=
  if_pos ⟨last, one, six, inside⟩

theorem serviceAck?_body {indexes : List Byte} (one : 1 ≤ indexes.length) (most : indexes.length ≤ 24)
    (inside : ∀ x ∈ indexes, x.toNat < 24) :
    serviceAck? (BitVec.ofNat 8 indexes.length :: indexes) = some (indexes.map BitVec.toNat) := by
  refine if_pos ⟨?_, ?_, ?_⟩
  · simpa using one
  · simpa using most
  · simpa [List.all_eq_true] using inside

theorem serviceAckLength_body {indexes : List Byte} (most : indexes.length ≤ 24) :
    serviceAckLength (BitVec.ofNat 8 indexes.length :: indexes) = true := by
  rw [serviceAckLength, u8_ofNat_cons (by omega)]
  simp [Nat.add_comm]

/-- A list of indexes names an entry where one of its bytes is the index. -/
theorem contains_toNat (indexes : List Byte) (i : Fin 24) :
    (indexes.map BitVec.toNat).contains i.val = indexes.contains (BitVec.ofNat 8 i.val) := by
  rw [Bool.eq_iff_iff, List.contains_iff_mem, List.contains_iff_mem, List.mem_map]
  constructor
  · rintro ⟨x, m, e⟩
    rwa [show x = BitVec.ofNat 8 i.val from BitVec.eq_of_toNat_eq (by rw [e, BitVec.toNat_ofNat]; omega)] at m
  · exact fun m => ⟨_, m, by rw [BitVec.toNat_ofNat]; omega⟩

theorem clearAttention_of_clear {e : Option ServiceEntry} (h : ((e.map fun e => e.item.attention) == some true) = false) :
    e.map ServiceEntry.clearAttention = e := by
  cases e with
  | none => rfl
  | some e =>
    obtain ⟨⟨d, n, a, p⟩, x⟩ := e
    cases a
    · rfl
    · simp at h

/-- The entries once an acknowledgement has cleared its flags (R157). -/
def acknowledged (is : List Nat) (entries : Vector (Option ServiceEntry) 24) : Vector (Option ServiceEntry) 24 :=
  entries.mapFinIdx fun i e h => if ackReaches is ⟨i, h⟩ e then e.map ServiceEntry.clearAttention else e

theorem acknowledged_get (is : List Nat) (entries : Vector (Option ServiceEntry) 24) (i : Fin 24) :
    (acknowledged is entries)[i] = if is.contains i.val then entries[i].map ServiceEntry.clearAttention else entries[i] := by
  have at' : (acknowledged is entries)[i] =
      if ackReaches is i entries[i] then entries[i].map ServiceEntry.clearAttention else entries[i] := by
    simp [acknowledged]
  rw [at', ackReaches]
  by_cases listed : is.contains i.val = true
  · simp only [listed, Bool.true_and, if_true]
    split_ifs with set
    · rfl
    · exact (clearAttention_of_clear (Bool.eq_false_iff.2 set)).symm
  · rw [Bool.eq_false_iff.2 listed]
    rfl

/-- Settles O52: a run of entries read, and the listed flags cleared. -/
theorem serviceReadAndAck : Obligations.ServiceReadAndAck := by
  intro tag s
  refine ⟨fun first count last one six inside allowed => ?_, fun indexes one most inside => ?_⟩
  · have length : (((List.finRange 24).drop first.toNat).take count.toNat).length = count.toNat := by
      rw [List.length_take, List.length_drop, List.length_finRange]; omega
    refine (interpret_fields (lc := s.lc) allowed rfl (serviceRead?_body last one six inside) rfl).trans ?_
    simp only [answerDone, beList, List.length_map, length, be_one_toNat, ← List.append_assoc]
    rfl
  · intro body listed cleared allowed
    have read := serviceAck?_body one most inside
    have count : (List.finRange 24).countP (fun i => ackReaches (indexes.map BitVec.toNat) i s.st.entries[i]) = cleared := by
      simp only [cleared, listed, ackReaches, contains_toNat]
    refine ⟨{ s with
      st := { s.st with entries := acknowledged (indexes.map BitVec.toNat) s.st.entries }
      rs := if cleared = 0 then s.rs else Rs.mark s.rs
      lc := answered s.lc (replyFrame 0x32 tag .done (be 1 cleared)) }, ?_, fun i => ?_, rfl⟩
    · refine (interpret_fields_eq (lc := s.lc) (u := { takeFrame s with
          st := { s.st with entries := acknowledged (indexes.map BitVec.toNat) s.st.entries }
          rs := if cleared = 0 then s.rs else Rs.mark s.rs }) (answer := answerDone (be 1 cleared))
        allowed (serviceAckLength_body most) read ?_ rfl).trans rfl
      simp only [takeFrame_st, count]
      split_ifs <;> rfl
    · have at' := acknowledged_get (indexes.map BitVec.toNat) s.st.entries i
      rw [contains_toNat] at at'
      exact at'

/-! ## The replacing of an entry (R150, R154, R155, R158, R159) -/

/-- The Economy Manager once the cap is settled at `cap` (R145, R146). -/
def emWithCap (cap : Nat) (s : State) : Em :=
  if cap = s.st.reportedCap then s.em
  else { s.em with cap := cap, lastAdvice := Em.advice { s.em with cap := cap } }

/-- The settling of the cap, whole (R154, R145, R146). -/
theorem settleCap_eq (s : State) : settleCap s = { s with
    st := { s.st with reportedCap := lowestCap s.st.entries }
    em := emWithCap (lowestCap s.st.entries) s
    lc := lcWithAdvice (emWithCap (lowestCap s.st.entries) s).lastAdvice s } := by
  unfold settleCap emWithCap
  simp only []
  split_ifs with same
  · rw [lcWithAdvice, if_pos rfl, same]
  · rw [takeCap, settleAdvice_eq]
    rfl

theorem replaceItem_eq (i : Fin 24) (item : Option ServiceItem) (s : State) : replaceItem i item s = { s with
    st := { s.st with entries := s.st.entries.set i (item.map entryOf) }
    rs := if s.st.entries[i].map ServiceEntry.item = item then s.rs else Rs.mark s.rs } :=
  marked_eq (s.st.entries[i].map ServiceEntry.item) item (setEntry i (item.map entryOf) s)

/-- An entry that takes `e` leaves the table, the cap, the store and the advice so (R145, R150, R154). -/
def EntrySettled (i : Fin 24) (e : Option ServiceEntry) (s t : State) : Prop :=
  t.st.entries = s.st.entries.set i e ∧ IsLowestCap t.st.entries t.st.reportedCap ∧
    t.rs = (if s.st.entries[i].map ServiceEntry.item = e.map ServiceEntry.item then s.rs else Rs.mark s.rs) ∧
    (t.st.reportedCap = s.st.reportedCap → t.em = s.em) ∧
    (t.st.reportedCap ≠ s.st.reportedCap → AdviceStands t.em t.em.lastAdvice ∧
      t.em = { s.em with cap := t.st.reportedCap, lastAdvice := t.em.lastAdvice })

theorem item_entryOf (item : Option ServiceItem) : (item.map entryOf).map ServiceEntry.item = item := by
  cases item <;> rfl

/-- An entry is replaced while a frame is interpreted (R145, R150, R154, R174). -/
theorem settleReplaced_settled (i : Fin 24) (item : Option ServiceItem) (s : State) :
    ∃ em st rs, settleCap (replaceItem i item (takeFrame s)) =
        { takeFrame s with em := em, st := st, rs := rs, lc := taken (lcWithAdvice em.lastAdvice s) } ∧
      ∀ lc, EntrySettled i (item.map entryOf) s { s with em := em, st := st, rs := rs, lc := lc } := by
  let entries := s.st.entries.set i (item.map entryOf)
  let u : State := { takeFrame s with
    st := { s.st with entries := entries }
    rs := if s.st.entries[i].map ServiceEntry.item = item then s.rs else Rs.mark s.rs }
  have replaced : replaceItem i item (takeFrame s) = u := replaceItem_eq i item (takeFrame s)
  have queued (a : Advice) : lcWithAdvice a u = taken (lcWithAdvice a s) :=
    lcWithAdvice_taken (u := u) a rfl rfl (.ofMarkedIf ..)
  refine ⟨emWithCap (lowestCap entries) u, { entries := entries, reportedCap := lowestCap entries }, u.rs, ?_, fun lc => ⟨rfl, lowestCap_isLowest _, ?_, fun same => ?_, fun differs => ?_⟩⟩
  · rw [replaced, settleCap_eq, ← queued]
  · rw [item_entryOf]
  · exact if_pos same
  · have changed : emWithCap (lowestCap entries) u = _ := if_neg differs
    rw [changed]
    exact ⟨advice_stands _ _, rfl⟩

/-- A command that replaces an entry: what it leaves, and its reply (R150, R155, R158, R159). -/
theorem interpret_entry {α : Type} {kind tag : Byte} {body : List Byte} {level : Authority} {ok : List Byte → Bool}
    {read : List Byte → Option α} {act : α → State → State × Answer} {a : α} {i : Fin 24} {item : Option ServiceItem}
    {entry : Option ServiceEntry} {fields : List Byte} {s : State} (h : CommandAllowed kind tag body level s)
    (length : ok body = true) (named : read body = some a) (whole : item.map entryOf = entry)
    (e : ∀ v, settleCap (replaceItem i item (takeFrame s)) = v → v.st.entries[i] = entry →
      act a (takeFrame s) = (v, answerDone fields)) :
    ∃ t, interpret kind level ok (withFields read act) tag body s = .next t ∧ t.st.entries = s.st.entries.set i entry ∧
      IsLowestCap t.st.entries t.st.reportedCap ∧
      t.rs = (if s.st.entries[i].map ServiceEntry.item = entry.map ServiceEntry.item then s.rs else Rs.mark s.rs) ∧
      (t.st.reportedCap = s.st.reportedCap → t.em = s.em) ∧
      (t.st.reportedCap ≠ s.st.reportedCap → AdviceStands t.em t.em.lastAdvice ∧
        t.em = { s.em with cap := t.st.reportedCap, lastAdvice := t.em.lastAdvice }) ∧
      t = { s with
        em := t.em
        st := t.st
        rs := t.rs
        lc := answered (lcWithAdvice t.em.lastAdvice s) (replyFrame kind tag .done fields) } := by
  subst whole
  obtain ⟨em, st, rs, settled, kept⟩ := settleReplaced_settled i item s
  obtain ⟨entries, lowest, marked, same, differs⟩ := kept (answered (lcWithAdvice em.lastAdvice s) (replyFrame kind tag .done fields))
  have entry : st.entries[i] = item.map entryOf := by
    rw [show st.entries = _ from entries]
    simp
  exact ⟨_, (interpret_fields_eq h length named (e _ settled entry) rfl).trans rfl, entries, lowest, marked, same, differs, rfl⟩

/-! ## The bodies -/

theorem entryOf_newItem {d : ServiceDef} (valid : serviceDefValid d = true) :
    entryOf (newItem d) = { item := { definition := d, consumed := 0, attention := false, suspended := false }, state := .ok } := by
  simp only [serviceDefValid, decide_eq_true_eq] at valid
  obtain ⟨-, one, -, least, -, -, -, -, passes⟩ := valid
  have large : 100 ≤ d.warn * d.interval * d.basis.factor := by
    have two : 2 ≤ d.interval * d.basis.factor := by
      cases e : d.basis <;> simp only [Basis.factor, e, true_and] at passes ⊢ <;> omega
    calc 100 = 50 * 2 := rfl
      _ ≤ d.warn * (d.interval * d.basis.factor) := Nat.mul_le_mul least two
      _ = d.warn * d.interval * d.basis.factor := (Nat.mul_assoc ..).symm
  have below : 0 < d.warnPoint := Nat.div_pos large (by decide)
  unfold entryOf ServiceItem.evaluate newItem stateByCount
  simp only [below, if_true]
  rfl

theorem serviceItemSet?_valid {body : List Byte} {i : Fin 24} {d : ServiceDef} (h : serviceItemSet? body = some (i, some d)) :
    serviceDefValid d = true ∧ u8 body 0 = 0 := by
  unfold serviceItemSet? at h
  split at h
  · cases h
  · split at h
    · next op =>
      split at h
      · simp only [] at h
        split_ifs at h with valid
        cases h
        exact ⟨valid, op⟩
      · cases h
    · cases h
    · cases h

theorem serviceItemSet?_none (i : Fin 24) : serviceItemSet? [1, BitVec.ofNat 8 i.val] = some (i, none) := by
  rw [serviceItemSet?, u8_cons_succ, u8_ofNat_cons (by omega), index?_val]
  rfl

theorem serviceSuspend?_body (i : Fin 24) (on : Bool) :
    serviceSuspend? [BitVec.ofNat 8 i.val, BitVec.ofNat 8 on.toNat] = some (i, on) := by
  rw [serviceSuspend?, u8_ofNat_cons (by omega), u8_cons_succ, u8_ofNat_cons (flag_lt on), index?_val, flag?_toNat]

theorem index24_body (i : Fin 24) : index? 24 (u8 [BitVec.ofNat 8 i.val] 0) = some i := by
  rw [u8_ofNat_cons (by omega), index?_val]

theorem lengthByOp_zero {n0 n1 : Nat} {body : List Byte} (length : body.length = n0) (some' : 0 < n0) (op : u8 body 0 = 0) :
    lengthByOp n0 n1 body = true := by
  cases body with
  | nil => simp at length; omega
  | cons b rest =>
    have zero : b = 0 := BitVec.eq_of_toNat_eq (by simpa [u8] using op)
    subst zero
    simpa [lengthByOp] using length

theorem entryOf_restored {x : ServiceItem} (warned : 0 < x.definition.warnPoint) :
    entryOf { x with consumed := 0, attention := false } = { item := { x with consumed := 0, attention := false }
                                                             state := if x.suspended then .suspended else .ok } := by
  unfold entryOf ServiceItem.evaluate stateByCount
  simp only [warned, if_true]

/-- Settles O51: each command puts its entry in place, and the cap and the advice follow. -/
theorem serviceCommandsSettleEntry : Obligations.ServiceCommandsSettleEntry := by
  intro tag i s settled
  refine ⟨fun body d allowed length read => ?_, fun allowed => ?_, fun allowed => ⟨fun none' => ?_, fun e some' warned => ?_⟩,
    fun on allowed => ⟨fun none' => ?_, fun e some' => ⟨fun same => ?_, fun differs => ?_⟩⟩⟩
  · obtain ⟨valid, op⟩ := serviceItemSet?_valid read
    refine interpret_entry (item := some (newItem d)) allowed (lengthByOp_zero length (by decide) op) read
      (congrArg some (entryOf_newItem valid)) fun v e set => ?_
    simp only [Option.map_some, e, set, thresholdBytes, List.append_assoc]
    rfl
  · refine interpret_entry (item := none) allowed rfl (serviceItemSet?_none i) rfl fun v e set => ?_
    simp only [Option.map_none, e, set]
    rfl
  · refine (interpret_fields_eq (lc := s.lc) (u := takeFrame s) (answer := answerRefused .state) allowed rfl (index24_body i) ?_ rfl).trans rfl
    simp only [takeFrame_st, none']
  · refine interpret_entry (item := some { e.item with consumed := 0, attention := false }) allowed rfl (index24_body i)
      (congrArg some (entryOf_restored warned)) fun v put set => ?_
    simp only [takeFrame_st, Option.mem_def.1 some', put, set, Option.map_some]
    split_ifs <;> rfl
  · refine (interpret_fields_eq (lc := s.lc) (u := takeFrame s) (answer := answerRefused .state) allowed rfl (serviceSuspend?_body i on) ?_ rfl).trans rfl
    simp only [takeFrame_st, none']
  · refine (interpret_fields_eq (lc := s.lc) (u := takeFrame s) (answer := answerDone _) allowed rfl (serviceSuspend?_body i on) ?_ rfl).trans rfl
    simp only [takeFrame_st, Option.mem_def.1 some', same, if_true]
    rfl
  · refine interpret_entry (item := some { e.item with suspended := on }) allowed rfl (serviceSuspend?_body i on) rfl
      fun v put set => ?_
    simp only [takeFrame_st, Option.mem_def.1 some', differs, if_false, put, set, Option.map_some]
    rfl

end Sys2Proof.Machine

/-! PROOFS. The economy settings and the two timers of the Economy Manager (R137, R139, R142, R143, R145). -/

namespace Sys2Proof.Machine

/-! ## The timers (R139, R142) -/

theorem idleExpired_iff (s : State) : idleExpired s = true ↔ (s.em.mode = .work ∨ s.em.mode = .eco) ∧
    ¬(s.mlu.inputs.seat.level = true ∧ s.em.settings.idleDelay = 0) ∧ ∃ start ∈ s.em.idleTimer,
      (if s.mlu.inputs.seat.level then s.em.settings.idleDelay else s.em.settings.seatDelay) * 1000 ≤ (s.lc.time - start).toNat := by
  have working : EngineMode.isWorking s.em.mode = true ↔ s.em.mode = .work ∨ s.em.mode = .eco := by
    cases s.em.mode <;> simp [EngineMode.isWorking]
  rw [idleExpired, Bool.and_eq_true, working]
  refine and_congr_right fun _ => ?_
  cases s.em.idleTimer with
  | none => simp
  | some start =>
    simp only [Option.mem_some_iff, exists_eq_left']
    cases seat : s.mlu.inputs.seat.level with
    | false =>
      have runs : idleDelayMs s = some (s.em.settings.seatDelay * 1000) := by rw [idleDelayMs, seat]; rfl
      rw [runs]
      exact decide_eq_true_iff.trans ⟨fun h => ⟨fun k => Bool.false_ne_true k.1, h⟩, And.right⟩
    | true =>
      by_cases zero : s.em.settings.idleDelay = 0
      · have never : idleDelayMs s = none := by rw [idleDelayMs, seat, if_pos rfl, if_pos zero]
        rw [never]
        simp [zero]
      · have runs : idleDelayMs s = some (s.em.settings.idleDelay * 1000) := by rw [idleDelayMs, seat, if_pos rfl, if_neg zero]
        rw [runs]
        exact decide_eq_true_iff.trans ⟨fun h => ⟨fun k => zero k.2, h⟩, And.right⟩

theorem shutdownExpired_iff (s : State) (start : Stamp) : shutdownExpired s start = true ↔
    s.em.settings.shutdownDelay ≠ 0 ∧ s.em.settings.shutdownDelay * 1000 ≤ (s.lc.time - start).toNat := by
  rw [shutdownExpired, Bool.and_eq_true, bne_iff_ne, decide_eq_true_eq]
  rfl

theorem shutdownPermitted_iff (s : State) : shutdownPermitted s = true ↔ ∃ c ∈ s.em.copy, c.report.regenActive = false ∧
    s.mlu.inputs.pilotEnable.level = false ∧ ∃ v ∈ c.report.coolant, v ≤ s.em.settings.coolantLimit := by
  unfold shutdownPermitted
  cases s.em.copy with
  | none => simp
  | some c =>
    cases e : c.report.coolant with
    | none => simp [e]
    | some v => simp [e, and_comm, and_left_comm]

/-- The mode AUTO_IDLE entered from WORK or ECO (R139, R142). -/
theorem setMode_autoIdle {now : Stamp} {em : Em} (working : em.mode = .work ∨ em.mode = .eco) : Em.setMode now .autoIdle em =
    { em with
      mode := .autoIdle, idleTimer := none, shutdownTimer := .running now, deferred := false, cancel := false, wait := .none } := by
  obtain ⟨_⟩ := em
  rcases working with e | e <;> (simp only at e; subst e; rfl)

theorem settleAdvice_stands (s : State) : AdviceStands (settleAdvice s).em (settleAdvice s).em.lastAdvice := by
  rw [settleAdvice_eq]; exact advice_stands _ _

/-- Settles O50: an expiry moves the mode or tests the permission, and the advice is settled. -/
theorem economyTimersExpire : Obligations.EconomyTimersExpire := by
  intro start s powered
  refine ⟨fun working timer runs passed => ?_, fun auto running some' passed => ?_⟩
  · have due : idleExpired s = true := (idleExpired_iff s).2 ⟨working, runs, start, timer, passed⟩
    have expired : expireIdle s = { s with em := { s.em with
        mode := .autoIdle, idleTimer := none, shutdownTimer := .running s.lc.time, deferred := false, cancel := false
        wait := .none } } := congrArg (fun em => { s with em := em }) (setMode_autoIdle working)
    refine ⟨settleAdvice (expireIdle s), ?_, settleAdvice_stands _, ?_, ?_⟩
    · change execIdleTimerExpiry s = _
      unfold execIdleTimerExpiry
      rw [whenDue_of_due (by rw [powered, due]; rfl)]
    · rw [settleAdvice_eq, expired]
    · rw [settleAdvice_eq, expired]
      rfl
  · let tested : State := onEm (fun em => { em with shutdownTimer := .expired start }) s
    obtain ⟨t, e, outcome, stands, whole⟩ := testShutdown_tested tested auto (shutdownPermitted_iff tested)
    refine ⟨t, ?_, stands, outcome, whole⟩
    have due : shutdownExpired s start = true := (shutdownExpired_iff s start).2 ⟨some', passed⟩
    change execShutdownTimerExpiry s = _
    unfold execShutdownTimerExpiry
    rw [running]
    exact (whenDue_of_due (by rw [powered, due, auto]; rfl)).trans (congrArg _ e)

/-! ## ECONOMY SET (R137, R139, R142) -/

theorem op_of_economySet?_write {body : List Byte} {x : EconomySettings} (h : economySet? body = some (.write x)) : u8 body 0 = 1 := by
  unfold economySet? at h
  split at h
  · cases h
  · next e => exact e
  · cases h

/-- The state with the economy settings written, before the timers are worked out afresh (R137). -/
def withEconomy (x : EconomySettings) (s : State) : State := { s with
  em := { s.em with settings := x }
  rs := if x = s.em.settings then s.rs else Rs.mark s.rs }

/-- ECO is left where it is not enabled (R137). -/
def leaveEco (s : State) : State :=
  onEm (fun em => if !em.settings.ecoEnable && em.mode == .eco then Em.setMode s.now .work em else em) s

theorem writeEconomy_eq (x : EconomySettings) (s : State) :
    writeEconomy x s = settleAdvice (leaveEco (reworkShutdown (reworkIdle (withEconomy x s)))) := by
  have stored : (if (x != s.em.settings) = true then markRetained (onEm (fun em => { em with settings := x }) s)
      else onEm (fun em => { em with settings := x }) s) = withEconomy x s := marked_eq x s.em.settings (onEm (fun em => { em with settings := x }) s)
  rw [← stored]
  rfl

theorem leaveEco_stays {s : State} (h : ¬(s.em.mode = .eco ∧ s.em.settings.ecoEnable = false)) : leaveEco s = s := by
  have stays : (!s.em.settings.ecoEnable && s.em.mode == .eco) = false := by
    refine Bool.eq_false_iff.2 fun k => h ?_
    rw [Bool.and_eq_true, Bool.not_eq_true', beq_iff_eq] at k
    exact ⟨k.2, k.1⟩
  rw [leaveEco, onEm, stays]
  rfl

/-- The mode WORK entered from ECO (R137, R141). -/
theorem setMode_work {now : Stamp} {em : Em} (eco : em.mode = .eco) : Em.setMode now .work em =
    { em with mode := .work, shutdownTimer := .stopped, deferred := false, cancel := false, wait := .none } := by
  obtain ⟨_⟩ := em
  simp only at eco
  subst eco
  rfl

theorem leaveEco_leaves {s : State} (eco : s.em.mode = .eco) (off : s.em.settings.ecoEnable = false) : leaveEco s = { s with
    em := { s.em with mode := .work, shutdownTimer := .stopped, deferred := false, cancel := false, wait := .none } } := by
  have leaves : (!s.em.settings.ecoEnable && s.em.mode == .eco) = true := by rw [off, eco]; rfl
  rw [leaveEco, onEm, leaves, if_pos rfl, setMode_work eco]

theorem reworkShutdown_stays {s : State} (h : s.em.mode ≠ .autoIdle ∨ s.em.shutdownTimer = .stopped) : reworkShutdown s = s := by
  unfold reworkShutdown
  split
  · next start auto started =>
    rcases h with h | h
    · exact absurd auto h
    · rw [h] at started; cases started
  · rfl

theorem reworkShutdown_runs {s : State} {start : Stamp} (auto : s.em.mode = .autoIdle)
    (started : ShutdownTimer.start? s.em.shutdownTimer = some start) : reworkShutdown s =
      if shutdownExpired s start then expireShutdown start s
      else onEm (fun em => { em with shutdownTimer := .running start, deferred := em.settings.shutdownDelay != 0 && em.deferred }) s := by
  rw [reworkShutdown, auto, started]

/-- `t` is reached from `s` with no notice handed over, the settings and the last advice as they stood. -/
structure Unadvised (s t : State) : Prop where
  lc       : t.lc = s.lc
  advice   : t.em.lastAdvice = s.em.lastAdvice
  settings : t.em.settings = s.em.settings
  rs       : SameRestart t.rs s.rs

theorem Unadvised.refl (s : State) : Unadvised s s := ⟨rfl, rfl, rfl, .refl _⟩

theorem Unadvised.trans {s t u : State} (h : Unadvised s t) (k : Unadvised t u) : Unadvised s u :=
  ⟨k.lc.trans h.lc, k.advice.trans h.advice, k.settings.trans h.settings, k.rs.trans h.rs⟩

theorem setMode_unadvised (m : EngineMode) (s : State) : Unadvised s (onEm (Em.setMode s.now m) s) := by
  refine ⟨rfl, ?_, ?_, .refl _⟩ <;> (simp only [onEm_em, Em.setMode]; split_ifs <;> rfl)

theorem requestCommit_unadvised (s : State) : Unadvised s (requestCommit s) := by
  unfold requestCommit
  split_ifs with h
  · exact .refl s
  · refine ⟨rfl, rfl, rfl, rfl, fun pends => ?_⟩
    rw [Bool.or_eq_true, not_or] at h
    exact absurd pends h.1

theorem onEm_unadvised {f : Em → Em} {s : State} (advice : (f s.em).lastAdvice = s.em.lastAdvice)
    (settings : (f s.em).settings = s.em.settings) : Unadvised s (onEm f s) := ⟨rfl, advice, settings, .refl _⟩

theorem enterPending_unadvised (s : State) : Unadvised s (enterPending s) := by
  have pending := setMode_unadvised .shutdownPending s
  unfold enterPending
  simp only []
  split
  · exact pending.trans (setMode_unadvised .shutdownAdvised _)
  · exact (pending.trans (requestCommit_unadvised _)).trans (onEm_unadvised rfl rfl)
  · exact (pending.trans (requestCommit_unadvised _)).trans (onEm_unadvised rfl rfl)
  · exact pending.trans (onEm_unadvised rfl rfl)

theorem testShutdown_unadvised (s : State) : Unadvised s (testShutdown s) := by
  unfold testShutdown
  split_ifs
  · exact enterPending_unadvised s
  · exact onEm_unadvised rfl rfl

theorem reworkIdle_unadvised (s : State) : Unadvised s (reworkIdle s) := by
  unfold reworkIdle
  split_ifs
  · exact setMode_unadvised .autoIdle s
  · exact .refl s

theorem reworkShutdown_unadvised (s : State) : Unadvised s (reworkShutdown s) := by
  unfold reworkShutdown
  split
  · next start _ _ =>
    split_ifs
    · exact (onEm_unadvised (f := fun em => { em with shutdownTimer := .expired start }) rfl rfl).trans (testShutdown_unadvised _)
    · exact onEm_unadvised rfl rfl
  · exact .refl s

theorem leaveEco_unadvised (s : State) : Unadvised s (leaveEco s) := by
  by_cases h : s.em.mode = .eco ∧ s.em.settings.ecoEnable = false
  · rw [leaveEco_leaves h.1 h.2]
    exact ⟨rfl, rfl, rfl, .refl _⟩
  · rw [leaveEco_stays h]
    exact .refl s

/-- The state a written ECONOMY SET leaves before its advice is settled (R137, R139, R142). -/
def reworked (x : EconomySettings) (s : State) : State := leaveEco (reworkShutdown (reworkIdle (withEconomy x s)))

theorem reworked_unadvised (x : EconomySettings) (s : State) : Unadvised (withEconomy x s) (reworked x s) :=
  ((reworkIdle_unadvised _).trans (reworkShutdown_unadvised _)).trans (leaveEco_unadvised _)

theorem reworked_frame (x : EconomySettings) (s : State) : Frame { em := true, rs := true } (withEconomy x s) (reworked x s) :=
  (((reworkIdle_frame _).mono rfl).trans (reworkShutdown_frame _)).trans ((onEm_frame _ _).mono rfl)

/-- An ECONOMY SET WRITE taken: what it leaves, with the advice settled (R137, R145). -/
theorem economySet_written {tag : Byte} {body : List Byte} {x : EconomySettings} {s : State}
    (allowed : CommandAllowed 0x29 tag body .supervisor s) (length : body.length = 13) (read : economySet? body = some (.write x)) :
    ∃ t, exec (.economySet tag body) s = .next t ∧ AdviceStands t.em t.em.lastAdvice ∧
      t.em = (settleAdvice (reworked x (takeFrame s))).em ∧ t.rs = (reworked x (takeFrame s)).rs ∧
      t = { s with
        em := t.em
        rs := t.rs
        lc := answered (lcWithAdvice t.em.lastAdvice s) (replyFrame 0x29 tag .done (economySettingsBytes x)) } := by
  obtain ⟨lc, advice, settings, same⟩ := reworked_unadvised x (takeFrame s)
  have f := reworked_frame x (takeFrame s)
  generalize hw : reworked x (takeFrame s) = w at *
  have queued : (settleAdvice w).lc = taken (lcWithAdvice (Em.advice w.em) s) := by
    rw [settleAdvice_eq]
    exact lcWithAdvice_taken _ lc advice (same.trans (.ofMarkedIf ..))
  have told := (writeEconomy_eq x (takeFrame s)).trans (congrArg settleAdvice hw)
  have eq : settleAdvice w = { takeFrame s with
      em := { w.em with lastAdvice := Em.advice w.em }, rs := w.rs, lc := taken (lcWithAdvice (Em.advice w.em) s) } := by
    rw [← queued, settleAdvice_eq, State.mk.injEq]
    exact ⟨f.scu rfl, f.mlu rfl, f.ps rfl, f.zt rfl, f.sl rfl, f.ct rfl, f.lr rfl, rfl, f.st rfl, rfl, rfl, f.powered,
      f.choices rfl, f.pending⟩
  refine ⟨{ s with
      em := { w.em with lastAdvice := Em.advice w.em }
      rs := w.rs
      lc := answered (lcWithAdvice (Em.advice w.em) s) (replyFrame 0x29 tag .done (economySettingsBytes x)) }, ?_, advice_stands _ _,
    (settleAdvice_em w).symm, rfl, rfl⟩
  refine (interpret_fields_eq (u := settleAdvice w) (answer := answerDone (economySettingsBytes x)) allowed
    (lengthByOp_write length (op_of_economySet?_write read)) read ?_ queued).trans ?_
  · simp only [told]
    rw [settleAdvice_em, settings]
    rfl
  · rw [eq]
    rfl

section
variable {u : State}

theorem reworkIdle_stays (h : ¬idleExpired u = true) : reworkIdle u = u := if_neg h

theorem shutdownExpired_now {now : Stamp} (h : u.lc.time = now) : ¬shutdownExpired u now = true := by
  subst h
  rw [shutdownExpired_iff, BitVec.sub_self]
  rintro ⟨some', passed⟩
  exact some' (by simpa using passed)

/-- With no timer that has run out, and ECO enabled or no ECO, nothing moves (R137). -/
theorem reworked_stays {x : EconomySettings} {s : State} (idle : ¬idleExpired (withEconomy x s) = true)
    (still : s.em.mode ≠ .autoIdle ∨ s.em.shutdownTimer = .stopped) (eco : ¬(s.em.mode = .eco ∧ x.ecoEnable = false)) :
    reworked x s = withEconomy x s := by
  rw [reworked, reworkIdle_stays idle, reworkShutdown_stays (s := withEconomy x s) still,
    leaveEco_stays (s := withEconomy x s) eco]

theorem reworked_leaves {x : EconomySettings} {s : State} (idle : ¬idleExpired (withEconomy x s) = true)
    (eco : s.em.mode = .eco) (off : x.ecoEnable = false) : reworked x s = { withEconomy x s with
      em := { s.em with settings := x, mode := .work, shutdownTimer := .stopped, deferred := false, cancel := false, wait := .none } } := by
  have still : (withEconomy x s).em.mode ≠ .autoIdle := fun k => by cases eco.symm.trans k
  rw [reworked, reworkIdle_stays idle, reworkShutdown_stays (.inl still),
    leaveEco_leaves (s := withEconomy x s) eco off]
  rfl

/-- An idle timer that has run out takes the mode to AUTO_IDLE, where the shutdown timer has just started (R139, R142). -/
theorem reworked_idles {x : EconomySettings} {s : State} (idle : idleExpired (withEconomy x s) = true)
    (working : s.em.mode = .work ∨ s.em.mode = .eco) : reworked x s = { withEconomy x s with
      em := { s.em with settings := x, mode := .autoIdle, idleTimer := none, shutdownTimer := .running s.lc.time
                        deferred := false, cancel := false, wait := .none } } := by
  have expired : reworkIdle (withEconomy x s) = { withEconomy x s with
      em := { s.em with settings := x, mode := .autoIdle, idleTimer := none, shutdownTimer := .running s.lc.time
                        deferred := false, cancel := false, wait := .none } } :=
    (if_pos idle).trans (congrArg (fun em => { withEconomy x s with em := em }) (setMode_autoIdle (em := (withEconomy x s).em) working))
  rw [reworked, expired]
  generalize hv : { withEconomy x s with
      em := { s.em with settings := x, mode := .autoIdle, idleTimer := none, shutdownTimer := .running s.lc.time
                        deferred := false, cancel := false, wait := .none } } = v
  have fresh : ¬shutdownExpired v s.lc.time = true := shutdownExpired_now (by rw [← hv]; rfl)
  have runs := reworkShutdown_runs (s := v) (start := s.lc.time) (by rw [← hv]) (by rw [← hv]; rfl)
  rw [runs, if_neg fresh, leaveEco_stays (by rw [← hv]; rintro ⟨k, -⟩; cases k), ← hv]
  simp only [onEm, Bool.and_false]

end

theorem settleAdvice_withLast (s : State) : (settleAdvice s).em = { s.em with lastAdvice := (settleAdvice s).em.lastAdvice } := by
  rw [settleAdvice_eq]

theorem not_idleExpired {s : State} (h : s.em.mode ≠ .work ∧ s.em.mode ≠ .eco) : ¬idleExpired s = true := fun k =>
  ((idleExpired_iff s).1 k).1.elim h.1 h.2

theorem ShutdownTested.congr {granted : Prop} {em : Em} {rs : Rs} {t u : State} (h : ShutdownTested granted em rs u) (e : t.em = u.em)
    (r : t.rs = u.rs) (k : retainedOf t = retainedOf u) : ShutdownTested granted em rs t := by
  unfold ShutdownTested at h ⊢
  rw [e, r, k]
  exact h

theorem testShutdown_mode {s : State} (auto : s.em.mode = .autoIdle) : (testShutdown s).em.mode ≠ .eco := by
  obtain ⟨t, e, ⟨refused, granted⟩, -⟩ := testShutdown_tested s auto Iff.rfl
  have mode : (testShutdown s).em.mode = t.em.mode := by rw [← e, settleAdvice_em]
  rw [mode]
  by_cases permitted : shutdownPermitted s = true
  · have moved := granted permitted
    split at moved <;> rw [moved.1] <;> simp
  · rw [(refused permitted).1]
    simp [auto]

/-- Settles O49: a READ answers what stands; a WRITE works the timers out afresh and settles the advice. -/
theorem economySetReadAndWrite : Obligations.EconomySetReadAndWrite := by
  intro tag body s allowed
  refine ⟨fun read => ?_, fun x length read => ?_⟩
  · subst read
    exact interpret_fields (lc := s.lc) (a := ReadWrite.read) allowed rfl rfl rfl
  intro marked passed seated written
  obtain ⟨t, run, stands, settled, rs, whole⟩ := economySet_written allowed length read
  have em := settled.trans (settleAdvice_withLast _)
  rw [← settled] at em
  have expires := idleExpired_iff (withEconomy x (takeFrame s))
  have stays := reworked_stays (x := x) (s := takeFrame s)
  have leaves := reworked_leaves (x := x) (s := takeFrame s)
  have idles := reworked_idles (x := x) (s := takeFrame s)
  refine ⟨t, run, stands, ⟨fun work eco auto => ?_, fun working => ⟨?_, fun out => ?_, fun runs eco off => ?_, fun runs kept => ?_⟩,
    fun auto stopped => ?_, fun start auto started => ⟨fun short => ?_, fun some' past => ?_⟩⟩, whole⟩
  · rw [stays (not_idleExpired ⟨work, eco⟩) (.inl auto) fun k => eco k.1] at em rs
    exact ⟨em, rs⟩
  · by_cases idle : idleExpired (withEconomy x (takeFrame s)) = true
    · rw [idles idle working] at rs
      exact rs
    · by_cases eco : s.em.mode = .eco ∧ x.ecoEnable = false
      · rw [leaves idle eco.1 eco.2] at rs
        exact rs
      · have auto : s.em.mode ≠ .autoIdle := by rcases working with k | k <;> rw [k] <;> simp
        rw [stays idle (.inl auto) eco] at rs
        exact rs
  · rw [idles (expires.2 ⟨working, out⟩) working] at em
    exact em
  · rw [leaves (fun k => runs (expires.1 k).2) eco off] at em
    exact em
  · have auto : s.em.mode ≠ .autoIdle := by rcases working with k | k <;> rw [k] <;> simp
    rw [stays (fun k => runs (expires.1 k).2) (.inl auto) kept] at em
    exact em
  · have still : ¬idleExpired (withEconomy x (takeFrame s)) = true := not_idleExpired (by simp [withEconomy, auto])
    rw [stays still (.inr stopped) fun k => by rw [takeFrame_em, auto] at k; cases k.1] at em rs
    exact ⟨em, rs⟩
  all_goals
    have still : ¬idleExpired (withEconomy x (takeFrame s)) = true := not_idleExpired (by simp [withEconomy, auto])
    have running : ShutdownTimer.start? (withEconomy x (takeFrame s)).em.shutdownTimer = some start := by
      change ShutdownTimer.start? s.em.shutdownTimer = some start
      rcases started with k | k <;> rw [k] <;> rfl
    have moved := reworkShutdown_runs (s := withEconomy x (takeFrame s)) auto running
  · rw [if_neg fun k => short ((shutdownExpired_iff (withEconomy x (takeFrame s)) start).1 k)] at moved
    rw [reworked, reworkIdle_stays still, moved, leaveEco_stays (by rintro ⟨k, -⟩; cases auto.symm.trans k)] at em rs
    refine ⟨rs, em.trans ?_⟩
    have deferred : (x.shutdownDelay != 0 && s.em.deferred) = if x.shutdownDelay = 0 then false else s.em.deferred := by
      by_cases zero : x.shutdownDelay = 0 <;> simp [zero]
    rw [← deferred]
    rfl
  · rw [if_pos ((shutdownExpired_iff (withEconomy x (takeFrame s)) start).2 ⟨some', past⟩)] at moved
    let tested : State := onEm (fun em => { em with shutdownTimer := .expired start }) (withEconomy x (takeFrame s))
    obtain ⟨u, e, outcome, -, frame⟩ := testShutdown_tested tested auto (shutdownPermitted_iff tested)
    have outcome' : reworked x (takeFrame s) = testShutdown tested := by
      rw [reworked, reworkIdle_stays still, moved]
      exact leaveEco_stays fun k => testShutdown_mode (s := tested) auto k.1
    rw [outcome', e] at settled
    rw [outcome'] at rs
    refine ShutdownTested.congr outcome settled ?_ ?_
    · rw [rs, ← e, settleAdvice_eq]
    · rw [whole, frame, ← settled]
      rfl

end Sys2Proof.Machine

/-! PROOFS. The resets and the supply (R23, R25, R28, R31, R34, R54, R55, R73 to R75, R94, R118, R131, R147, R160, R165 to R167,
R177). -/

namespace Sys2Proof.Machine

/-! ## The blocks after a reset -/

section
variable (r : Retained) (unanchored : Fin 16 → Bool) (rs : Rs) (rate : LinkRate) (tx : Transmitter) (started : Notice) (s : State)

theorem resetChannels_get (ch : Fin 6) : (resetChannels r)[ch] = r.channels[ch].freshChannel := by simp [resetChannels]

/-- The health that the statements read off a channel after a reset is the one its settings give (R23). -/
theorem resetHealthOf_eq (ch : Fin 6) : (if (resetChannels r)[ch].settings.enable then Health.acquiring else .off) = resetHealthOf r ch := by
  rw [resetChannels_get]; rfl

theorem resetZones_get (k : Fin 16) : (resetZones r.zones unanchored).zones[k] = resetZone (unanchored k) r.zones[k] := by
  simp [resetZones]

theorem resetZones_unanchored : (resetZones r.zones unanchored).unanchored = unanchoredCount (resetZones r.zones unanchored).zones := by
  simp only [resetZones]

theorem resetService_get (i : Fin 24) : (resetService r).entries[i] = r.items[i].map entryOf := by simp [resetService]

theorem resetMlu_eq (n : Nat) : Mlu.fresh (ztAlarmFor n) = {
    inputs := freshInputs
    nextReading := 2
    authority := .operator
    cutCopy := { left := true, right := true, boomUp := true }
    cutLines := { left := true, right := true, boomUp := true }
    slots := { sl := .off, ps := .off, zt := if n = 0 then .off else .chirp }
    driven := if n = 0 then .off else .chirp
    sounder := decide (0 < n)
    periodStart := 0 } := by
  cases n <;> rfl

/-- The link after a reset: STARTED is sent by a free transmitter, or waits alone behind the notice being sent (R177). -/
theorem resetLink_eq : resetLink rate tx started = { Lc.fresh rate tx with
    notices := if tx = .free then [] else [started]
    tx := if tx = .free then .sending (.notice started) else tx } := by
  cases tx <;> rfl

theorem resetEm_eq (cap : Nat) : Em.fresh r cap = { Em.fresh r cap with
    copy := none, mode := .stopped, idleTimer := none, shutdownTimer := .stopped, deferred := false, cancel := false
    failed := false, wait := .none, fuelAcc := 0, engineMs := 0, weightedAcc := 0, bucketMs := Vector.replicate 8 0
    gaps := 0, cap := cap
    lastAdvice := {
      mode := .stopped, rpm := 0, cap := cap
      reasons := { derate := decide (cap < 100), ecoPhase := false, idleTimer := false, shutdown := false
                   deferred := false, cancel := false, retainedFailed := false } } } := rfl

theorem resetState_blocksReset : BlocksReset (resetState r unanchored rs rate tx started s) := by
  have health := resetHealthOf_eq r
  generalize ht : resetState r unanchored rs rate tx started s = t
  have scu : t.scu = resetChannels r := by rw [← ht]; rfl
  have mlu : t.mlu = .fresh (ztAlarmFor t.zt.unanchored) := by rw [← ht]; rfl
  have ps : t.ps = .fresh r.geometry (Vector.ofFn fun k : Fin 5 => resetHealthOf r k.castSucc) := by rw [← ht]; rfl
  have zt : t.zt = resetZones r.zones unanchored := by rw [← ht]; rfl
  have sl : t.sl = .fresh r.slew r.slewTurns (resetHealthOf r 3) := by rw [← ht]; rfl
  have ct : t.ct = .fresh r.cycle r.fempty r.gain (resetHealthOf r 5) := by rw [← ht]; rfl
  have lr : t.lr = .fresh r.classes r.passTotal r.payloadTotal := by rw [← ht]; rfl
  have st : t.st = resetService r := by rw [← ht]; rfl
  have em : t.em = .fresh r t.st.reportedCap := by rw [← ht]; rfl
  have lc : t.lc = resetLink rate tx started := by rw [← ht]; rfl
  refine ⟨fun ch => ?_, ?_, ?_, fun k => ?_, ?_, ?_, ?_, ?_, fun i e he => ?_, ?_, ?_, ?_, ?_⟩
  · simp only [scu, health]
    rw [resetChannels_get]
    rfl
  · rw [mlu, resetMlu_eq]
    rfl
  · simp only [scu, health]
    rw [ps]
    rfl
  · rw [zt, resetZones_get]
    exact ⟨rfl, rfl⟩
  · rw [zt]
    rfl
  · simp only [scu, health]
    rw [sl]
    rfl
  · simp only [scu, health]
    rw [ct]
    rfl
  · rw [lr]
    rfl
  · rw [st, resetService_get] at he
    obtain ⟨x, -, rfl⟩ := Option.mem_map.1 he
    rfl
  · rw [st]
    exact lowestCap_isLowest _
  · rw [em]
    exact resetEm_eq r _
  · rw [lc, resetLink_eq]
    rfl
  · rw [← ht]
    rfl

end

/-! ## RESTART takes effect (R167, R73, R75) -/

theorem replyOutstanding_eq_false {lc : Lc} (slot : lc.replySlot = none) (idle : ∀ r, lc.tx ≠ .sending (.reply r)) :
    replyOutstanding lc = false := by
  unfold replyOutstanding
  rw [slot]
  split
  · next r e => exact absurd e (idle r)
  · rfl

theorem recordsOf_get (zt : Zt) (k : Fin 16) : (zoneRecordsOf zt)[k] = zt.zones[k].held.map Zone.record := by
  simp [zoneRecordsOf]

/-- An entry after a RESTART: UNANCHORED still, or in the state its flag gives (R73, R75). -/
theorem resetZone_restarted (e : ZoneEntry) : resetZone (ZoneEntry.isUnanchored e) (e.held.map Zone.record) = { held := e.held.map fun z => { z with
    state := match z.state with
      | .unanchored _ => .unanchored (if z.record.armAtStart then .armed else .dormant)
      | _ => if z.record.armAtStart then .armed else .dormant } } := by
  obtain ⟨held, n, m⟩ := e
  cases held with
  | none => rfl
  | some z => obtain ⟨record, _ | _ | _ | p⟩ := z <;> rfl

/-- A zone is UNANCHORED after a RESTART where it was before (R75). -/
theorem restarted_unanchored (e : ZoneEntry) :
    ZoneEntry.isUnanchored (resetZone (ZoneEntry.isUnanchored e) (e.held.map Zone.record)) = ZoneEntry.isUnanchored e := by
  rw [resetZone_restarted]
  obtain ⟨held, n, m⟩ := e
  cases held with
  | none => rfl
  | some z => obtain ⟨record, _ | _ | _ | p⟩ := z <;> cases h : record.armAtStart <;> simp [ZoneEntry.isUnanchored, ZoneEntry.state?, h]

/-- Settles O55: the reset of a RESTART on the retained content as it stands. -/
theorem restartKeepsRetainedContent : Obligations.RestartKeepsRetainedContent := by
  intro s powered pends idle slot noReply started
  have due : (s.powered && Rs.restartDue s.rs && !replyOutstanding s.lc) = true := by
    rw [powered, Rs.restartDue, pends, idle, replyOutstanding_eq_false slot noReply]
    rfl
  have carried : Notice.started .restart (keptResult s.rs.state) s.rs.awaited = started := by
    cases h : s.rs.state <;> simp [started, h, keptResult]
  have lc : (restartReset s).lc = resetLink s.lc.rate s.lc.tx started := by rw [← carried]; rfl
  have zones (k : Fin 16) : (resetZones (retainedOf s).zones fun k => ZoneEntry.isUnanchored s.zt.zones[k]).zones[k] =
      resetZone (ZoneEntry.isUnanchored s.zt.zones[k]) (s.zt.zones[k].held.map Zone.record) := by
    rw [resetZones_get, show (retainedOf s).zones[k] = _ from recordsOf_get s.zt k]
  have count : unanchoredCount (resetZones (retainedOf s).zones fun k => ZoneEntry.isUnanchored s.zt.zones[k]).zones =
      unanchoredCount s.zt.zones := unanchoredCount_congr fun k => by rw [zones, restarted_unanchored]
  refine ⟨restartReset s, whenDue_of_due due, retainedOf_resetState .., resetState_blocksReset .., rfl, fun k => ?_, ?_, ?_, ?_, ?_, rfl, rfl, rfl⟩
  · exact (zones k).trans (resetZone_restarted s.zt.zones[k])
  · rw [show (restartReset s).zt = resetZones (retainedOf s).zones _ from rfl, resetZones_unanchored, count, unanchoredCount]
  · rw [lc, resetLink_eq]; rfl
  · rw [lc, resetLink_eq]
  · rw [lc, resetLink_eq]

/-! ## The supply (R165, R166, R178) -/

theorem imageSound_iff (i : Image) : imageSound i = true ↔ i.layout = .ofThisPart ∧ i.checkAgrees = true := by
  rw [imageSound, Bool.and_eq_true, beq_iff_eq]

theorem snapshotImage_sound (r : Retained) : imageSound (snapshotImage r) = true := rfl

/-- A zone after a power-on: a SITE sector zone is UNANCHORED, every other in the state its flag gives (R74). -/
theorem poweredZone_state (zones : Vector (Option ZoneRecord) 16) (k : Fin 16) {z : Zone}
    (held : z ∈ (resetZone (unanchoredAtPowerOn zones k) zones[k]).held) : z.state =
      if z.record.anchor = .site ∧ z.record.extent ≠ 0 then .unanchored (if z.record.armAtStart then .armed else .dormant)
      else if z.record.armAtStart then .armed else .dormant := by
  obtain ⟨x, named, rfl⟩ := Option.mem_map.1 held
  have sector : unanchoredAtPowerOn zones k = x.isSiteSector := by rw [unanchoredAtPowerOn, Option.mem_def.1 named]
  have iff : x.isSiteSector = true ↔ x.anchor = .site ∧ x.extent ≠ 0 := by
    rw [ZoneRecord.isSiteSector, Bool.and_eq_true, beq_iff_eq, bne_iff_ne]
  simp only [sector, iff]
  rfl

/-- A power-on gives every block its content, and STARTED (R166, R177, R178). -/
theorem powerOn_comesUp (strap : Bool) {s : State} (off : s.powered = false) :
    let sound := s.rs.image.layout = .ofThisPart ∧ s.rs.image.checkAgrees = true
    let started : Notice := .started .powerOn (if sound then .loaded else .retainedLost) none
    let u := powerOn strap s
    exec (.powerOn strap) s = .next u ∧ BlocksReset u ∧
      retainedOf u = (if sound then s.rs.image.content else Retained.default) ∧
      u.rs = { image := s.rs.image, state := if sound then .clean else .dirty, changed := false, restartPending := false
               awaited := none } ∧
      (∀ k : Fin 16, u.zt.zones[k].intrusions = 0 ∧ u.zt.zones[k].cuts = 0 ∧ ∀ z ∈ u.zt.zones[k].held,
        z.state = if z.record.anchor = .site ∧ z.record.extent ≠ 0 then
            .unanchored (if z.record.armAtStart then .armed else .dormant)
          else if z.record.armAtStart then .armed else .dormant) ∧
      u.lc.rate = (if strap then .r460800 else .r115200) ∧ u.lc.notices = [] ∧ u.lc.tx = .sending (.notice started) ∧
      u.choices = s.choices ∧ u.pending = s.pending := by
  intro sound started u
  have due : (!s.powered) = true := by rw [off]; rfl
  have loaded : loadedContent s.rs.image = if sound then s.rs.image.content else Retained.default := by
    simp only [loadedContent, imageSound_iff]
    rfl
  refine ⟨whenDue_of_due due, resetState_blocksReset .., (retainedOf_resetState ..).trans loaded, ?_, fun k => ?_, rfl, rfl, ?_, rfl, rfl⟩
  · rw [show u.rs = ⟨s.rs.image, if imageSound s.rs.image then .clean else .dirty, false, false, none⟩ from rfl]
    simp only [imageSound_iff]
    rfl
  · have entry : u.zt.zones[k] = _ := resetZones_get (loadedContent s.rs.image) (unanchoredAtPowerOn (loadedContent s.rs.image).zones) k
    rw [entry]
    exact ⟨rfl, rfl, fun z held => poweredZone_state _ k held⟩
  · rw [show u.lc.tx = .sending (.notice (.started .powerOn (if imageSound s.rs.image then .loaded else .retainedLost) none)) from rfl]
    simp only [imageSound_iff]
    rfl

/-- Settles O56: the content of a sound image comes back at a power-on, and of any other the defaults. -/
theorem powerCycleKeepsCommittedContent : Obligations.PowerCycleKeepsCommittedContent := by
  intro left strap s comesUp
  refine ⟨fun on => ⟨unpowered (imageAfterLoss s.rs left) s, whenDue_of_due on, rfl, rfl, rfl, rfl, fun clean image => ?_⟩,
    fun off => ⟨_, powerOn_comesUp strap off⟩⟩
  have kept : imageAfterLoss s.rs left = snapshotImage (retainedOf s) := by
    rw [imageAfterLoss, clean, image]; rfl
  have up := powerOn_comesUp strap (s := unpowered (imageAfterLoss s.rs left) s) rfl
  refine ⟨powerOn strap (unpowered (imageAfterLoss s.rs left) s), up, ?_, ?_, ?_⟩
  · rw [kept]
    exact retainedOf_resetState ..
  · rw [kept]; rfl
  · rw [kept, ← image]; rfl

end Sys2Proof.Machine

/-! PROOFS. The end of a commit attempt (R143, R164, R165). -/

namespace Sys2Proof.Machine

theorem attemptSucceeds_iff (written : Bool) (image : Image) (r : CommitRecord) :
    attemptSucceeds written image r = true ↔ written = true ∧ image = snapshotImage r.snapshot := by
  rw [attemptSucceeds, Bool.and_eq_true, decide_eq_true_iff]

/-- The Economy Manager waits for a commit of its own from here, its advice settled (R143, R145). -/
def economyWaits (v : State) : State := settleAdvice (onEm (fun em => { em with wait := .own }) v)

theorem economyWaits_eq (v : State) : economyWaits v = { v with
    em := { v.em with wait := .own, lastAdvice := Em.advice { v.em with wait := .own } }
    lc := lcWithAdvice (Em.advice { v.em with wait := .own }) v } := by
  rw [economyWaits, settleAdvice_eq]
  rfl

theorem takeCommitEnd_prior {failed : Bool} {u : State} (prior : u.em.wait = .prior) :
    takeCommitEnd failed u = economyWaits (requestCommit u) := by
  rw [takeCommitEnd, prior]
  rfl

/-! ## The COMMIT that is ready at the end of a commit (R143) -/

theorem waitingCommit_none {u : State} (h : ¬∃ tag body, CommandReady 0x03 tag body u) : waitingCommit u = none := by
  unfold waitingCommit
  split
  · next f head =>
    refine if_neg fun k => h ⟨f.tag, f.body, ?_⟩
    rw [Bool.and_eq_true] at k
    exact (takeable_iff ..).1 k.1
  · rfl

theorem waitingCommit_some {u : State} {tag : Byte} {body : List Byte} (ready : CommandReady 0x03 tag body u) :
    waitingCommit u = some { kind := 0x03, tag := tag, body := body } := by
  have take := (takeable_iff ..).2 ready
  unfold waitingCommit
  rw [ready.2.2.2.2]
  simp only [take]
  rfl

theorem commitRace_none {u : State} (h : waitingCommit u = none) : commitRace u = u := by
  unfold commitRace
  rw [h]
  split
  · next k => cases k
  · rfl

theorem commitRace_else {u : State} (h : u.em.wait ≠ .prior) : commitRace u = u := by
  unfold commitRace
  split
  · next k _ => exact absurd k h
  · rfl

/-- The host's COMMIT taken: it begins a commit of the host, or its body is no COMMIT's (R163, R172). -/
theorem runCommit_eq {u : State} {tag : Byte} {body : List Byte} (slot : u.lc.replySlot = none)
    (running : u.rs.restartPending = false) (idle : u.rs.state.isCommitting = false) :
    runFrame 0x03 tag body (checkedOwner 0x03 .operator (lengthIs 0) commitOwner) u =
      if body = [] then { u with
        rs := { u.rs with state := .committing { snapshot := retainedOf u, requester := .host, attempt := 1 }, changed := false }
        lc := answered u.lc (replyFrame 0x03 tag .accepted []) }
      else { u with lc := answered u.lc (replyFrame 0x03 tag .badLength []) } := by
  have placed (v : State) (a : Answer) (h : v.lc = (takeFrame u).lc) : placeReply (replyTo 0x03 tag a) v =
      { v with lc := answered u.lc (replyOf 0x03 tag a) } := by
    rw [placeReply_answered _ h slot, replyTo_eq]
    rfl
  cases body with
  | nil =>
    have owner : checkedOwner 0x03 .operator (lengthIs 0) commitOwner [] (takeFrame u) =
        (beginCommit .host (takeFrame u), answerAccepted) := by
      have level : ¬(takeFrame u).mlu.authority.rank < Authority.operator.rank := Nat.not_lt_zero _
      rw [checkedOwner, if_neg (by decide), if_neg (by rw [takeFrame_rs, running]; decide), if_neg level, commitOwner,
        if_neg (by rw [takeFrame_rs, idle]; decide)]
    rw [runFrame, owner]
    exact placed (beginCommit .host (takeFrame u)) answerAccepted rfl
  | cons b rest => exact placed (takeFrame u) (answerRefused .badLength) rfl

/-- Where the host's COMMIT stands ready, either is first (R143, assumption log 14). -/
theorem commitRace_ready {u : State} {tag : Byte} {body : List Byte} (prior : u.em.wait = .prior)
    (ready : CommandReady 0x03 tag body u) (running : u.rs.restartPending = false) (idle : u.rs.state.isCommitting = false) :
    commitRace u = { u with choices := u.choices + 1 } ∨ commitRace u = (if body = [] then { u with
        rs := { u.rs with state := .committing { snapshot := retainedOf u, requester := .host, attempt := 1 }, changed := false }
        lc := answered u.lc (replyFrame 0x03 tag .accepted [])
        choices := u.choices + 1 }
      else { u with lc := answered u.lc (replyFrame 0x03 tag .badLength []), choices := u.choices + 1 }) := by
  unfold commitRace
  rw [waitingCommit_some ready, prior]
  simp only []
  split_ifs with first empty
  · right
    exact (runCommit_eq (u := { u with choices := u.choices + 1 }) ready.2.2.1 running idle).trans (if_pos empty)
  · right
    exact (runCommit_eq (u := { u with choices := u.choices + 1 }) ready.2.2.1 running idle).trans (if_neg empty)
  · exact .inl rfl
  · exact .inl rfl

theorem requestCommit_waits {u : State} (h : u.rs.restartPending = true ∨ u.rs.state.isCommitting = true) : requestCommit u = u :=
  if_pos (Bool.or_eq_true _ _ ▸ h)

theorem requestCommit_begins {u : State} (running : u.rs.restartPending = false) (idle : u.rs.state.isCommitting = false) :
    requestCommit u = { u with
      rs := { u.rs with state := .committing { snapshot := retainedOf u, requester := .economy, attempt := 1 }, changed := false } } :=
  if_neg (by rw [running, idle]; decide)

/-! ## The end of a commit (R165) -/

/-- The store once a commit has ended (R165). -/
def storeEnded (image : Image) (done : Bool) (attempts : Nat) (rs : Rs) : Rs :=
  { rs with
    image := image
    state := stateAfterCommit done rs.changed
    changed := false
    awaited := if rs.restartPending then some { done := done, attempts := attempts } else none }

theorem storeEnded_idle (image : Image) (done : Bool) (attempts : Nat) (rs : Rs) :
    (storeEnded image done attempts rs).state.isCommitting = false := by
  unfold storeEnded stateAfterCommit
  split_ifs <;> rfl

/-- The state once the end of a commit is noticed, before the Economy Manager hears of it (R165). -/
def commitNoticed (image : Image) (done : Bool) (r : CommitRecord) (s : State) : State :=
  queueNotice (.commitResult r.requester done r.attempt (stateAfterCommit done s.rs.changed) s.lc.time)
    { s with rs := storeEnded image done r.attempt s.rs }

theorem endAttempt_again {written : Bool} {image : Image} {r : CommitRecord} (s : State)
    (bad : ¬(written = true ∧ image = snapshotImage r.snapshot)) (early : r.attempt < 3) : endAttempt written image r s = { s with
      rs := { s.rs with image := image, state := .committing { r with attempt := r.attempt + 1 } } } := by
  unfold endAttempt
  simp only [attemptSucceeds_iff, bad, early, if_true, if_false]

theorem endAttempt_ends {written : Bool} {image : Image} {r : CommitRecord} (s : State)
    (ends : (written = true ∧ image = snapshotImage r.snapshot) ∨ 3 ≤ r.attempt) : endAttempt written image r s =
      takeCommitEnd (!decide (written = true ∧ image = snapshotImage r.snapshot))
        (commitRace (commitNoticed image (decide (written = true ∧ image = snapshotImage r.snapshot)) r s)) := by
  unfold endAttempt
  simp only [attemptSucceeds_iff]
  by_cases good : written = true ∧ image = snapshotImage r.snapshot
  · simp only [good]
    rfl
  · have last : ¬r.attempt < 3 := Nat.not_lt.2 (ends.resolve_left good)
    simp only [good, last, if_false]
    rfl

theorem lcWithAdvice_withRs (a : Advice) (s : State) {x y : Rs} (same : SameRestart x y) :
    lcWithAdvice a { s with rs := x } = lcWithAdvice a { s with rs := y } := lcWithAdvice_congr a rfl rfl same

/-- The mode SHUTDOWN_ADVISED entered at the end of the commit that SHUTDOWN_PENDING waits for (R143). -/
theorem setMode_advised {now : Stamp} {em : Em} (pending : em.mode = .shutdownPending) : Em.setMode now .shutdownAdvised em =
    { em with mode := .shutdownAdvised, idleTimer := none, shutdownTimer := .stopped, deferred := false, cancel := false, wait := .none } := by
  obtain ⟨_⟩ := em
  simp only at pending
  subst pending
  rfl

theorem takeCommitEnd_own {failed : Bool} {u : State} (own : u.em.wait = .own) (pending : u.em.mode = .shutdownPending) :
    ∃ a, AdviceStands (takeCommitEnd failed u).em a ∧ takeCommitEnd failed u = { u with
      em := { u.em with
        mode := .shutdownAdvised, idleTimer := none, shutdownTimer := .stopped, deferred := false, cancel := false
        failed := failed, wait := .none, lastAdvice := a }
      lc := lcWithAdvice a u } := by
  have ended : takeCommitEnd failed u = settleAdvice (onEm (fun em => { em with
      mode := .shutdownAdvised, idleTimer := none, shutdownTimer := .stopped, deferred := false, cancel := false
      failed := failed, wait := .none }) u) := by
    rw [takeCommitEnd, own]
    simp only [onEm, setMode_advised pending]
  rw [ended, settleAdvice_eq]
  exact ⟨_, advice_stands _ _, rfl⟩

theorem exec_commitAttemptEnd {r : CommitRecord} {s : State} (written : Bool) (image : Image) (powered : s.powered = true)
    (busy : s.rs.state = .committing r) : exec (.commitAttemptEnd written image) s = .next (endAttempt written image r s) := by
  change execCommitAttemptEnd written image s = _
  unfold execCommitAttemptEnd
  rw [busy]
  exact whenDue_of_due powered

/-- The Economy Manager that waited for a prior commit waits for its own (R143, R145). -/
theorem takeCommitEnd_waits {failed : Bool} {u : State} (prior : u.em.wait = .prior) : (takeCommitEnd failed (commitRace u)).em =
    { u.em with wait := .own, lastAdvice := Em.advice { u.em with wait := .own } } := by
  have same : (commitRace u).em = u.em := (commitRace_touches u).em rfl
  rw [takeCommitEnd_prior (by rw [same]; exact prior), economyWaits_eq, requestCommit_em, same]

/-- Likewise, a commit beginning for it; its advice is handed over as it would be from a state with the same queue (R143, R145). -/
theorem takeCommitEnd_begins {failed : Bool} {u v : State} (prior : u.em.wait = .prior) (running : u.rs.restartPending = false)
    (idle : u.rs.state.isCommitting = false) (lc : u.lc = v.lc) (em : u.em.lastAdvice = v.em.lastAdvice) (rs : u.rs = v.rs) :
    takeCommitEnd failed u = { u with
      em := { u.em with wait := .own, lastAdvice := Em.advice { u.em with wait := .own } }
      rs := { u.rs with state := .committing { snapshot := retainedOf u, requester := .economy, attempt := 1 }, changed := false }
      lc := lcWithAdvice (Em.advice { u.em with wait := .own }) v } := by
  let begun : State := { u with
    rs := { u.rs with state := .committing { snapshot := retainedOf u, requester := .economy, attempt := 1 }, changed := false } }
  have same : SameRestart begun.rs v.rs := by
    rw [← rs]
    exact ⟨rfl, fun pends => absurd pends (by rw [running]; decide)⟩
  have queued := lcWithAdvice_congr (Em.advice { u.em with wait := .own }) (u := begun) lc em same
  rw [takeCommitEnd_prior prior, requestCommit_begins running idle, economyWaits_eq, ← queued]

/-- Likewise, the host's commit standing in flight: the Economy Manager waits for that one (R143, R145). -/
theorem takeCommitEnd_raced {failed : Bool} {u : State} {commit : Rs} {lc : Lc} (prior : u.em.wait = .prior)
    (running : u.rs.restartPending = false) (begun : commit.restartPending = u.rs.restartPending)
    (busy : commit.state.isCommitting = true) :
    takeCommitEnd failed { u with rs := commit, lc := lc, choices := u.choices + 1 } = { u with
      em := { u.em with wait := .own, lastAdvice := Em.advice { u.em with wait := .own } }
      rs := commit
      lc := lcWithAdvice (Em.advice { u.em with wait := .own }) { u with lc := lc }
      choices := u.choices + 1 } := by
  have same : SameRestart commit u.rs := ⟨begun, fun pends => absurd pends (by rw [begun, running]; decide)⟩
  have queued := lcWithAdvice_congr (Em.advice { u.em with wait := .own }) (v := { u with lc := lc })
    (u := { u with rs := commit, lc := lc, choices := u.choices + 1 }) rfl rfl same
  rw [takeCommitEnd_prior (u := { u with rs := commit, lc := lc, choices := u.choices + 1 }) prior,
    requestCommit_waits (u := { u with rs := commit, lc := lc, choices := u.choices + 1 }) (.inr busy), economyWaits_eq, ← queued]

/-- Settles O54: the store by the outcome, and the Economy Manager by what it waits for. -/
theorem commitAttemptEnds : Obligations.CommitAttemptEnds := by
  intro r written image s powered busy good ended store
  have run := exec_commitAttemptEnd written image powered busy
  refine ⟨fun bad early => run.trans (congrArg _ (endAttempt_again s bad early)), fun ends => ?_⟩
  have state : stateAfterCommit (decide good) s.rs.changed = ended := by
    unfold stateAfterCommit
    by_cases h : good <;> simp [ended, h]
  have stored : storeEnded image (decide good) r.attempt s.rs = store := by
    unfold storeEnded
    rw [state]
  have noticed : commitNoticed image (decide good) r s =
      queueNotice (.commitResult r.requester (decide good) r.attempt ended s.lc.time) { s with rs := store } := by
    unfold commitNoticed
    rw [state, stored]
  have idle : store.state.isCommitting = false := stored ▸ storeEnded_idle ..
  rw [endAttempt_ends s ends, noticed] at run
  intro u commit hostFirst
  refine ⟨fun none' => ?_, fun own pending => ?_, fun prior => ?_⟩
  · rw [run, commitRace_else (by rw [show u.em.wait = .none from none']; simp), takeCommitEnd, show u.em.wait = .none from none']
  · rw [commitRace_else (by rw [show u.em.wait = .own from own]; simp)] at run
    obtain ⟨a, stands, e⟩ := takeCommitEnd_own (failed := !decide good) (u := u) own pending
    refine ⟨_, run, ?_, ?_, ?_⟩
    · rw [e] at stands ⊢
      exact stands
    · rw [e]
      rfl
    · rw [e]
      rfl
  · have priorU : u.em.wait = .prior := prior
    have waits := takeCommitEnd_waits (failed := !decide good) (u := u) prior
    obtain ⟨t, ht⟩ : ∃ t, takeCommitEnd (!decide good) (commitRace u) = t := ⟨_, rfl⟩
    rw [ht] at waits
    have whole := run.trans (congrArg _ ht)
    refine ⟨t, whole, ?_, ?_, fun pends => ?_, fun running none' => ?_, fun tag body running ready => ?_⟩
    · rw [waits]
      exact advice_stands _ _
    · rw [waits]
      rfl
    · have unready : ¬∃ tag body, CommandReady 0x03 tag body u := fun ⟨_, _, ready⟩ => by
        have busy := ready.2.2.2.1 pends
        rw [show u.rs.state.isCommitting = false from idle] at busy
        cases busy
      rw [← ht, commitRace_none (waitingCommit_none unready), takeCommitEnd_prior priorU, requestCommit_waits (u := u) (.inl pends),
        economyWaits_eq]
      rfl
    · rw [← ht, commitRace_none (waitingCommit_none none'), takeCommitEnd_begins (u := u) (v := u) prior running idle rfl rfl rfl]
      rfl
    · intro either
      have advised (rs : Rs) (lc : Lc) : either rs lc = { u with
          em := { u.em with wait := .own, lastAdvice := Em.advice { u.em with wait := .own } }
          rs := rs
          lc := lcWithAdvice (Em.advice { u.em with wait := .own }) { u with lc := lc }
          choices := u.choices + 1 } := by
        simp only [either, waits]
        rfl
      simp only [advised]
      rcases commitRace_ready (u := u) prior ready running idle with race | race
      · left
        rw [← ht, race, takeCommitEnd_begins (u := { u with choices := u.choices + 1 }) (v := { u with lc := u.lc }) prior running idle
          rfl rfl rfl]
        rfl
      · right
        by_cases empty : body = []
        · rw [if_pos empty] at race
          exact .inl ⟨empty, ht.symm.trans <| (congrArg _ race).trans (takeCommitEnd_raced (u := u) (commit := commit .host) prior running rfl rfl)⟩
        · rw [if_neg empty] at race
          refine .inr ⟨empty, ?_⟩
          rw [← ht, race, takeCommitEnd_begins (u := { u with
            lc := answered u.lc (replyFrame 0x03 tag .badLength []), choices := u.choices + 1 })
            (v := { u with lc := hostFirst tag .badLength }) prior running idle rfl rfl rfl]
          rfl

end Sys2Proof.Machine

/-! PROOFS. The common checks of the interpreter and the fields of the host commands (R172, R173, R180). -/

namespace Sys2Proof.Machine

/-! ## The codes -/

theorem index?_some {k n : Nat} {i : Fin k} (h : index? k n = some i) : i.val = n := by
  unfold index? at h
  split_ifs at h
  cases h
  rfl

theorem flag?_some {n : Nat} {f : Bool} (h : flag? n = some f) : n = f.toNat := by
  unfold flag? at h
  split at h <;> cases h <;> rfl

theorem flag?_le {n : Nat} {f : Bool} (h : flag? n = some f) : n ≤ 1 := by
  rw [flag?_some h]
  cases f <;> decide

theorem statusMode?_le {n : Nat} {m : StatusMode} (h : statusMode? n = some m) : n ≤ 1 := by
  unfold statusMode? at h
  split at h
  · decide
  · decide
  · cases h

theorem anchor?_le {n : Nat} {a : Anchor} (h : anchor? n = some a) : n ≤ 1 := by
  unfold anchor? at h
  split at h
  · decide
  · decide
  · cases h

theorem suspendLevel?_le {n : Nat} {l : SuspendLevel} (h : suspendLevel? n = some l) : n ≤ 3 := by
  unfold suspendLevel? at h
  split at h
  · decide
  · decide
  · decide
  · decide
  · cases h

theorem zoneKind?_le {n : Nat} {k : ZoneKind} (h : zoneKind? n = some k) : n ≤ 4 := by
  unfold zoneKind? at h
  split at h
  · decide
  · decide
  · decide
  · decide
  · cases h

theorem severity?_le {n : Nat} {x : Severity} (h : severity? n = some x) : n ≤ 1 := by
  unfold severity? at h
  split at h
  · decide
  · decide
  · cases h

/-- A basis code is one of six, PASSES the fifth (R155). -/
theorem basis?_some {n : Nat} {x : Basis} (h : basis? n = some x) : n ≤ 5 ∧ (n = 4 → x = .passes) := by
  unfold basis? at h
  split at h <;> cases h <;> decide

/-! ## A body that is read has its fields in range -/

/-- A reader accepts no body with a field out of its range. -/
def ReadsInRange {α : Type} (kind : Byte) (read : List Byte → Option α) : Prop :=
  ∀ b a, lengthOfKind kind b = true → read b = some a → fieldsInRange kind b = true

theorem ReadsInRange.refuses {α : Type} {kind : Byte} {read : List Byte → Option α} {act : α → State → State × Answer}
    {body : List Byte} (h : ReadsInRange kind read) {owner : Owner} (reads : owner = withFields read act)
    (length : lengthOfKind kind body = true) (out : fieldsInRange kind body = false) (s : State) :
    owner body s = (s, answerRefused .badField) := by
  rw [reads]
  unfold withFields
  split
  · rfl
  · next a some' => rw [h body a length some'] at out; cases out

theorem channelSet?_inRange : ReadsInRange 0x08 channelSet? := by
  intro b a _ h
  unfold channelSet? at h
  split at h
  · next ch en mode hch hen hmode =>
    split_ifs at h with valid
    have channel := index?_some hch
    have enable := flag?_le hen
    have status := statusMode?_le hmode
    exact decide_eq_true (by omega)
  · cases h

theorem channelStatus?_inRange : ReadsInRange 0x09 channelStatus? := by
  intro b a _ h
  unfold channelStatus? at h
  split at h
  · next ch clear hch hclear =>
    have channel := index?_some hch
    have flag := flag?_le hclear
    exact decide_eq_true (by omega)
  · cases h

theorem index_inRange {k : Nat} {b : List Byte} {i : Fin k} (h : index? k (u8 b 0) = some i) : u8 b 0 < k := by
  rw [← index?_some h]; exact i.isLt

theorem channelRestart?_inRange : ReadsInRange 0x0A fun b => index? 6 (u8 b 0) := fun _ _ _ h =>
  decide_eq_true (Nat.le_of_lt_succ (index_inRange h))

theorem geometrySet?_inRange : ReadsInRange 0x10 geometrySet? := by
  intro b a _ h
  unfold geometrySet? at h
  split_ifs at h with valid
  have ranges := of_decide_eq_true valid
  simp only [geometryOf, reachSum] at ranges
  exact decide_eq_true (by omega)

theorem gradeSet?_inRange : ReadsInRange 0x12 gradeSet? := by
  intro b a _ h
  unfold gradeSet? at h
  split at h
  · next on hon =>
    simp only [] at h
    split_ifs at h with valid
    have mode := flag?_some hon
    refine decide_eq_true ?_
    cases on
    · exact .inl mode
    · have ranges := valid.resolve_left (by decide)
      exact .inr ⟨mode, by omega⟩
  · cases h

theorem zoneWrite?_inRange : ReadsInRange 0x18 zoneWrite? := by
  intro b a length h
  unfold zoneWrite? at h
  split at h
  · cases h
  · next i hi =>
    have index := index?_some hi
    split_ifs at h with empty
    · exact decide_eq_true ⟨by omega, .inl empty⟩
    · split at h
      · next k a l hk ha hl =>
        simp only [] at h
        split_ifs at h with valid
        simp only [zoneValid, zoneRecordOf, Bool.and_eq_true, decide_eq_true_eq, List.all_eq_true, labelChar, List.length_drop] at valid
        have counted : b.length = 22 + u8 b 21 := beq_iff_eq.1 (Bool.and_eq_true _ _ ▸ length : _ ∧ _).2
        obtain ⟨ranges, label⟩ := valid
        have kind := zoneKind?_le hk
        have anchor := anchor?_le ha
        have level := suspendLevel?_le hl
        refine decide_eq_true ⟨by omega, .inr ⟨kind, anchor, ?_⟩⟩
        obtain ⟨-, r, rm, h, hh, hm, -, am, hmm, lab⟩ := ranges
        exact ⟨by omega, by omega, h, hh, hm, am, hmm, level, by omega, label⟩
      · cases h

theorem zoneIndex?_inRange {kind : Byte} (h : fieldsInRange kind = fun b => decide (u8 b 0 ≤ 15)) : ReadsInRange kind zoneIndex? := by
  intro b a _ read
  rw [h]
  exact decide_eq_true (Nat.le_of_lt_succ (index_inRange read))

theorem zoneRead?_inRange : ReadsInRange 0x1A zoneRead? := by
  intro b a _ h
  unfold zoneRead? at h
  split at h
  · next k clear hk hclear =>
    have index := index?_some hk
    have flag := flag?_le hclear
    exact decide_eq_true (by omega)
  · cases h

theorem slewSettings?_inRange : ReadsInRange 0x1E slewSettings? := by
  intro b a _ h
  unfold slewSettings? at h
  simp only [] at h
  split_ifs at h with valid
  simp only [slewSettingsValid, decide_eq_true_eq] at valid
  exact decide_eq_true (by omega)

theorem cycleSettings?_inRange : ReadsInRange 0x20 cycleSettings? := by
  intro b a _ h
  unfold cycleSettings? at h
  split at h
  · next read => exact decide_eq_true (.inl read)
  · next write =>
    split at h
    · next stop hstop =>
      simp only [] at h
      split_ifs at h with valid
      simp only [cycleSettingsValid, decide_eq_true_eq] at valid
      have flag := flag?_le hstop
      exact decide_eq_true (.inr (by omega))
    · cases h
  · cases h

theorem calibrateEmpty?_inRange : ReadsInRange 0x21 calibrateEmpty? := by
  intro b a _ h
  unfold calibrateEmpty? at h
  split_ifs at h with empty
  exact decide_eq_true fun zero => empty (BitVec.eq_of_toNat_eq zero)

theorem calibrateGain?_inRange : ReadsInRange 0x22 calibrateGain? := by
  intro b a _ h
  unfold calibrateGain? at h
  split_ifs at h with valid
  exact decide_eq_true valid

theorem truckClassSet?_inRange : ReadsInRange 0x24 truckClassSet? := by
  intro b a _ h
  unfold truckClassSet? at h
  split at h
  · next read => exact decide_eq_true (.inl read)
  · next write =>
    split at h
    · next i hi =>
      simp only [] at h
      split_ifs at h with valid
      simp only [classValid, decide_eq_true_eq] at valid
      obtain ⟨target, most, below, first⟩ := valid
      have index := index?_some hi
      refine decide_eq_true (.inr ⟨write, by omega, target, most, below, fun unused zero => first ⟨unused, ?_⟩⟩)
      exact Fin.ext (by rw [index, zero]; rfl)
    · cases h
  · cases h

theorem loadNext?_inRange : ReadsInRange 0x25 loadNext? := by
  intro b a _ h
  unfold loadNext? at h
  split at h
  · next i f hi hf =>
    have index := index?_some hi
    have flag := flag?_le hf
    exact decide_eq_true (by omega)
  · cases h

theorem loadRead?_inRange : ReadsInRange 0x27 loadRead? := by
  intro b a _ h
  unfold loadRead? at h
  split_ifs at h with opened
  · exact decide_eq_true (.inr opened)
  · obtain ⟨i, hi, -⟩ := Option.map_eq_some_iff.1 h
    exact decide_eq_true (.inl (Nat.le_of_lt_succ (index_inRange hi)))

theorem economySet?_inRange : ReadsInRange 0x29 economySet? := by
  intro b a _ h
  unfold economySet? at h
  split at h
  · next read => exact decide_eq_true (.inl read)
  · next write =>
    split at h
    · next eco heco =>
      simp only [] at h
      split_ifs at h with valid
      simp only [economySettingsValid, decide_eq_true_eq] at valid
      have flag := flag?_le heco
      exact decide_eq_true (.inr (by omega))
    · cases h
  · cases h

theorem countersRead?_inRange : ReadsInRange 0x2A fun b => flag? (u8 b 0) := fun _ _ _ h => decide_eq_true (flag?_le h)

theorem serviceItemSet?_inRange : ReadsInRange 0x30 serviceItemSet? := by
  intro b a _ h
  unfold serviceItemSet? at h
  split at h
  · cases h
  · next i hi =>
    have index := index?_some hi
    split at h
    · next write =>
      split at h
      · next basis severity hb hs =>
        simp only [] at h
        split_ifs at h with valid
        simp only [serviceDefValid, decide_eq_true_eq] at valid
        obtain ⟨-, least, most, warn, warned, grace, cap, capped, passes⟩ := valid
        obtain ⟨code, fifth⟩ := basis?_some hb
        have level := severity?_le hs
        exact decide_eq_true ⟨by omega, .inr ⟨write, code, least, most, warn, warned, grace, level, cap, capped,
          fun ⟨five, one⟩ => passes ⟨fifth five, one⟩⟩⟩
      · cases h
    · next clear => exact decide_eq_true ⟨by omega, .inl clear⟩
    · cases h

theorem serviceRead?_inRange : ReadsInRange 0x31 serviceRead? := by
  intro b a _ h
  unfold serviceRead? at h
  split_ifs at h with valid
  exact decide_eq_true valid

theorem serviceAck?_inRange : ReadsInRange 0x32 serviceAck? := by
  intro b a length h
  unfold serviceAck? at h
  simp only [] at h
  split_ifs at h with valid
  simp only [List.length_map, List.length_drop, List.all_eq_true, List.forall_mem_map, decide_eq_true_eq] at valid
  have counted : b.length = 1 + u8 b 0 := beq_iff_eq.1 (Bool.and_eq_true _ _ ▸ length : _ ∧ _).2
  obtain ⟨one, most, inside⟩ := valid
  exact decide_eq_true ⟨by omega, by omega, fun x m => Nat.le_of_lt_succ (inside x m)⟩

theorem serviceDone?_inRange : ReadsInRange 0x33 fun b => index? 24 (u8 b 0) := fun _ _ _ h =>
  decide_eq_true (Nat.le_of_lt_succ (index_inRange h))

theorem serviceSuspend?_inRange : ReadsInRange 0x34 serviceSuspend? := by
  intro b a _ h
  unfold serviceSuspend? at h
  split at h
  · next i on hi hon =>
    have index := index?_some hi
    have flag := flag?_le hon
    exact decide_eq_true (by omega)
  · cases h

/-! ## The checks in their order (R172) -/

/-- A body with a field out of its range is refused by the command's owner, whatever the state (R173). -/
theorem owner_refuses {c : Instr} {f : CommandFrame} (named : hostFrameOf c = some f) (length : lengthOfKind f.kind f.body = true)
    (out : fieldsInRange f.kind f.body = false) (s : State) : ownerOfKind f.kind f.body s = (s, answerRefused .badField) := by
  cases c <;> simp only [hostFrameOf, reduceCtorEq, Option.some.injEq] at named <;> subst named
  case getStatus | restart | commit | geometryGet | tipSubscribe | reanchor | calibrateCancel | loadClose | engineReport => cases out
  case channelSet => exact channelSet?_inRange.refuses (owner := channelSetOwner) rfl length out s
  case channelStatus => exact channelStatus?_inRange.refuses (owner := channelStatusOwner) rfl length out s
  case channelRestart => exact channelRestart?_inRange.refuses (owner := channelRestartOwner) rfl length out s
  case geometrySet => exact geometrySet?_inRange.refuses (owner := geometrySetOwner) rfl length out s
  case gradeSet => exact gradeSet?_inRange.refuses (owner := gradeSetOwner) rfl length out s
  case zoneWrite => exact zoneWrite?_inRange.refuses (owner := zoneWriteOwner) rfl length out s
  case zoneClear => exact (zoneIndex?_inRange (kind := 0x19) rfl).refuses (owner := zoneClearOwner) rfl length out s
  case zoneRead => exact zoneRead?_inRange.refuses (owner := zoneReadOwner) rfl length out s
  case zoneSuspend => exact (zoneIndex?_inRange (kind := 0x1B) rfl).refuses (owner := zoneSuspendOwner) rfl length out s
  case zoneResume => exact (zoneIndex?_inRange (kind := 0x1C) rfl).refuses (owner := zoneResumeOwner) rfl length out s
  case slewSettings => exact slewSettings?_inRange.refuses (owner := slewSettingsOwner) rfl length out s
  case cycleSettings => exact cycleSettings?_inRange.refuses (owner := cycleSettingsOwner) rfl length out s
  case calibrateEmpty => exact calibrateEmpty?_inRange.refuses (owner := calibrateEmptyOwner) rfl length out s
  case calibrateGain => exact calibrateGain?_inRange.refuses (owner := calibrateGainOwner) rfl length out s
  case truckClassSet => exact truckClassSet?_inRange.refuses (owner := truckClassOwner) rfl length out s
  case loadNext => exact loadNext?_inRange.refuses (owner := loadNextOwner) rfl length out s
  case loadRead => exact loadRead?_inRange.refuses (owner := loadReadOwner) rfl length out s
  case economySet => exact economySet?_inRange.refuses (owner := economyOwner) rfl length out s
  case countersRead => exact countersRead?_inRange.refuses (owner := countersOwner) rfl length out s
  case serviceItemSet => exact serviceItemSet?_inRange.refuses (owner := serviceItemOwner) rfl length out s
  case serviceRead => exact serviceRead?_inRange.refuses (owner := serviceReadOwner) rfl length out s
  case serviceAck => exact serviceAck?_inRange.refuses (owner := serviceAckOwner) rfl length out s
  case serviceDone => exact serviceDone?_inRange.refuses (owner := serviceDoneOwner) rfl length out s
  case serviceSuspend => exact serviceSuspend?_inRange.refuses (owner := serviceSuspendOwner) rfl length out s

/-- A refused command changes nothing but the frame's place and the reply (R172, R173). -/
theorem interpret_refused {kind tag : Byte} {body : List Byte} {level : Authority} {ok : List Byte → Bool} {owner : Owner}
    {s : State} {st : Status} (ready : CommandReady kind tag body s)
    (e : checkedOwner kind level ok owner body (takeFrame s) = (takeFrame s, answerRefused st)) :
    interpret kind level ok owner tag body s = .next { s with lc := answered s.lc (replyFrame kind tag st []) } := by
  rw [interpret_ready ready, runFrame, e, placeReply_answered _ rfl ready.2.2.1, replyTo_eq, answerRefused, ite_self]
  rfl

/-- Settles O5: the checks in their order, and then the owner's reading of the fields. -/
theorem commonChecksComeFirst : Obligations.CommonChecksComeFirst := by
  intro c f s named ready
  rw [exec_hostCommand named]
  refine ⟨fun length => interpret_refused ready ?_, fun length pends other => interpret_refused ready ?_,
    fun length running low => interpret_refused ready ?_, fun length running level out => interpret_refused ready ?_⟩
  · exact if_pos (by rw [length]; rfl)
  · have busy : ((takeFrame s).rs.restartPending && f.kind != getStatusKind) = true := by
      rw [takeFrame_rs, pends, Bool.true_and, bne_iff_ne]
      exact other
    rw [checkedOwner, length, busy]
    rfl
  all_goals
    have free : ((takeFrame s).rs.restartPending && f.kind != getStatusKind) = false := by rw [takeFrame_rs, running, Bool.false_and]
    rw [checkedOwner, length, free]
  · exact if_pos low
  · exact (if_neg (Nat.not_lt.2 level)).trans (owner_refuses named length out _)

end Sys2Proof.Machine

/-! PROOFS. What notices handed over leave in the part (R174, R175), and what a free order of actions of several entries hands over. -/

namespace Sys2Proof.Machine

/-! ## Notices in the part -/

/-- Of two states of the Link Controller, the later has the notices `ns` handed over besides: each is in the part, given room for
all of them or for those as far as it, no other came, and of a kind that is not among them no more wait. -/
structure Handed (ns : List Notice) (a b : Lc) : Prop where
  room : ∀ ms, ms <+: ns → ∀ n ∈ ms, n.replacesItsKind = false → a.notices.length + ms.length ≤ 32 → noticeHanded n b
  only : ∀ n, noticeHanded n b → noticeHanded n a ∨ n ∈ ns
  kind : ∀ kind, (∀ n ∈ ns, noticeKind n ≠ kind) → noticesOfKind kind b ≤ noticesOfKind kind a

/-- Of a kind that is not among the notices none is handed over. -/
theorem Handed.noneOfKind {ns : List Notice} {a b : Lc} {kind : Nat} (h : Handed ns a b) (out : ∀ n ∈ ns, noticeKind n ≠ kind) :
    NoneHanded kind a b :=
  ⟨fun n is handed => (h.only n handed).resolve_right fun m => out n m is, h.kind kind out⟩

theorem Handed.refl (a : Lc) : Handed [] a a := ⟨fun _ h _ m => absurd (List.prefix_nil.1 h ▸ m) List.not_mem_nil, fun _ => .inl, fun _ _ => le_rfl⟩

theorem enqueue_length (n : Notice) (lc : Lc) : (lc.enqueue n).notices.length ≤ lc.notices.length + 1 := by
  unfold Lc.enqueue
  split_ifs <;> simp

theorem pump_length (next : Option Nat) (lc : Lc) : (lc.pump next).notices.length ≤ lc.notices.length := by
  unfold Lc.pump
  split
  · exact le_rfl
  · split
    · exact le_rfl
    · split
      · exact le_rfl
      · split
        · exact le_rfl
        · exact (List.eraseIdx_sublist _ _).length_le

theorem queueNotice_length (n : Notice) (s : State) : (queueNotice n s).lc.notices.length ≤ s.lc.notices.length + 1 :=
  (pump_length _ _).trans (enqueue_length n s.lc)

theorem enqueue_only {n m : Notice} {lc : Lc} (h : noticeHanded m (lc.enqueue n)) : noticeHanded m lc ∨ m = n := by
  unfold Lc.enqueue at h
  split_ifs at h
  · refine h.elim (fun h => ?_) fun h => .inl (.inr h)
    obtain ⟨x, hx, rfl⟩ := List.mem_map.1 h
    split_ifs
    · exact .inr rfl
    · exact .inl (.inl hx)
  · refine h.elim (fun h => ?_) fun h => .inl (.inr h)
    exact (List.mem_append.1 h).imp .inl List.mem_singleton.1
  · exact .inl h

theorem pump_only {m : Notice} {next : Option Nat} {lc : Lc} (h : noticeHanded m (lc.pump next)) : noticeHanded m lc := by
  unfold Lc.pump at h
  split at h
  · exact h
  · split at h
    · exact h.elim .inl fun h => by simp at h
    · split at h
      · exact h
      · split at h
        · exact h
        · next n at' =>
          refine h.elim (fun h => .inl (List.mem_of_mem_eraseIdx h)) fun h => .inl ?_
          simp only [Transmitter.sending.injEq, TxFrame.notice.injEq] at h
          exact h ▸ List.mem_of_getElem? at'

theorem enqueue_kind {n : Notice} {kind : Nat} {lc : Lc} (h : noticeKind n ≠ kind) :
    noticesOfKind kind (lc.enqueue n) = noticesOfKind kind lc := by
  unfold Lc.enqueue noticesOfKind
  split_ifs
  · rw [List.countP_map]
    refine List.countP_congr fun m _ => ?_
    simp only [Function.comp_apply, beq_iff_eq]
    split_ifs with same
    · rw [same]
    · exact Iff.rfl
  · simp [h]
  · rfl

theorem pump_kind (kind : Nat) (next : Option Nat) (lc : Lc) : noticesOfKind kind (lc.pump next) ≤ noticesOfKind kind lc := by
  unfold Lc.pump noticesOfKind
  split
  · exact le_rfl
  · split
    · exact le_rfl
    · split
      · exact le_rfl
      · split
        · exact le_rfl
        · exact (List.eraseIdx_sublist _ _).countP_le

/-- One notice handed over, and then others. -/
theorem Handed.cons {n : Notice} {ns : List Notice} {s : State} {c : Lc} (q : Queued (queueNotice n s).lc c)
    (h : Handed ns (queueNotice n s).lc c) : Handed (n :: ns) s.lc c := by
  have length := queueNotice_length n s
  refine ⟨fun ms front m hm keeps room => ?_, fun m hm => ?_, fun kind out => ?_⟩
  · cases ms with
    | nil => cases hm
    | cons x rest =>
      obtain ⟨rfl, follows⟩ := List.cons_prefix_cons.1 front
      rw [List.length_cons] at room
      rcases List.mem_cons.1 hm with rfl | hm
      · have place : m ∈ (s.lc.enqueue m).notices := by
          rw [enqueue_appends (.inl keeps), if_pos (by omega)]
          exact List.mem_append_right _ List.mem_cons_self
        exact q.handed m keeps (pump_handed _ (.inl place))
      · exact h.room rest follows m hm keeps (by omega)
  · rcases h.only m hm with h | h
    · refine (enqueue_only (pump_only h)).imp id fun e => ?_
      exact e ▸ List.mem_cons_self
    · exact .inr (List.mem_cons_of_mem _ h)
  · refine (h.kind kind fun m hm => out m (List.mem_cons_of_mem _ hm)).trans ((pump_kind _ _ _).trans ?_)
    exact (enqueue_kind (out n List.mem_cons_self)).le

theorem queueNotices_handed (ns : List Notice) (s : State) : Handed ns s.lc (queueNotices ns s).lc := by
  induction ns generalizing s with
  | nil => exact .refl _
  | cons n ns ih => exact Handed.cons (queueNotices_frame ns (queueNotice n s)).lc (ih _)

/-- A reply placed takes the slot or the transmitter, and leaves the notices (R172, R175). -/
theorem noticeHanded_answered (n : Notice) (lc : Lc) (r : Reply) : noticeHanded n (answered lc r) ↔ noticeHanded n lc := by
  unfold noticeHanded answered
  by_cases free : lc.tx = .free <;> simp [free]

theorem Handed.answered {ns : List Notice} {a b : Lc} (h : Handed ns a b) (r : Reply) : Handed ns a (answered b r) :=
  ⟨fun ms front n m keeps room => (noticeHanded_answered n b r).2 (h.room ms front n m keeps room),
    fun n m => h.only n ((noticeHanded_answered n b r).1 m), h.kind⟩

/-- A change of the blocks beforehand hands over nothing. -/
theorem Tells.after {ns : List Notice} {s u t : State} (k : Tells ns u t) (lc : u.lc = s.lc) (rs : SameRestart u.rs s.rs) :
    Tells ns s t := (Tells.silent lc rs).trans k

theorem Tells.handed {ns : List Notice} {s t : State} (h : Tells ns s t) : Handed ns s.lc t.lc :=
  h.1 ▸ queueNotices_handed ns s

/-- A notice among the first ones is in the part, given room for these (R174). -/
theorem Handed.first {ns ms : List Notice} {a b : Lc} {n : Notice} {most limit : Nat} (h : Handed (ns ++ ms) a b) (mem : n ∈ ns)
    (few : ns.length ≤ most) (keeps : n.replacesItsKind = false) (sum : limit + most ≤ 32) (room : a.notices.length ≤ limit) :
    noticeHanded n b := h.room ns (List.prefix_append ns ms) n mem keeps (by omega)

/-- A notice is in the part, given room for all. -/
theorem Handed.within {ns : List Notice} {a b : Lc} {n : Notice} {most limit : Nat} (h : Handed ns a b) (mem : n ∈ ns)
    (few : ns.length ≤ most) (keeps : n.replacesItsKind = false) (sum : limit + most ≤ 32) (room : a.notices.length ≤ limit) :
    noticeHanded n b := h.room ns (List.prefix_refl ns) n mem keeps (by omega)

/-- A command whose owner hands over notices is answered behind them (R172 to R175). -/
theorem interpret_tells {kind tag : Byte} {body : List Byte} {level : Authority} {ok : List Byte → Bool} {owner : Owner}
    {s u : State} {answer : Answer} {ns : List Notice} (h : CommandAllowed kind tag body level s) (length : ok body = true)
    (e : owner body (takeFrame s) = (u, answer)) (tells : Tells ns (takeFrame s) u) :
    ∃ c, interpret kind level ok owner tag body s = .next { u with lc := c } ∧
      AnswersWith (replyOf kind tag answer) s { u with lc := c } ∧ Handed ns s.lc c := by
  have lc : u.lc = taken (queueNotices ns s).lc :=
    tells.1.trans (queueNotices_taken ns (u := takeFrame s) (v := s) rfl (.refl _))
  exact ⟨_, interpret_told h length e lc, answersWith_of_answered rfl (queueNotices_frame ns s).lc,
    (queueNotices_handed ns s).answered _⟩

/-! ## Free orders of the actions of several entries -/

/-- Actions on several entries in a free order run in one order of the entries. -/
theorem anyOrder_keyed {α : Type} (l : List α) (f : α → State → State) (s : State) :
    ∃ l' : List α, l'.Perm l ∧ Runs (l'.map f) s (anyOrder (l.map f) s) := by
  obtain ⟨r, perm, runs⟩ := anyOrder_runs (l.map f) s
  have keyed : List.Forall₂ (fun g a => g = f a) (l.map f) l := by
    rw [List.forall₂_map_left_iff, List.forall₂_same]
    exact fun _ _ => rfl
  obtain ⟨l', each, perm'⟩ := List.perm_comp_forall₂ perm keyed
  rw [← List.forall₂_map_right_iff, List.forall₂_eq_eq_eq] at each
  subst each
  exact ⟨l', perm', runs⟩

/-- Where each action hands over notices of its own, and all keep what these depend on, so do they in a free order. -/
theorem anyOrder_tells {α : Type} {P : State → Prop} (choices : ∀ s n, P s → P { s with choices := n }) (l : List α)
    (f : α → State → State) (ns : α → List Notice) {s : State} (acts : ∀ a ∈ l, ∀ u, P u → Tells (ns a) u (f a u) ∧ P (f a u))
    (hs : P s) : ∃ l' : List α, l'.Perm l ∧ Tells (l'.flatMap ns) s (anyOrder (l.map f) s) := by
  obtain ⟨l', perm, runs⟩ := anyOrder_keyed l f s
  refine ⟨l', perm, ?_⟩
  have acts : ∀ a ∈ l', ∀ u, P u → Tells (ns a) u (f a u) ∧ P (f a u) := fun a m => acts a (perm.mem_iff.1 m)
  clear perm
  generalize anyOrder (l.map f) s = t at runs
  induction l' generalizing s with
  | nil => obtain ⟨n, rfl⟩ := runs; exact .silent rfl (.refl _)
  | cons a l' ih =>
    obtain ⟨n, runs⟩ := runs
    obtain ⟨tells, kept⟩ := acts a List.mem_cons_self _ (choices s n hs)
    exact (Tells.after (s := s) tells rfl (.refl _)).trans (ih kept (fun b m => acts b (List.mem_cons_of_mem a m)) runs)

/-- What the action of one entry alone changes, it changes once in a free order of distinct entries. -/
theorem anyOrder_at {α β : Type} [DecidableEq α] {P : State → Prop} (choices : ∀ s n, P s → P { s with choices := n })
    {l : List α} (nodup : l.Nodup) (f : α → State → State) (x : State → β) (seen : ∀ s n, x { s with choices := n } = x s)
    (k : α) (g : β → β) {s : State} (kept : ∀ a ∈ l, ∀ u, P u → P (f a u)) (others : ∀ a ∈ l, a ≠ k → ∀ u, P u → x (f a u) = x u)
    (self : k ∈ l → ∀ u, P u → x (f k u) = g (x u)) (hs : P s) :
    x (anyOrder (l.map f) s) = if k ∈ l then g (x s) else x s := by
  obtain ⟨l', perm, runs⟩ := anyOrder_keyed l f s
  have mem {a : α} : a ∈ l' ↔ a ∈ l := perm.mem_iff
  replace nodup : l'.Nodup := perm.nodup_iff.2 nodup
  simp only [← mem] at kept others self ⊢
  clear mem perm
  generalize anyOrder (l.map f) s = t at runs
  induction l' generalizing s with
  | nil => obtain ⟨n, rfl⟩ := runs; exact seen s n
  | cons a l' ih =>
    obtain ⟨n, runs⟩ := runs
    obtain ⟨fresh, nodup⟩ := List.nodup_cons.1 nodup
    have ready : P { s with choices := n } := choices s n hs
    rw [ih (kept a List.mem_cons_self _ ready) nodup (fun b m => kept b (List.mem_cons_of_mem a m))
      (fun b m => others b (List.mem_cons_of_mem a m)) (fun m => self (List.mem_cons_of_mem a m)) runs]
    by_cases same : a = k
    · subst same
      rw [if_neg fresh, if_pos List.mem_cons_self, self List.mem_cons_self _ ready, seen]
    · rw [others a List.mem_cons_self same _ ready, seen]
      simp only [List.mem_cons, Ne.symm same, false_or]

end Sys2Proof.Machine

/-! PROOFS. What an evaluation of the Slew Limiter counts against the zones and hands over (R70, R72, R88 to R90). -/

namespace Sys2Proof.Machine

/-! ## The beginning and the end of an intrusion at one entry (R90) -/

/-- The ZONE EVENT that the beginning or the end of an intrusion at an entry hands over (R72, R90). -/
def intrusionNotices (i : SlewInputs) (k : Fin 16) (intruded : Bool) (s : State) : List Notice :=
  if intruded && !s.sl.marks[k].intrusion then
    match s.zt.zones[k].held with
    | none => []
    | some z => [.zoneEvent (.intrusion z.record.kind i.pose.slewAngle i.pose.reach i.pose.height i.pose.count) k
        s.zt.zones[k].state? s.now]
  else if s.sl.marks[k].intrusion && !intruded then
    [.zoneEvent (.intrusionEnd (intrusionEndCause i s.zt.zones[k]) i.pose.count) k s.zt.zones[k].state? s.now]
  else []

/-- What an intrusion's beginning and end depend on, and leave (R90). -/
structure SameIntrusions (s t : State) : Prop where
  sl   : t.sl = s.sl
  held : ∀ k : Fin 16, t.zt.zones[k].held = s.zt.zones[k].held
  time : t.lc.time = s.lc.time

theorem SameIntrusions.refl (s : State) : SameIntrusions s s := ⟨rfl, fun _ => rfl, rfl⟩

theorem SameIntrusions.trans {s t u : State} (h : SameIntrusions s t) (k : SameIntrusions t u) : SameIntrusions s u :=
  ⟨k.sl.trans h.sl, fun i => (k.held i).trans (h.held i), k.time.trans h.time⟩

theorem SameIntrusions.notices {s t : State} (h : SameIntrusions s t) (i : SlewInputs) (k : Fin 16) (b : Bool) :
    intrusionNotices i k b t = intrusionNotices i k b s := by
  unfold intrusionNotices intrusionEndCause ZoneEntry.state? State.now
  rw [h.sl, h.held k, h.time]

theorem settleIntrusion_same (i : SlewInputs) (k : Fin 16) (b : Bool) (s : State) :
    SameIntrusions s (settleIntrusion i k b s) :=
  ⟨(settleIntrusion_frame i k b s).sl rfl, (settleIntrusion_sameZones i k b s).held, (settleIntrusion_frame i k b s).lc.time⟩

theorem settleIntrusion_tells (i : SlewInputs) (k : Fin 16) (b : Bool) (s : State) :
    Tells (intrusionNotices i k b s) s (settleIntrusion i k b s) := by
  unfold intrusionNotices settleIntrusion
  simp only []
  split
  · cases s.zt.zones[k].held with
    | none => exact .silent rfl (.refl _)
    | some z => exact (queueNotice_tells _ (onZone k ZoneEntry.countIntrusion s)).after rfl (.refl _)
  · split
    · exact queueNotice_tells _ s
    · exact .silent rfl (.refl _)

theorem onZone_get (k j : Fin 16) (f : ZoneEntry → ZoneEntry) (s : State) :
    (onZone k f s).zt.zones[j] = if j = k then f s.zt.zones[j] else s.zt.zones[j] := by
  simp only [onZone_zt, Fin.getElem_fin, Vector.getElem_set, Fin.val_inj]
  split_ifs with h h' h'
  · rw [h']
  · exact absurd h.symm h'
  · exact absurd h'.symm h
  · rfl

/-- An intrusion that begins is counted at its own entry (R70). -/
theorem settleIntrusion_zones (i : SlewInputs) (k j : Fin 16) {b : Bool} {s : State} (zoned : b = true → s.zt.zones[k].held.isSome) :
    (settleIntrusion i k b s).zt.zones[j] = if j = k ∧ b = true ∧ s.sl.marks[k].intrusion = false
      then ZoneEntry.countIntrusion s.zt.zones[j] else s.zt.zones[j] := by
  unfold settleIntrusion
  simp only []
  cases b with
  | false =>
    simp only [Bool.false_and, Bool.false_eq_true, if_false, false_and, and_false]
    split
    · rfl
    · rfl
  | true =>
    obtain ⟨z, held⟩ := Option.isSome_iff_exists.1 (zoned rfl)
    cases s.sl.marks[k].intrusion with
    | true => simp
    | false =>
      rw [held]
      simp only [Bool.not_false, Bool.and_self, if_true, and_true, (queueNotice_frame _ _).zt rfl]
      exact onZone_get k j _ s

/-! ## The cuts counted (R70, R89) -/

theorem countCuts_zones (old new : Bool) {c : LineCauses} (nodup : c.zones.Nodup) (k : Fin 16) (s : State) :
    (countCuts old new c s).zt.zones[k] =
      if new = true ∧ old = false ∧ k ∈ c.zones then ZoneEntry.countCut s.zt.zones[k] else s.zt.zones[k] := by
  have each (l : List (Fin 16)) (nodup : l.Nodup) (s : State) : (l.foldl (fun s k => onZone k ZoneEntry.countCut s) s).zt.zones[k] =
      if k ∈ l then ZoneEntry.countCut s.zt.zones[k] else s.zt.zones[k] := by
    induction l generalizing s with
    | nil => rfl
    | cons j l ih =>
      obtain ⟨fresh, nodup⟩ := List.nodup_cons.1 nodup
      rw [List.foldl_cons, ih nodup, onZone_get]
      by_cases same : k = j
      · rw [if_neg (same ▸ fresh), if_pos same, if_pos (same ▸ List.mem_cons_self)]
      · rw [if_neg same]
        simp only [List.mem_cons, same, false_or]
  unfold countCuts
  cases new <;> cases old <;> simp [each _ nodup]

theorem countCuts_lc (old new : Bool) (c : LineCauses) (s : State) : (countCuts old new c s).lc = s.lc := by
  have each (l : List (Fin 16)) (s : State) : (l.foldl (fun s k => onZone k ZoneEntry.countCut s) s).lc = s.lc := by
    induction l generalizing s with
    | nil => rfl
    | cons j l ih => exact (ih _).trans rfl
  unfold countCuts
  split
  · exact each _ s
  · rfl

theorem cutsCounted_lc (p : Pose) (s t : State) : (cutsCounted p s t).lc = t.lc :=
  (countCuts_lc _ _ _ _).trans ((countCuts_lc _ _ _ _).trans (countCuts_lc _ _ _ _))

/-- The lines newly cut on a zone's account, each counted once against it, saturating (R70, R89). -/
theorem cuts_counted (e : ZoneEntry) (a b c : Prop) [Decidable a] [Decidable b] [Decidable c] :
    let left := if a then ZoneEntry.countCut e else e
    let right := if b then ZoneEntry.countCut left else left
    let counted := if c then ZoneEntry.countCut right else right
    let lines := (if a then 1 else 0) + (if b then 1 else 0) + (if c then 1 else 0)
    counted.intrusions = e.intrusions ∧ counted.cuts = if lines = 0 then e.cuts else min 65535 (e.cuts + lines) := by
  intro left right counted lines
  simp only [counted, right, left, lines]
  constructor
  · split_ifs <;> rfl
  · by_cases ha : a <;> by_cases hb : b <;> by_cases hc : c <;> simp [ha, hb, hc, ZoneEntry.countCut, satAdd, max16] <;> omega

theorem cutsTaken_lc (p : Pose) (s : State) :
    (cutsTaken p s).lc = (settleIntrusions (slewInputs s.sl p) (outcomesOn p s) s).lc := by simp [cutsTaken, requestSlAlarm]

theorem cutsTaken_rs (p : Pose) (s : State) :
    (cutsTaken p s).rs = (settleIntrusions (slewInputs s.sl p) (outcomesOn p s) s).rs := by simp [cutsTaken, requestSlAlarm]

theorem cutsTaken_zt (p : Pose) (s : State) :
    (cutsTaken p s).zt = (settleIntrusions (slewInputs s.sl p) (outcomesOn p s) s).zt := by simp [cutsTaken, requestSlAlarm]

theorem zonesWhere_nodup (f : ZoneOutcome → Bool) (o : Vector ZoneOutcome 16) : (zonesWhere f o).Nodup :=
  (List.nodup_finRange 16).filter _

/-! ## An evaluation -/

/-- The zones whose intrusion begins or ends at an evaluation on a pose (R90). -/
def intrusionsMoved (p : Pose) (s : State) : List (Fin 16) :=
  (List.finRange 16).filter fun k => (outcomesOn p s)[k].intruded != s.sl.marks[k].intrusion

theorem intrusionsMoved_nodup (p : Pose) (s : State) : (intrusionsMoved p s).Nodup := (List.nodup_finRange 16).filter _

theorem mem_intrusionsMoved {p : Pose} {s : State} {k : Fin 16} :
    k ∈ intrusionsMoved p s ↔ (outcomesOn p s)[k].intruded ≠ s.sl.marks[k].intrusion := by
  simp [intrusionsMoved]

theorem settleIntrusions_eq (p : Pose) (s : State) : settleIntrusions (slewInputs s.sl p) (outcomesOn p s) s =
    anyOrder ((intrusionsMoved p s).map fun k => settleIntrusion (slewInputs s.sl p) k (outcomesOn p s)[k].intruded) s := rfl

theorem intruded_zoned {p : Pose} {s : State} {k : Fin 16} (h : (outcomesOn p s)[k].intruded = true) :
    s.zt.zones[k].held.isSome := by
  cases held : s.zt.zones[k].held with
  | some z => rfl
  | none =>
    have part : s.zt.zones[k].takingPart = none := by simp only [ZoneEntry.takingPart, held]
    rw [outcome_none part] at h
    cases h

/-- The intrusions of an evaluation count, each at its entry (R70, R90). -/
theorem settleIntrusions_zones (p : Pose) (s : State) (k : Fin 16) :
    (settleIntrusions (slewInputs s.sl p) (outcomesOn p s) s).zt.zones[k] =
      if (outcomesOn p s)[k].intruded = true ∧ s.sl.marks[k].intrusion = false then ZoneEntry.countIntrusion s.zt.zones[k]
      else s.zt.zones[k] := by
  have zoned (j : Fin 16) {u : State} (h : SameIntrusions s u) (b : (outcomesOn p s)[j].intruded = true) :
      u.zt.zones[j].held.isSome := by rw [h.held]; exact intruded_zoned b
  rw [settleIntrusions_eq, anyOrder_at (P := SameIntrusions s) (fun u n h => ⟨h.sl, h.held, h.time⟩)
    (intrusionsMoved_nodup p s) (fun j => settleIntrusion (slewInputs s.sl p) j (outcomesOn p s)[j].intruded) (fun u => u.zt.zones[k]) (fun _ _ => rfl) k
    (fun e => if (outcomesOn p s)[k].intruded = true ∧ s.sl.marks[k].intrusion = false then ZoneEntry.countIntrusion e else e)
    (fun j _ u h => h.trans (settleIntrusion_same _ j _ u)) ?_ ?_ (.refl s)]
  · simp only [mem_intrusionsMoved]
    split_ifs with moved begins
    · rfl
    · rfl
    · simp_all
    · rfl
  · intro j _ other u h
    simp only [settleIntrusion_zones _ j k (zoned j h), Ne.symm other, false_and, if_false]
  · intro _ u h
    simp only [settleIntrusion_zones _ k k (zoned k h), h.sl, true_and]

/-- The SLEW STATE that an evaluation on a pose hands over: one where the state or the cut set changed (R88). -/
def slewStateNotices (p : Pose) (s : State) : List Notice :=
  if stateOn p s = s.sl.state ∧ cutSetOf (causesOn p s) = s.sl.cutSet then []
  else [.slewState (slewReport (slewInputs s.sl p) s.sl (stateOn p s) (cutSetOf (causesOn p s)) (causesOn p s) s.now)]

/-- A notice that an evaluation hands over (R88, R90). -/
def EvaluationHands (s : State) (n : Notice) : Prop := ∃ p, s.sl.pose = some p ∧
  ((∃ k, n ∈ intrusionNotices (slewInputs s.sl p) k (outcomesOn p s)[k].intruded s) ∨ n ∈ slewStateNotices p s)

theorem intrusionNotices_length (i : SlewInputs) (k : Fin 16) (b : Bool) (s : State) : (intrusionNotices i k b s).length ≤ 1 := by
  unfold intrusionNotices
  split
  · split <;> simp
  · split <;> simp

theorem intrusionNotices_unmoved (i : SlewInputs) {k : Fin 16} {b : Bool} {s : State} (h : b = s.sl.marks[k].intrusion) :
    intrusionNotices i k b s = [] := by
  unfold intrusionNotices
  rw [h]
  cases s.sl.marks[k].intrusion <;> rfl

theorem flatMap_length_le {α β : Type} (l : List α) {f : α → List β} (h : ∀ a, (f a).length ≤ 1) :
    (l.flatMap f).length ≤ l.length := by
  induction l with
  | nil => rfl
  | cons a l ih =>
    rw [List.flatMap_cons, List.length_append, List.length_cons]
    have := h a
    omega

/-- An evaluation hands over a ZONE EVENT of each intrusion that begins or ends, and SLEW STATE at a change, and nothing else. -/
theorem evaluateSlew_tells (s : State) :
    ∃ ns, Tells ns s (evaluateSlew s) ∧ ns.length ≤ 17 ∧ ∀ n, n ∈ ns ↔ EvaluationHands s n := by
  cases pose : s.sl.pose with
  | none =>
    rw [evaluateSlew_none pose]
    exact ⟨[], .silent rfl (.refl _), by simp, fun n => by simp [EvaluationHands, pose]⟩
  | some p =>
    obtain ⟨order, perm, intrusions⟩ := anyOrder_tells (P := SameIntrusions s) (fun u n h => ⟨h.sl, h.held, h.time⟩)
      (intrusionsMoved p s) (fun k => settleIntrusion (slewInputs s.sl p) k (outcomesOn p s)[k].intruded)
      (fun k => intrusionNotices (slewInputs s.sl p) k (outcomesOn p s)[k].intruded s)
      (fun k _ u h => ⟨(h.notices _ k _) ▸ settleIntrusion_tells _ k _ u, h.trans (settleIntrusion_same _ k _ u)⟩) (.refl s)
    rw [← settleIntrusions_eq] at intrusions
    have counted : Tells [] (settleIntrusions (slewInputs s.sl p) (outcomesOn p s) s) (cutsCounted p s (cutsTaken p s)) := by
      refine .silent ((cutsCounted_lc p s _).trans (cutsTaken_lc p s)) ?_
      rw [(cutsCounted_frame p s _).rs rfl, cutsTaken_rs]
      exact .refl _
    have reported : Tells (slewStateNotices p s) (cutsCounted p s (cutsTaken p s)) (evaluateSlew s) := by
      rw [evaluateSlew_some pose, evaluateOn_eq]
      have now : (cutsCounted p s (cutsTaken p s)).now = s.now := (congrArg Lc.time ((cutsCounted_lc p s _).trans (cutsTaken_lc p s))).trans
        (settleIntrusions_frame (slewInputs s.sl p) (outcomesOn p s) s).lc.time
      unfold slewStateNotices
      split
      · exact .silent rfl (.refl _)
      · rw [now]
        exact queueNotice_tells _ _
    have few : (order.flatMap fun k => intrusionNotices (slewInputs s.sl p) k (outcomesOn p s)[k].intruded s).length ≤ 16 := by
      refine (flatMap_length_le order fun k => intrusionNotices_length _ k _ s).trans ?_
      rw [perm.length_eq]
      exact (List.length_filter_le _ _).trans (by simp)
    refine ⟨_, (intrusions.trans counted).trans reported, ?_, fun n => ?_⟩
    · have one : (slewStateNotices p s).length ≤ 1 := by unfold slewStateNotices; split <;> simp
      rw [List.append_nil, List.length_append]
      omega
    · simp only [EvaluationHands, pose, Option.some.injEq, exists_eq_left', List.append_nil, List.mem_append, List.mem_flatMap]
      refine or_congr ⟨fun ⟨k, _, h⟩ => ⟨k, h⟩, fun ⟨k, h⟩ => ⟨k, perm.mem_iff.2 (mem_intrusionsMoved.2 fun same => ?_), h⟩⟩ Iff.rfl
      rw [intrusionNotices_unmoved _ same] at h
      cases h

/-- The lines that an evaluation on a pose newly puts in the cut set on an entry's account (R89). -/
def linesNewly (p : Pose) (s : State) (k : Fin 16) : Nat :=
  (if (cutSetOf (causesOn p s)).left = true ∧ s.sl.cutSet.left = false ∧ k ∈ (causesOn p s).left.zones then 1 else 0) +
    (if (cutSetOf (causesOn p s)).right = true ∧ s.sl.cutSet.right = false ∧ k ∈ (causesOn p s).right.zones then 1 else 0) +
    (if (cutSetOf (causesOn p s)).boomUp = true ∧ s.sl.cutSet.boomUp = false ∧ k ∈ (causesOn p s).boomUp.zones then 1 else 0)

theorem cutsCounted_zones (p : Pose) (s t : State) (k : Fin 16) :
    (cutsCounted p s t).zt.zones[k].intrusions = t.zt.zones[k].intrusions ∧
      (cutsCounted p s t).zt.zones[k].cuts = if linesNewly p s k = 0 then t.zt.zones[k].cuts
        else min 65535 (t.zt.zones[k].cuts + linesNewly p s k) := by
  have left : (causesOn p s).left.zones.Nodup := by simp [causesOn, causesOf, zonesWhere_nodup]
  have right : (causesOn p s).right.zones.Nodup := by simp [causesOn, causesOf, zonesWhere_nodup]
  have boomUp : (causesOn p s).boomUp.zones.Nodup := by simp [causesOn, causesOf, zonesWhere_nodup]
  have counted := cuts_counted t.zt.zones[k]
    ((cutSetOf (causesOn p s)).left = true ∧ s.sl.cutSet.left = false ∧ k ∈ (causesOn p s).left.zones)
    ((cutSetOf (causesOn p s)).right = true ∧ s.sl.cutSet.right = false ∧ k ∈ (causesOn p s).right.zones)
    ((cutSetOf (causesOn p s)).boomUp = true ∧ s.sl.cutSet.boomUp = false ∧ k ∈ (causesOn p s).boomUp.zones)
  simp only [cutsCounted, countCuts_zones _ _ left, countCuts_zones _ _ right, countCuts_zones _ _ boomUp]
  exact counted

/-- An evaluation aside, an unchanged state keeps the statistics. -/
theorem StatisticsKept.refl (k : Fin 16) (s : State) : StatisticsKept k s s := by
  refine ⟨?_, ?_⟩
  · cases s.sl.marks[k].intrusion <;> simp
  · have no (b : Bool) (q : Prop) : ¬(b = true ∧ b = false ∧ q) := by cases b <;> simp
    simp only [linesCut, no, if_false, Nat.add_zero, if_true]

/-- The statistics after an evaluation (R70, R89, R90). -/
theorem evaluateSlew_statistics (s : State) (k : Fin 16) : StatisticsKept k s (evaluateSlew s) := by
  cases pose : s.sl.pose with
  | none =>
    rw [evaluateSlew_none pose]
    exact .refl k s
  | some p =>
    have zones : (evaluateSlew s).zt.zones[k] = (cutsCounted p s (cutsTaken p s)).zt.zones[k] := by
      rw [evaluateSlew_some pose, evaluateOn_eq]
      split
      · rfl
      · exact congrArg (fun zt : Zt => zt.zones[k]) ((queueNotice_frame _ _).zt rfl)
    have taken := settleIntrusions_zones p s k
    rw [← cutsTaken_zt] at taken
    obtain ⟨intrusions, cuts⟩ := cutsCounted_zones p s (cutsTaken p s) k
    have lines : linesCut k s (evaluateSlew s) = linesNewly p s k := by
      unfold linesCut linesNewly
      rw [evaluateSlew_some pose, evaluateOn_sl]
    have mark : (evaluateSlew s).sl.marks[k].intrusion = (outcomesOn p s)[k].intruded := by
      rw [evaluateSlew_some pose, evaluateOn_sl, marksOf_get]
    unfold StatisticsKept ZoneCounted
    rw [zones, lines, mark, intrusions, cuts, taken]
    split_ifs <;> exact ⟨rfl, rfl⟩

end Sys2Proof.Machine

/-! PROOFS. ZONE WRITE, ZONE CLEAR, ZONE SUSPEND and ZONE RESUME (O36, O37). -/

namespace Sys2Proof.Machine

/-! ## What the work on one zone leaves -/

/-- What the work on the zones leaves: the state beside the lines, the zones, the cuts, the store and the notices. -/
theorem Touches.zoneWork {s u : State} {c : Lc} 
    (h : Touches { mlu := true, zt := true, sl := true, rs := true, choices := true } s u) :
    { u with lc := c } = { s with
      mlu := u.mlu, zt := u.zt, sl := u.sl, rs := u.rs, lc := c, choices := u.choices } := by
  have scu := h.scu rfl
  have ps := h.ps rfl
  have ct := h.ct rfl
  have lr := h.lr rfl
  have em := h.em rfl
  have st := h.st rfl
  obtain ⟨powered, pending⟩ := And.intro h.powered h.pending
  rw [← scu, ← ps, ← ct, ← lr, ← em, ← st, ← powered, ← pending]

/-- What the counting of an evaluation reads: the cut set before it, and what it leaves of the zones and of the cuts. -/
theorem ZoneCounted.congr {k : Fin 16} {active : Bool} {i n : Nat} {s s' t t' : State} (h : ZoneCounted k active i n s t)
    (cutSet : s'.sl.cutSet = s.sl.cutSet) (zones : t'.zt.zones = t.zt.zones) (sl : t'.sl = t.sl) :
    ZoneCounted k active i n s' t' := by
  unfold ZoneCounted linesCut at h ⊢
  rw [cutSet, zones, sl]
  exact h

/-! ## ZONE SUSPEND and ZONE RESUME (R62, R63) -/

/-- A zone moved by command: its state, the other zones, and the statistics but for what the evaluation counts (R62, R63, R68). -/
theorem moveZone_fields (k : Fin 16) (x : ZoneState) {z : Zone} {s : State} (held : s.zt.zones[k].held = some z) :
    (moveZone k x s).zt.zones[k].held = some { z with state := x } ∧
      (∀ j : Fin 16, j ≠ k → (moveZone k x s).zt.zones[j].held = s.zt.zones[j].held) ∧
      (∀ j : Fin 16, StatisticsKept j s (moveZone k x s)) ∧ (moveZone k x s).mlu.inputs = s.mlu.inputs ∧
      (moveZone k x s).mlu.authority = s.mlu.authority := by
  have zones (j : Fin 16) := onZone_get k j (ZoneEntry.withState x) s
  have same := evaluateSlew_sameZones (onZone k (ZoneEntry.withState x) s)
  refine ⟨?_, fun j other => ?_, fun j => ?_, same.inputs, same.authority⟩
  · rw [moveZone, same.held, zones, if_pos rfl, ZoneEntry.withState, held]
    rfl
  · rw [moveZone, same.held, zones, if_neg other]
  · have counted := evaluateSlew_statistics (onZone k (ZoneEntry.withState x) s) j
    have stats : (onZone k (ZoneEntry.withState x) s).zt.zones[j].intrusions = s.zt.zones[j].intrusions ∧
        (onZone k (ZoneEntry.withState x) s).zt.zones[j].cuts = s.zt.zones[j].cuts := by
      rw [zones]
      split_ifs <;> exact ⟨rfl, rfl⟩
    unfold StatisticsKept at counted
    rw [stats.1, stats.2] at counted
    exact counted.congr rfl rfl rfl

theorem zoneIndex?_body (k : Fin 16) : zoneIndex? [BitVec.ofNat 8 k.val] = some k := by
  rw [zoneIndex?, u8_ofNat_cons (by omega), index?_val]

theorem zoneReply_held {k : Fin 16} {z : Zone} {s : State} (h : s.zt.zones[k].held = some z) :
    zoneReply k s = answerDone (be 1 k.val ++ be 1 (zoneStateCode (some z.state))) := by
  rw [zoneReply, ZoneEntry.state?, h]
  rfl

/-- A command that moves a zone is answered with the index and the new state (R62, R63). -/
theorem interpret_moved {kind tag : Byte} {body : List Byte} {level : Authority} {ok : List Byte → Bool} {owner : Owner} {k : Fin 16}
    {x : ZoneState} {z : Zone} {s : State} (allowed : CommandAllowed kind tag body level s) (length : ok body = true)
    (held : s.zt.zones[k].held = some z)
    (e : owner body (takeFrame s) = (moveZone k x (takeFrame s), zoneReply k (moveZone k x (takeFrame s)))) :
    ∃ t, interpret kind level ok owner tag body s = .next t ∧
      AnswersWith (replyFrame kind tag .done (be 1 k.val ++ be 1 (zoneStateCode (some x)))) s t ∧
      t.zt.zones[k].held = some { z with state := x } ∧
      (∀ j : Fin 16, j ≠ k → t.zt.zones[j].held = s.zt.zones[j].held) ∧ (∀ j : Fin 16, StatisticsKept j s t) ∧
      t.mlu.inputs = s.mlu.inputs ∧ t.mlu.authority = s.mlu.authority ∧
      t = { s with mlu := t.mlu, zt := t.zt, sl := t.sl, lc := t.lc, choices := t.choices } := by
  obtain ⟨moved, others, statistics, inputs, authority⟩ := moveZone_fields k x (s := takeFrame s) held
  have frame := moveZone_frame k x (takeFrame s)
  obtain ⟨ns, tells⟩ := moveZone_telling k x (takeFrame s)
  rw [zoneReply_held moved] at e
  obtain ⟨c, next, answers, -⟩ := interpret_tells allowed length e tells
  refine ⟨_, next, answers, moved, others, fun j => (statistics j).congr rfl rfl rfl, inputs, authority, ?_⟩
  refine (Touches.zoneWork (s := s) ((takeFrame_touches _ s).trans (frame.touchesWithin rfl))).trans ?_
  rw [show (moveZone k x (takeFrame s)).rs = s.rs from frame.rs rfl]

/-- A command of a zone that changes nothing is answered at once. -/
theorem interpret_unmoved {kind tag : Byte} {body : List Byte} {level : Authority} {ok : List Byte → Bool} {owner : Owner}
    {answer : Answer} {s : State} (allowed : CommandAllowed kind tag body level s) (length : ok body = true)
    (e : owner body (takeFrame s) = (takeFrame s, answer)) :
    interpret kind level ok owner tag body s = .next { s with lc := answered s.lc (replyOf kind tag answer) } :=
  (interpret_answered (u := takeFrame s) allowed length e rfl).trans rfl

/-- ZONE SUSPEND at its owner, by the state of the zone (R62). -/
theorem zoneSuspendOwner_held {body : List Byte} {k : Fin 16} {z : Zone} {s : State} (named : zoneIndex? body = some k)
    (held : s.zt.zones[k].held = some z) : zoneSuspendOwner body s =
      match z.state with
      | .suspended => (s, zoneReply k s)
      | .dormant | .unanchored _ => (s, answerRefused .state)
      | .armed =>
        if s.mlu.authority.rank < z.record.suspendLevel.rank then (s, answerRefused .authority)
        else (moveZone k .suspended s, zoneReply k (moveZone k .suspended s)) := by
  rw [zoneSuspendOwner, withFields_some named, held] <;> rfl

theorem zoneSuspendOwner_empty {body : List Byte} {k : Fin 16} {s : State} (named : zoneIndex? body = some k)
    (held : s.zt.zones[k].held = none) : zoneSuspendOwner body s = (s, answerRefused .state) := by
  rw [zoneSuspendOwner, withFields_some named, held]

/-- ZONE RESUME at its owner, by the state of the zone (R63). -/
theorem zoneResumeOwner_held {body : List Byte} {k : Fin 16} {z : Zone} {s : State} (named : zoneIndex? body = some k)
    (held : s.zt.zones[k].held = some z) : zoneResumeOwner body s =
      match z.state with
      | .armed => (s, zoneReply k s)
      | .unanchored _ => (s, answerRefused .state)
      | .dormant | .suspended =>
        if s.mlu.authority.rank < resumeRank z.record.suspendLevel then (s, answerRefused .authority)
        else (moveZone k .armed s, zoneReply k (moveZone k .armed s)) := by
  rw [zoneResumeOwner, withFields_some named, held] <;> rfl

theorem zoneResumeOwner_empty {body : List Byte} {k : Fin 16} {s : State} (named : zoneIndex? body = some k)
    (held : s.zt.zones[k].held = none) : zoneResumeOwner body s = (s, answerRefused .state) := by
  rw [zoneResumeOwner, withFields_some named, held]

theorem resumeRank_eq (l : SuspendLevel) : resumeRank l = min 2 l.rank := Nat.min_comm _ _

/-- ZONE SUSPEND (R62). -/
theorem exec_zoneSuspend (tag : Byte) (k : Fin 16) {s : State}
    (allowed : CommandAllowed 0x1B tag [BitVec.ofNat 8 k.val] .operator s) :
    ((∀ z ∈ s.zt.zones[k].held, z.state = .dormant ∨ ∃ p, z.state = .unanchored p) →
      exec (.zoneSuspend tag [BitVec.ofNat 8 k.val]) s = .next { s with
        lc := answered s.lc (replyFrame 0x1B tag .state []) }) ∧
    ∀ z ∈ s.zt.zones[k].held,
      (z.state = .suspended → exec (.zoneSuspend tag [BitVec.ofNat 8 k.val]) s = .next { s with
        lc := answered s.lc (replyFrame 0x1B tag .done (be 1 k.val ++ be 1 3)) }) ∧
      (z.state = .armed → s.mlu.authority.rank < z.record.suspendLevel.rank →
        exec (.zoneSuspend tag [BitVec.ofNat 8 k.val]) s = .next { s with
          lc := answered s.lc (replyFrame 0x1B tag .authority []) }) := by
  have named := zoneIndex?_body k
  refine ⟨fun out => ?_, fun z held => ⟨fun suspended => ?_, fun armed low => ?_⟩⟩
  · have e : zoneSuspendOwner [BitVec.ofNat 8 k.val] (takeFrame s) = (takeFrame s, answerRefused .state) := by
      cases held : s.zt.zones[k].held with
      | none => exact zoneSuspendOwner_empty named held
      | some z =>
        rw [zoneSuspendOwner_held named (s := takeFrame s) held]
        rcases out z held with rests | ⟨p, rests⟩ <;> rw [rests]
    exact (interpret_unmoved allowed rfl e).trans rfl
  · have e : zoneSuspendOwner [BitVec.ofNat 8 k.val] (takeFrame s) = (takeFrame s, answerDone (be 1 k.val ++ be 1 3)) := by
      rw [zoneSuspendOwner_held named (s := takeFrame s) held, suspended]
      exact congrArg (Prod.mk _) ((zoneReply_held (s := takeFrame s) held).trans (by rw [suspended]; rfl))
    exact (interpret_unmoved allowed rfl e).trans rfl
  · have e : zoneSuspendOwner [BitVec.ofNat 8 k.val] (takeFrame s) = (takeFrame s, answerRefused .authority) := by
      rw [zoneSuspendOwner_held named (s := takeFrame s) held, armed]
      exact if_pos low
    exact (interpret_unmoved allowed rfl e).trans rfl

/-- ZONE RESUME (R63). -/
theorem exec_zoneResume (tag : Byte) (k : Fin 16) {s : State}
    (allowed : CommandAllowed 0x1C tag [BitVec.ofNat 8 k.val] .operator s) :
    ((∀ z ∈ s.zt.zones[k].held, ∃ p, z.state = .unanchored p) →
      exec (.zoneResume tag [BitVec.ofNat 8 k.val]) s = .next { s with
        lc := answered s.lc (replyFrame 0x1C tag .state []) }) ∧
    ∀ z ∈ s.zt.zones[k].held,
      (z.state = .armed → exec (.zoneResume tag [BitVec.ofNat 8 k.val]) s = .next { s with
        lc := answered s.lc (replyFrame 0x1C tag .done (be 1 k.val ++ be 1 2)) }) ∧
      (z.state = .dormant ∨ z.state = .suspended → s.mlu.authority.rank < min 2 z.record.suspendLevel.rank →
        exec (.zoneResume tag [BitVec.ofNat 8 k.val]) s = .next { s with
          lc := answered s.lc (replyFrame 0x1C tag .authority []) }) := by
  have named := zoneIndex?_body k
  refine ⟨fun out => ?_, fun z held => ⟨fun armed => ?_, fun rests low => ?_⟩⟩
  · have e : zoneResumeOwner [BitVec.ofNat 8 k.val] (takeFrame s) = (takeFrame s, answerRefused .state) := by
      cases held : s.zt.zones[k].held with
      | none => exact zoneResumeOwner_empty named held
      | some z =>
        obtain ⟨p, rests⟩ := out z held
        rw [zoneResumeOwner_held named (s := takeFrame s) held, rests]
    exact (interpret_unmoved allowed rfl e).trans rfl
  · have e : zoneResumeOwner [BitVec.ofNat 8 k.val] (takeFrame s) = (takeFrame s, answerDone (be 1 k.val ++ be 1 2)) := by
      rw [zoneResumeOwner_held named (s := takeFrame s) held, armed]
      exact congrArg (Prod.mk _) ((zoneReply_held (s := takeFrame s) held).trans (by rw [armed]; rfl))
    exact (interpret_unmoved allowed rfl e).trans rfl
  · have e : zoneResumeOwner [BitVec.ofNat 8 k.val] (takeFrame s) = (takeFrame s, answerRefused .authority) := by
      rw [← resumeRank_eq] at low
      rw [zoneResumeOwner_held named (s := takeFrame s) held]
      rcases rests with rests | rests <;> rw [rests] <;> exact if_pos low
    exact (interpret_unmoved allowed rfl e).trans rfl

/-- Settles O37. -/
theorem suspendAndResumeMoveZone : Obligations.SuspendAndResumeMoveZone := by
  unfold Obligations.SuspendAndResumeMoveZone
  intro tag k s body
  have named := zoneIndex?_body k
  refine ⟨fun allowed => ?_, fun allowed => ?_⟩
  · obtain ⟨out, held⟩ := exec_zoneSuspend tag k allowed
    refine ⟨out, fun z hz => ⟨(held z hz).1, (held z hz).2, fun armed high => ?_⟩⟩
    refine interpret_moved (owner := zoneSuspendOwner) (x := .suspended) allowed rfl hz ?_
    rw [zoneSuspendOwner_held named (s := takeFrame s) hz, armed]
    exact if_neg (Nat.not_lt.2 high)
  · obtain ⟨out, held⟩ := exec_zoneResume tag k allowed
    refine ⟨out, fun z hz => ⟨(held z hz).1, (held z hz).2, fun rests high => ?_⟩⟩
    refine interpret_moved (owner := zoneResumeOwner) (x := .armed) allowed rfl hz ?_
    rw [← resumeRank_eq] at high
    rw [zoneResumeOwner_held named (s := takeFrame s) hz]
    rcases rests with rests | rests <;> rw [rests] <;> exact if_neg (Nat.not_lt.2 high)

end Sys2Proof.Machine

/-! PROOFS. ZONE WRITE and ZONE CLEAR replace an entry (O36). -/

namespace Sys2Proof.Machine

/-! ## The replacing of an entry (R59, R60) -/

/-- What the replacing of an entry reads before its evaluation, and what the settling of the count leaves (R69). -/
structure SameEntries (s t : State) : Prop where
  zones     : t.zt.zones = s.zt.zones
  sl        : t.sl = s.sl
  inputs    : t.mlu.inputs = s.mlu.inputs
  authority : t.mlu.authority = s.mlu.authority

theorem settleUnanchored_entries (s : State) : SameEntries s (settleUnanchored s) :=
  have ⟨zones, inputs, authority⟩ := settleUnanchored_fields s
  ⟨zones, (settleUnanchored_frame s).sl rfl, inputs, authority⟩

theorem SameEntries.trans {s t u : State} (h : SameEntries s t) (k : SameEntries t u) : SameEntries s u :=
  ⟨k.zones.trans h.zones, k.sl.trans h.sl, k.inputs.trans h.inputs, k.authority.trans h.authority⟩

/-- The entry with its new content, and the store marked when its record differs (R59, R162). -/
def entryReplaced (k : Fin 16) (z : Option Zone) (s : State) : State :=
  if (s.zt.zones[k].held.map Zone.record) != z.map Zone.record then markRetained (onZone k (fun _ => { held := z }) s)
  else onZone k (fun _ => { held := z }) s

theorem replaceZone_eq (k : Fin 16) (z : Option Zone) (s : State) : replaceZone k z s =
    anyOrder ((if unanchoredCount (entryReplaced k z s).zt.zones = (entryReplaced k z s).zt.unanchored then [] else [settleUnanchored]) ++
      [fun s => evaluateSlew (forgetZone k s)]) (entryReplaced k z s) := rfl

theorem entryReplaced_entries (k : Fin 16) (z : Option Zone) (s : State) :
    SameEntries (onZone k (fun _ => { held := z }) s) (entryReplaced k z s) := by
  unfold entryReplaced
  split <;> exact ⟨rfl, rfl, rfl, rfl⟩

theorem entryReplaced_rs (k : Fin 16) (z : Option Zone) (s : State) : (entryReplaced k z s).rs =
    if s.zt.zones[k].held.map Zone.record = z.map Zone.record then s.rs else Rs.mark s.rs := by
  unfold entryReplaced
  by_cases same : s.zt.zones[k].held.map Zone.record = z.map Zone.record
  · rw [if_pos same, if_neg (by rw [same]; simp)]
    rfl
  · rw [if_neg same, if_pos (bne_iff_ne.2 same)]
    rfl

/-- The replacing of an entry ends as its evaluation does, on the new content with the marks of the entry cleared (R91): the settling of
the count comes before it or after it, and leaves what it reads. -/
theorem replaceZone_evaluates (k : Fin 16) (z : Option Zone) (s : State) :
    ∃ w, SameEntries (onZone k (fun _ => { held := z }) s) w ∧
      SameEntries (evaluateSlew (forgetZone k w)) (replaceZone k z s) := by
  have marked := entryReplaced_entries k z s
  rw [replaceZone_eq]
  generalize entryReplaced k z s = v at marked
  split
  · exact ⟨v, marked, by rw [List.nil_append, anyOrder_one]; exact ⟨rfl, rfl, rfl, rfl⟩⟩
  · rcases anyOrder_two settleUnanchored (fun s => evaluateSlew (forgetZone k s)) v with h | h
    · refine ⟨settleUnanchored { v with choices := v.choices + 1 }, ?_, ?_⟩
      · have chosen : SameEntries v { v with choices := v.choices + 1 } := ⟨rfl, rfl, rfl, rfl⟩
        exact marked.trans (chosen.trans (settleUnanchored_entries _))
      · rw [List.singleton_append, h]
        exact ⟨rfl, rfl, rfl, rfl⟩
    · refine ⟨{ v with choices := v.choices + 1 }, marked.trans ⟨rfl, rfl, rfl, rfl⟩, ?_⟩
      rw [List.singleton_append, h]
      exact settleUnanchored_entries _

theorem forgetZone_sl (k : Fin 16) (s : State) : (forgetZone k s).sl = { s.sl with marks := s.sl.marks.set k {} } := by
  unfold forgetZone
  simp only []
  split
  · exact (queueNotice_frame _ _).sl rfl
  · rfl

theorem forgetZone_marks (k j : Fin 16) (s : State) :
    (forgetZone k s).sl.marks[j] = if j = k then {} else s.sl.marks[j] := by
  rw [forgetZone_sl]
  simp only [Fin.getElem_fin, Vector.getElem_set, Fin.val_inj, eq_comm]

/-- An entry replaced: it holds the new content with its statistics counted from 0, and every other entry keeps what it holds and its
statistics, but for what the evaluation counts (R59, R60, R70, R91). -/
theorem replaceZone_fields (k : Fin 16) (z : Option Zone) (s : State) :
    (replaceZone k z s).zt.zones[k].held = z ∧ ZoneCounted k false 0 0 s (replaceZone k z s) ∧
      (∀ j : Fin 16, j ≠ k → (replaceZone k z s).zt.zones[j].held = s.zt.zones[j].held ∧ StatisticsKept j s (replaceZone k z s)) ∧
      (replaceZone k z s).mlu.inputs = s.mlu.inputs ∧ (replaceZone k z s).mlu.authority = s.mlu.authority := by
  obtain ⟨w, before, after⟩ := replaceZone_evaluates k z s
  have same := evaluateSlew_sameZones (forgetZone k w)
  have frame := forgetZone_frame k w
  have zones (j : Fin 16) : (forgetZone k w).zt.zones[j] = if j = k then { held := z } else s.zt.zones[j] := by
    rw [frame.zt rfl, before.zones, onZone_get]
  have held (j : Fin 16) : (replaceZone k z s).zt.zones[j].held = if j = k then z else s.zt.zones[j].held := by
    rw [after.zones, same.held, zones]
    split <;> rfl
  have counted (j : Fin 16) := evaluateSlew_statistics (forgetZone k w) j
  have cutSet : s.sl.cutSet = (forgetZone k w).sl.cutSet := by
    rw [forgetZone_sl, before.sl]
    rfl
  have marks (j : Fin 16) : (forgetZone k w).sl.marks[j] = if j = k then {} else s.sl.marks[j] := by
    rw [forgetZone_marks, before.sl]
    rfl
  refine ⟨by rw [held, if_pos rfl], ?_, fun j other => ⟨by rw [held, if_neg other], ?_⟩, ?_, ?_⟩
  · have c := counted k
    unfold StatisticsKept at c
    rw [zones, marks, if_pos rfl, if_pos rfl] at c
    exact c.congr cutSet after.zones after.sl
  · have c := counted j
    unfold StatisticsKept at c
    rw [zones, marks, if_neg other, if_neg other] at c
    exact c.congr cutSet after.zones after.sl
  · rw [after.inputs, same.inputs, frame.mlu rfl, before.inputs]
    rfl
  · rw [after.authority, same.authority, frame.mlu rfl, before.authority]
    rfl

/-- The store is marked when the record differs (R162). -/
theorem replaceZone_rs (k : Fin 16) (z : Option Zone) (s : State) :
    (replaceZone k z s).rs = if s.zt.zones[k].held.map Zone.record = z.map Zone.record then s.rs else Rs.mark s.rs := by
  refine (Frame.rs (b := { mlu := true, zt := true, sl := true, choices := true }) ?_ rfl).trans (entryReplaced_rs k z s)
  refine anyOrder_frame rfl _ _ fun f m u => ?_
  rcases mem_ite_append_singleton m with rfl | rfl
  · exact (settleUnanchored_frame u).mono rfl
  · exact ((forgetZone_frame k u).mono rfl).trans (evaluateSlew_frame _)

/-- An EMPTY entry without marks gives an evaluation nothing to count (R68, R80). -/
theorem evaluateSlew_empty {k : Fin 16} {s : State} (empty : s.zt.zones[k].held = none) (marks : s.sl.marks[k] = {}) :
    (evaluateSlew s).zt.zones[k] = s.zt.zones[k] := by
  have part : s.zt.zones[k].takingPart = none := by simp only [ZoneEntry.takingPart, empty]
  have held := (evaluateSlew_sameZones s).held k
  obtain ⟨intrusions, cuts⟩ := evaluateSlew_statistics s k
  have still : (evaluateSlew s).sl.marks[k].intrusion = false ∧ linesCut k s (evaluateSlew s) = 0 := by
    cases pose : s.sl.pose with
    | none =>
      rw [evaluateSlew_none pose, marks]
      have no (b : Bool) (q : Prop) : ¬(b = true ∧ b = false ∧ q) := by cases b <;> simp
      simp only [linesCut, no, if_false, and_self]
    | some p =>
      obtain ⟨unmarked, -, causes, -⟩ := evaluateSlew_settled pose
      obtain ⟨left, right, boomUp⟩ := causes k
      rw [evaluateSlew_takingPart, part] at boomUp
      have mark := unmarked k ((evaluateSlew_takingPart s k).trans part)
      rw [mark] at left right
      refine ⟨by rw [mark], ?_⟩
      have apart : k ∉ (evaluateSlew s).sl.causes.boomUp.zones := fun m => by
        obtain ⟨z, hz, -⟩ := boomUp.1 m
        cases hz
      simp [linesCut, left, right, apart]
  rw [still.1] at intrusions
  rw [still.2] at cuts
  generalize (evaluateSlew s).zt.zones[k] = e at *
  cases e
  simp only [Bool.false_eq_true, false_and, if_false, if_true] at intrusions cuts held
  rw [intrusions, cuts, held]

theorem replaceZone_cleared (k : Fin 16) (s : State) :
    (replaceZone k none s).zt.zones[k] = { held := none, intrusions := 0, cuts := 0 } := by
  obtain ⟨w, before, after⟩ := replaceZone_evaluates k none s
  have entry : (forgetZone k w).zt.zones[k] = { held := none } := by
    rw [(forgetZone_frame k w).zt rfl, before.zones, onZone_get, if_pos rfl]
  rw [after.zones, evaluateSlew_empty (by rw [entry]) (by rw [forgetZone_marks, if_pos rfl]), entry]

/-! ## The commands (R59 to R61) -/

/-- The entry is protected against the authority (R61). -/
def Protected (k : Fin 16) (s : State) : Prop :=
  s.mlu.authority ≠ .service ∧ ∃ z ∈ s.zt.zones[k].held, z.record.suspendLevel = .service ∨ z.record.suspendLevel = .never

theorem zoneProtected_iff (k : Fin 16) (s : State) : zoneProtected s.mlu.authority s.zt.zones[k] = true ↔ Protected k s := by
  unfold zoneProtected Protected
  cases s.zt.zones[k].held with
  | none => simp
  | some z => simp

/-- A command that replaces an entry is answered with the index and the state (R59, R60). -/
theorem interpret_replaced {kind tag : Byte} {body : List Byte} {level : Authority} {ok : List Byte → Bool} {owner : Owner} {k : Fin 16}
    {z : Option Zone} {s : State} (allowed : CommandAllowed kind tag body level s) (length : ok body = true)
    (e : owner body (takeFrame s) = (replaceZone k z (takeFrame s), zoneReply k (replaceZone k z (takeFrame s)))) :
    ∃ t, interpret kind level ok owner tag body s = .next t ∧
      AnswersWith (replyFrame kind tag .done (be 1 k.val ++ be 1 (zoneStateCode (z.map Zone.state)))) s t ∧
      t.zt.zones[k].held = z ∧ ZoneCounted k false 0 0 s t ∧ (z = none → t.zt.zones[k] = { held := none, intrusions := 0, cuts := 0 }) ∧
      (∀ j : Fin 16, j ≠ k → t.zt.zones[j].held = s.zt.zones[j].held ∧ StatisticsKept j s t) ∧
      t.rs = (if s.zt.zones[k].held.map Zone.record = z.map Zone.record then s.rs else Rs.mark s.rs) ∧
      t.mlu.inputs = s.mlu.inputs ∧ t.mlu.authority = s.mlu.authority ∧
      t = { s with mlu := t.mlu, zt := t.zt, sl := t.sl, rs := t.rs, lc := t.lc, choices := t.choices } := by
  obtain ⟨held, counted, others, inputs, authority⟩ := replaceZone_fields k z (takeFrame s)
  have frame := replaceZone_frame k z (takeFrame s)
  obtain ⟨ns, tells⟩ := replaceZone_telling k z (takeFrame s)
  have reply : zoneReply k (replaceZone k z (takeFrame s)) = answerDone (be 1 k.val ++ be 1 (zoneStateCode (z.map Zone.state))) := by
    rw [zoneReply, ZoneEntry.state?, held]
  rw [reply] at e
  obtain ⟨c, next, answers, -⟩ := interpret_tells allowed length e tells
  refine ⟨_, next, answers, held, counted.congr rfl rfl rfl, fun cleared => ?_, fun j other => ?_, replaceZone_rs k z (takeFrame s),
    inputs, authority, Touches.zoneWork ((takeFrame_touches _ s).trans (frame.touchesWithin rfl))⟩
  · subst cleared
    exact replaceZone_cleared k (takeFrame s)
  · exact ⟨(others j other).1, (others j other).2.congr rfl rfl rfl⟩

/-- The clearing of an entry, for ZONE CLEAR and for ZONE WRITE of kind EMPTY (R60). -/
theorem interpret_cleared {kind tag : Byte} {body : List Byte} {level : Authority} {ok : List Byte → Bool} {owner : Owner} {k : Fin 16}
    {s : State} (allowed : CommandAllowed kind tag body level s) (length : ok body = true)
    (e : owner body (takeFrame s) = clearCommand k (takeFrame s)) :
    (Protected k s → interpret kind level ok owner tag body s = .next { s with
      lc := answered s.lc (replyFrame kind tag .authority []) }) ∧
    (s.zt.zones[k].held = none → interpret kind level ok owner tag body s = .next { s with
      lc := answered s.lc (replyFrame kind tag .done (be 1 k.val ++ be 1 0)) }) ∧
    (¬Protected k s → s.zt.zones[k].held.isSome →
      ∃ t, interpret kind level ok owner tag body s = .next t ∧
        AnswersWith (replyFrame kind tag .done (be 1 k.val ++ be 1 0)) s t ∧
        t.zt.zones[k] = { held := none, intrusions := 0, cuts := 0 } ∧
        (∀ j : Fin 16, j ≠ k → t.zt.zones[j].held = s.zt.zones[j].held ∧ StatisticsKept j s t) ∧ t.rs = Rs.mark s.rs ∧
        t.mlu.inputs = s.mlu.inputs ∧ t.mlu.authority = s.mlu.authority ∧
        t = { s with mlu := t.mlu, zt := t.zt, sl := t.sl, rs := t.rs, lc := t.lc, choices := t.choices }) := by
  have guard := zoneProtected_iff k (takeFrame s)
  refine ⟨fun guarded => ?_, fun empty => ?_, fun free full => ?_⟩
  · rw [clearCommand, if_pos (guard.2 guarded)] at e
    exact (interpret_unmoved allowed length e).trans rfl
  · have free : ¬Protected k s := fun ⟨_, z, hz, _⟩ => by rw [empty] at hz; cases hz
    have reply : zoneReply k (takeFrame s) = answerDone (be 1 k.val ++ be 1 0) := by
      rw [zoneReply, ZoneEntry.state?, show (takeFrame s).zt.zones[k].held = none from empty]
      rfl
    rw [clearCommand, if_neg (mt guard.1 free), clearZone, show (takeFrame s).zt.zones[k].held = none from empty] at e
    exact (interpret_unmoved allowed length (e.trans (congrArg (Prod.mk _) reply))).trans rfl
  · obtain ⟨z, held⟩ := Option.isSome_iff_exists.1 full
    rw [clearCommand, if_neg (mt guard.1 free), clearZone, show (takeFrame s).zt.zones[k].held = some z from held] at e
    obtain ⟨t, next, answers, -, -, cleared, others, rs, inputs, authority, whole⟩ := interpret_replaced (z := none) allowed length e
    rw [held] at rs
    exact ⟨t, next, answers, cleared rfl, others, rs.trans (if_neg (by simp)), inputs, authority, whole⟩

theorem zoneWrite?_clears {body : List Byte} {k : Fin 16} (index : u8 body 0 = k.val) (empty : u8 body 1 = 0) :
    zoneWrite? body = some (k, none) := by
  simp only [zoneWrite?, index, index?_val, empty, if_true]

/-- ZONE WRITE of a record at its owner (R59, R61). -/
theorem zoneWriteOwner_record {body : List Byte} {k : Fin 16} {z : ZoneRecord} (fields : zoneWrite? body = some (k, some z))
    (s : State) : zoneWriteOwner body s =
      if zoneProtected s.mlu.authority s.zt.zones[k] then (s, answerRefused .authority)
      else if z.isSiteSector && travelActive s then (s, answerRefused .state)
      else (replaceZone k (some { record := z, state := writtenState z }) s,
        zoneReply k (replaceZone k (some { record := z, state := writtenState z }) s)) :=
  (withFields_some fields s).trans rfl

theorem siteTravel_iff (z : ZoneRecord) (s : State) : (z.isSiteSector && travelActive s) = true ↔
    z.anchor = .site ∧ z.extent ≠ 0 ∧ s.mlu.inputs.travel.level = true := by
  simp [ZoneRecord.isSiteSector, travelActive, and_assoc]

/-- Settles O36. -/
theorem zoneWriteAndClearReplaceEntry : Obligations.ZoneWriteAndClearReplaceEntry := by
  unfold Obligations.ZoneWriteAndClearReplaceEntry
  intro tag body k s
  refine ⟨fun z allowed length fields => ?_, fun allowed => ?_, fun allowed length index empty => ?_⟩
  · have guard := zoneProtected_iff k (takeFrame s)
    have travel := siteTravel_iff z (takeFrame s)
    have e := zoneWriteOwner_record fields (takeFrame s)
    refine ⟨fun guarded => ?_, fun free site sector moves => ?_, fun free rests => ?_⟩
    · rw [if_pos (guard.2 guarded)] at e
      exact (interpret_unmoved (owner := zoneWriteOwner) allowed length e).trans rfl
    · rw [if_neg (mt guard.1 free), if_pos (travel.2 ⟨site, sector, moves⟩)] at e
      exact (interpret_unmoved (owner := zoneWriteOwner) allowed length e).trans rfl
    · rw [if_neg (mt guard.1 free), if_neg (mt travel.1 rests)] at e
      obtain ⟨t, next, answers, held, counted, -, others, rs, rest⟩ := interpret_replaced (owner := zoneWriteOwner) allowed length e
      refine ⟨t, next, ?_, held, counted, others, rs, rest⟩
      have code : zoneStateCode (some (writtenState z)) = if z.armAtStart then 2 else 1 := by
        unfold writtenState
        split <;> rfl
      exact code ▸ answers
  · exact interpret_cleared (owner := zoneClearOwner) allowed rfl (withFields_some (zoneIndex?_body k) _)
  · exact interpret_cleared (owner := zoneWriteOwner) allowed length (withFields_some (zoneWrite?_clears index empty) _)

end Sys2Proof.Machine

/-! PROOFS. SLEW SETTINGS and REANCHOR (O38, O39). -/

namespace Sys2Proof.Machine

/-! ## SLEW SETTINGS (R76) -/

/-- The settings stored, and the store marked when one differs (R76, R162). -/
def settingsStored (new : SlewSettings) (s : State) : State :=
  if new != s.sl.settings then markRetained (onSl (fun sl => { sl with settings := new }) s)
  else onSl (fun sl => { sl with settings := new }) s

theorem settingsStored_eq (new : SlewSettings) (s : State) : settingsStored new s = { s with
    sl := { s.sl with settings := new }, rs := if new = s.sl.settings then s.rs else Rs.mark s.rs } := by
  unfold settingsStored
  by_cases same : new = s.sl.settings
  · rw [if_pos same, if_neg (by simp [same])]
    rfl
  · rw [if_neg same, if_pos (bne_iff_ne.2 same)]
    rfl

/-- An evaluation leaves of the Slew Limiter all but its findings (R77). -/
theorem evaluateSlew_sl (s : State) : (evaluateSlew s).sl = { s.sl with
    marks := (evaluateSlew s).sl.marks, state := (evaluateSlew s).sl.state, cutSet := (evaluateSlew s).sl.cutSet
    causes := (evaluateSlew s).sl.causes } := by
  cases pose : s.sl.pose with
  | none => rw [evaluateSlew_none pose]
  | some p => rw [evaluateSlew_some pose, evaluateOn_sl]

/-- A mark of an intrusion after an evaluation tells what it found (R90). -/
theorem evaluateSlew_intrusion {p : Pose} {s : State} (pose : s.sl.pose = some p) (k : Fin 16) :
    (evaluateSlew s).sl.marks[k].intrusion = (outcomesOn p s)[k].intruded := by
  rw [evaluateSlew_some pose, evaluateOn_sl, marksOf_get]

/-- An intrusion that begins is handed over (R72, R90). -/
theorem evaluateSlew_begins {p : Pose} {s : State} (pose : s.sl.pose = some p) {k : Fin 16} {z : Zone}
    (now : (evaluateSlew s).sl.marks[k].intrusion = true) (before : s.sl.marks[k].intrusion = false)
    (held : s.zt.zones[k].held = some z) : EvaluationHands s
      (.zoneEvent (.intrusion z.record.kind p.slewAngle p.reach p.height p.count) k (some z.state) s.lc.time) := by
  refine ⟨p, pose, .inl ⟨k, ?_⟩⟩
  rw [evaluateSlew_intrusion pose] at now
  rw [now, intrusionNotices, before, held, ZoneEntry.state?, held]
  exact List.mem_singleton_self _

/-- The cause of an intrusion's end (R90). -/
theorem intrusionEndCause_eq (p : Pose) (s : State) (k : Fin 16) : intrusionEndCause (slewInputs s.sl p) s.zt.zones[k] =
    if (s.zt.zones[k].held.map Zone.state) ≠ some .armed then .disarmed
    else if p.quality = .invalid ∨ s.sl.health ≠ .live ∨ p.slewValid = false then .unknown else .cleared := by
  have valid : (slewInputs s.sl p).valid = false ↔ s.sl.health ≠ .live ∨ p.slewValid = false := by
    simp [slewInputs, slewAngleValid, imp_iff_not_or]
  unfold intrusionEndCause ZoneEntry.state?
  simp only [valid]
  rfl

/-- An intrusion that ends is handed over with its cause (R72, R90). -/
theorem evaluateSlew_ends {p : Pose} {s : State} (pose : s.sl.pose = some p) {k : Fin 16}
    (now : (evaluateSlew s).sl.marks[k].intrusion = false) (before : s.sl.marks[k].intrusion = true) : EvaluationHands s
      (.zoneEvent (.intrusionEnd (
          if (s.zt.zones[k].held.map Zone.state) ≠ some .armed then .disarmed
          else if p.quality = .invalid ∨ s.sl.health ≠ .live ∨ p.slewValid = false then .unknown else .cleared) p.count)
        k (s.zt.zones[k].held.map Zone.state) s.lc.time) := by
  refine ⟨p, pose, .inl ⟨k, ?_⟩⟩
  rw [evaluateSlew_intrusion pose] at now
  rw [now, intrusionNotices, before, intrusionEndCause_eq]
  exact List.mem_singleton_self _

/-- A change of the slew state or of the cut set is handed over (R88). -/
theorem evaluateSlew_reports {p : Pose} {s : State} (pose : s.sl.pose = some p)
    (moved : (evaluateSlew s).sl.state ≠ s.sl.state ∨ (evaluateSlew s).sl.cutSet ≠ s.sl.cutSet) : EvaluationHands s
      (.slewState {
        previous := s.sl.state, new := (evaluateSlew s).sl.state, cutSet := (evaluateSlew s).sl.cutSet
        causes := (evaluateSlew s).sl.causes, lead := leadOf s.sl p, angle := p.slewAngle, rate := p.slewRate
        valid := decide (s.sl.health = .live ∧ p.slewValid = true), poseCount := p.count, stamp := s.lc.time }) := by
  refine ⟨p, pose, .inr ?_⟩
  rw [evaluateSlew_some pose, evaluateOn_sl] at moved ⊢
  have valid : slewAngleValid s.sl.health p = decide (s.sl.health = .live ∧ p.slewValid = true) := by
    rw [slewAngleValid, Bool.decide_and, Bool.decide_eq_true]
    rfl
  rw [slewStateNotices, if_neg (by tauto), List.mem_singleton, slewReport, ← valid]
  rfl

/-- No SLEW STATE is handed over while the slew state and the cut set stay (R88). -/
theorem evaluateSlew_quiet {s : State} (state : (evaluateSlew s).sl.state = s.sl.state)
    (cutSet : (evaluateSlew s).sl.cutSet = s.sl.cutSet) {n : Notice} (h : EvaluationHands s n) : noticeKind n ≠ 0x44 := by
  obtain ⟨p, pose, ⟨k, h⟩ | h⟩ := h
  · unfold intrusionNotices at h
    split_ifs at h
    · split at h <;> simp at h
      rw [h]
      simp [noticeKind]
    · simp at h
      rw [h]
      simp [noticeKind]
    · cases h
  · rw [evaluateSlew_some pose, evaluateOn_sl] at state cutSet
    rw [slewStateNotices, if_pos ⟨state, cutSet⟩] at h
    cases h

theorem slewSettingsOwner_eq {body : List Byte} {new : SlewSettings} (fields : slewSettings? body = some new) (s : State) :
    slewSettingsOwner body s = (evaluateSlew (settingsStored new s), answerDone (slewSettingsBytes new)) :=
  (withFields_some fields s).trans rfl

/-- Settles O39. -/
theorem slewSettingsStored : Obligations.SlewSettingsStored := by
  unfold Obligations.SlewSettingsStored
  intro tag body new s allowed length fields
  obtain ⟨v, hv⟩ : ∃ v, settingsStored new (takeFrame s) = v := ⟨_, rfl⟩
  have stored := hv.symm.trans (settingsStored_eq new (takeFrame s))
  have e := slewSettingsOwner_eq fields (takeFrame s)
  rw [hv] at e
  obtain ⟨ns, tells, few, mem⟩ := evaluateSlew_tells v
  have told : Tells ns (takeFrame s) (evaluateSlew v) := by
    refine tells.after (by rw [stored]) ?_
    rw [stored]
    split
    · exact .refl _
    · exact Rs.mark_sameRestart _
  obtain ⟨c, next, answers, handed⟩ := interpret_tells (owner := slewSettingsOwner) allowed (lengthIs_of length) e told
  have sl := evaluateSlew_sl v
  have zones := evaluateSlew_sameZones v
  have frame := evaluateSlew_frame v
  have vsl : v.sl = { s.sl with settings := new } := by rw [stored]; rfl
  have vzt : v.zt = s.zt := by rw [stored]; rfl
  have vmlu : v.mlu = s.mlu := by rw [stored]; rfl
  have vrs : v.rs = if new = s.sl.settings then s.rs else Rs.mark s.rs := by rw [stored]; rfl
  have touched : Touches { mlu := true, zt := true, sl := true, rs := true, choices := true } s v := by
    rw [stored]; constructor <;> simp [takeFrame]
  have kept : (evaluateSlew v).sl.settings = new ∧ (evaluateSlew v).sl.pose = s.sl.pose ∧ (evaluateSlew v).sl.health = s.sl.health ∧
      (evaluateSlew v).sl.turns = s.sl.turns ∧ (evaluateSlew v).sl.travel = s.sl.travel := by
    rw [sl, vsl]; exact ⟨rfl, rfl, rfl, rfl, rfl⟩
  obtain ⟨settings, pose', health, turns, travel⟩ := kept
  refine ⟨_, next, answers, settings, pose', health, turns, travel, (frame.rs rfl).trans vrs, fun k => ?_, ?_, ?_,
    Touches.zoneWork (touched.trans (frame.touchesWithin rfl)), fun idle => ?_, fun p pose => ?_⟩
  · rw [← vzt]; exact zones.held k
  · rw [← vmlu]; exact zones.inputs
  · rw [← vmlu]; exact zones.authority
  · rw [evaluateSlew_none (show v.sl.pose = none by rw [vsl]; exact idle)]
    exact ⟨vmlu, vzt, vsl⟩
  · have posed : v.sl.pose = some p := by rw [vsl]; exact pose
    have lead : leadOf (evaluateSlew v).sl p = leadOf v.sl p := by rw [sl]; rfl
    have vlead : leadOf v.sl p = leadOf (evaluateSlew v).sl p := lead.symm
    have called (z : ZoneRecord) (n : Nat) (d : Side) : CutCalled (evaluateSlew v).sl p z n d ↔ CutCalled v.sl p z n d := by
      rw [sl]; exact Iff.rfl
    have time : v.lc.time = s.lc.time := by rw [stored]; rfl
    have given (n : Notice) (h : EvaluationHands v n) (keeps : n.replacesItsKind = false) (room : s.lc.notices.length ≤ 15) :
        noticeHanded n c := handed.within ((mem n).2 h) few keeps (by norm_num) room
    refine ⟨evaluateSlew_settled posed, fun k z taking d => ?_, fun k => ⟨?_, fun room => ⟨fun now before z held => ?_, fun now before => ?_⟩⟩,
      fun moved room => ?_, fun state cutSet => ?_⟩
    · have marked := evaluateSlew_held posed (k := k) (z := z) (by rw [vzt]; exact taking) d
      rw [← called, vlead, CutKept, ← called, vlead] at marked
      rw [vsl] at marked
      cases d <;> exact marked
    · have counted := evaluateSlew_statistics v k
      unfold StatisticsKept at counted
      rw [vzt, vsl] at counted
      exact counted.congr (by rw [vsl]) rfl rfl
    · have begins := evaluateSlew_begins posed now (by rw [vsl]; exact before) (by rw [vzt]; exact held)
      rw [time] at begins
      exact given _ begins rfl room
    · have ends := evaluateSlew_ends posed now (by rw [vsl]; exact before)
      rw [time, vzt, vsl] at ends
      exact given _ ends rfl room
    · have reports := evaluateSlew_reports posed (by rw [vsl]; exact moved)
      rw [time, vlead, vsl] at reports
      exact given _ reports rfl room
    · refine handed.kind 0x44 fun n m => evaluateSlew_quiet ?_ ?_ ((mem n).1 m)
      · rw [vsl]; exact state
      · rw [vsl]; exact cutSet

end Sys2Proof.Machine

/-! PROOFS. REANCHOR (O38). -/

namespace Sys2Proof.Machine

/-! ## ZONE EVENT notices of several entries (R72) -/

/-- The ZONE EVENT notices of several entries, each with the state the entry has after the event, and no other notice (R72). -/
theorem zoneNotices_tells (event? : Fin 16 → Option ZoneEvent) (s : State) :
    ∃ ns, Tells ns s (zoneNotices event? s) ∧ ns.length ≤ 16 ∧
      ∀ n, n ∈ ns ↔ ∃ k e, event? k = some e ∧ n = .zoneEvent e k s.zt.zones[k].state? s.now := by
  obtain ⟨keys, hkeys⟩ : ∃ keys, (List.finRange 16).filterMap (fun k => (event? k).map fun e => (k, e)) = keys := ⟨_, rfl⟩
  have actions : zoneNotices event? s = anyOrder (keys.map fun a s => queueNotice (.zoneEvent a.2 a.1 s.zt.zones[a.1].state? s.now) s) s := by
    rw [← hkeys, List.map_filterMap]
    simp only [Option.map_map]
    rfl
  obtain ⟨order, perm, tells⟩ := anyOrder_tells (P := fun u => u.zt = s.zt ∧ u.lc.time = s.lc.time) (fun u n h => h) keys
    (fun a s => queueNotice (.zoneEvent a.2 a.1 s.zt.zones[a.1].state? s.now) s)
    (fun a => [.zoneEvent a.2 a.1 s.zt.zones[a.1].state? s.now])
    (fun a _ u ⟨zt, time⟩ => by
      have frame := queueNotice_frame (.zoneEvent a.2 a.1 u.zt.zones[a.1].state? u.now) u
      refine ⟨?_, (frame.zt rfl).trans zt, frame.lc.time.trans time⟩
      have same : u.now = s.now := time
      rw [zt, same]
      exact queueNotice_tells _ u) ⟨rfl, rfl⟩
  rw [← actions] at tells
  refine ⟨_, tells, ?_, fun n => ?_⟩
  · refine (flatMap_length_le order fun a => le_rfl).trans ?_
    rw [perm.length_eq, ← hkeys]
    exact (List.length_filterMap_le _ _).trans (by simp)
  · simp only [List.mem_flatMap, perm.mem_iff, ← hkeys, List.mem_filterMap, List.mem_finRange, true_and, Option.map_eq_some_iff,
      List.mem_singleton]
    constructor
    · rintro ⟨a, ⟨k, e, given, rfl⟩, rfl⟩
      exact ⟨k, e, given, rfl⟩
    · rintro ⟨k, e, given, rfl⟩
      exact ⟨(k, e), ⟨k, e, given, rfl⟩, rfl⟩

/-- A notice of the kinds that an evaluation hands over (R88, R90). -/
def ofEvaluation : Notice → Bool
  | .zoneEvent (.intrusion ..) .. | .zoneEvent (.intrusionEnd ..) .. | .slewState .. => true
  | _ => false

theorem EvaluationHands.ofEvaluation {s : State} {n : Notice} (h : EvaluationHands s n) : ofEvaluation n = true := by
  obtain ⟨p, -, ⟨k, h⟩ | h⟩ := h
  · unfold intrusionNotices at h
    split_ifs at h
    · split at h
      · cases h
      · rw [List.mem_singleton.1 h]
        rfl
    · rw [List.mem_singleton.1 h]
      rfl
    · cases h
  · unfold slewStateNotices at h
    split_ifs at h
    · cases h
    · rw [List.mem_singleton.1 h]
      rfl

/-! ## The entries changed together, their notices, and the evaluation (R64 to R68) -/

/-- Entries changed together with their statistics kept: what they hold, and their statistics but for what the evaluation counts. -/
theorem zonesMapped_evaluated {f : ZoneEntry → ZoneEntry} (kept : ∀ e, (f e).intrusions = e.intrusions ∧ (f e).cuts = e.cuts)
    {s u : State} (zones : u.zt.zones = s.zt.zones.map f) (sl : u.sl = s.sl) (k : Fin 16) :
    (evaluateSlew u).zt.zones[k].held = (f s.zt.zones[k]).held ∧ StatisticsKept k s (evaluateSlew u) := by
  have entry : u.zt.zones[k] = f s.zt.zones[k] := by rw [zones]; simp
  have counted := evaluateSlew_statistics u k
  unfold StatisticsKept at counted
  rw [entry, (kept _).1, (kept _).2, sl] at counted
  exact ⟨by rw [(evaluateSlew_sameZones u).held, entry], counted.congr (by rw [sl]) rfl rfl⟩

/-- They hand over the ZONE EVENT notices of the change, and then what the evaluation gives. -/
theorem zonesMapped_tells {f : ZoneEntry → ZoneEntry} {event? : Fin 16 → Option ZoneEvent} {s v u : State}
    (zones : v.zt.zones = s.zt.zones.map f) (lc : v.lc = s.lc) (rs : SameRestart v.rs s.rs) (then' : Tells [] (zoneNotices event? v) u) :
    ∃ ns ms, Tells (ns ++ ms) s (evaluateSlew u) ∧ ns.length ≤ 16 ∧ ms.length ≤ 17 ∧
      (∀ n, n ∈ ns ↔ ∃ k e, event? k = some e ∧ n = .zoneEvent e k (f s.zt.zones[k]).state? s.lc.time) ∧
      ∀ n ∈ ms, ofEvaluation n = true := by
  obtain ⟨ns, tells, few, mem⟩ := zoneNotices_tells event? v
  obtain ⟨ms, evaluation, few', mem'⟩ := evaluateSlew_tells u
  have entry (k : Fin 16) : v.zt.zones[k] = f s.zt.zones[k] := by rw [zones]; simp
  have time : v.now = s.lc.time := congrArg Lc.time lc
  refine ⟨ns, ms, ?_, few, few', fun n => ?_, fun n m => ((mem' n).1 m).ofEvaluation⟩
  · have all := (tells.trans then').trans evaluation
    rw [List.append_nil] at all
    exact all.after lc rs
  · simp only [mem, entry, time]

/-! ## REANCHOR (R66, R67) -/

theorem reanchored_statistics (a : Authority) (d : Angle) (e : ZoneEntry) :
    (ZoneEntry.reanchored a d e).intrusions = e.intrusions ∧ (ZoneEntry.reanchored a d e).cuts = e.cuts := by
  unfold ZoneEntry.reanchored
  split
  · exact ⟨rfl, rfl⟩
  · split <;> exact ⟨rfl, rfl⟩

/-- An entry's zone after REANCHOR: an UNANCHORED one turned and in its prior state, a SUSPENDED one only at or below the authority. -/
theorem reanchored_held (a : Authority) (d : Angle) (e : ZoneEntry) : (ZoneEntry.reanchored a d e).held = e.held.map fun z =>
    match z.state with
    | .unanchored p =>
      { record := { z.record with start := z.record.start + d }
        state := match p with
          | .dormant => .dormant
          | .armed => .armed
          | .suspended => if z.record.suspendLevel.rank ≤ a.rank then .suspended else .armed }
    | _ => z := by
  unfold ZoneEntry.reanchored
  cases held : e.held with
  | none => exact held
  | some z =>
    simp only [Option.map_some]
    cases state : z.state with
    | unanchored p =>
      have level : reanchoredState a z.record.suspendLevel .suspended =
          if z.record.suspendLevel.rank ≤ a.rank then .suspended else .armed := by
        unfold reanchoredState
        split_ifs <;> first | rfl | omega
      cases p
      · rfl
      · rfl
      · simp only [level]
    | _ => exact held

theorem reanchored_anchored (a : Authority) (d : Angle) (e : ZoneEntry) :
    ZoneEntry.isUnanchored (ZoneEntry.reanchored a d e) = false := by
  unfold ZoneEntry.isUnanchored ZoneEntry.state?
  rw [reanchored_held]
  cases e.held with
  | none => rfl
  | some z =>
    simp only [Option.map_some]
    cases state : z.state with
    | unanchored p =>
      cases p with
      | suspended => by_cases low : z.record.suspendLevel.rank ≤ a.rank <;> simp [low]
      | _ => rfl
    | _ => simp [state]

theorem reanchorArms_iff (a : Authority) (e : ZoneEntry) : reanchorArms a e = true ↔
    ∃ z ∈ e.held, z.state = .unanchored .suspended ∧ a.rank < z.record.suspendLevel.rank := by
  unfold reanchorArms
  cases e.held with
  | none => simp
  | some z => simp

/-- A zone that REANCHOR arms against its prior state is ARMED. -/
theorem reanchored_arms {a : Authority} {d : Angle} {e : ZoneEntry} (h : reanchorArms a e = true) :
    (ZoneEntry.reanchored a d e).state? = some .armed := by
  obtain ⟨z, held, state, low⟩ := (reanchorArms_iff a e).1 h
  rw [ZoneEntry.state?, reanchored_held, held]
  simp [state, Nat.not_le.2 low]

/-- With no entry UNANCHORED a REANCHOR would change none (R66). -/
theorem reanchored_of_none {a : Authority} {d : Angle} {e : ZoneEntry} (h : ZoneEntry.isUnanchored e = false) :
    ZoneEntry.reanchored a d e = e := by
  unfold ZoneEntry.reanchored
  unfold ZoneEntry.isUnanchored ZoneEntry.state? at h
  cases held : e.held with
  | none => rfl
  | some z =>
    rw [held] at h
    simp only [Option.map_some] at h
    cases state : z.state with
    | unanchored p => rw [state] at h; cases h
    | _ => simp only [state]

theorem unanchoredCount_zero {zones : Vector ZoneEntry 16} : unanchoredCount zones = 0 ↔
    ∀ k : Fin 16, ZoneEntry.isUnanchored zones[k] = false := by
  unfold unanchoredCount
  rw [List.countP_eq_zero]
  constructor
  · intro h k
    exact Bool.not_eq_true _ ▸ h _ (Vector.mem_toList_iff.2 (Vector.getElem_mem k.isLt))
  · intro h e m
    obtain ⟨i, hi, rfl⟩ := Vector.mem_iff_getElem.1 (Vector.mem_toList_iff.1 m)
    exact Bool.not_eq_true _ ▸ h ⟨i, hi⟩

/-- The entries re-anchored together, and the store marked when a start angle changed (R66, R162). -/
def zonesTurned (d : Angle) (s : State) : State :=
  let t := { s with zt := { s.zt with zones := s.zt.zones.map (ZoneEntry.reanchored s.mlu.authority d) } }
  if d = 0 then t else markRetained t

theorem zonesTurned_eq (d : Angle) (s : State) : zonesTurned d s = { s with
    zt := { s.zt with zones := s.zt.zones.map (ZoneEntry.reanchored s.mlu.authority d) }
    rs := if d = 0 then s.rs else Rs.mark s.rs } := by
  unfold zonesTurned
  split_ifs <;> rfl

theorem reanchorZones_eq (d : Angle) (s : State) : reanchorZones d s = evaluateSlew (settleUnanchored (zoneNotices
    (fun k => if reanchorArms s.mlu.authority s.zt.zones[k] then some (.reArmed .reanchor) else none) (zonesTurned d s))) := rfl

theorem settleUnanchored_tells (s : State) : Tells [] s (settleUnanchored s) := by
  unfold settleUnanchored
  simp only []
  split <;> exact .silent rfl (.refl _)

theorem settleUnanchored_count (s : State) : (settleUnanchored s).zt.unanchored = unanchoredCount s.zt.zones := by
  unfold settleUnanchored
  simp only []
  split <;> rfl

/-- What REANCHOR leaves of the zones, the count, the store and the inputs (R66 to R69). -/
theorem reanchorZones_fields (d : Angle) (s : State) :
    (∀ k : Fin 16, (reanchorZones d s).zt.zones[k].held = (ZoneEntry.reanchored s.mlu.authority d s.zt.zones[k]).held ∧
      StatisticsKept k s (reanchorZones d s)) ∧
    (reanchorZones d s).zt.unanchored = 0 ∧ (reanchorZones d s).rs = (if d = 0 then s.rs else Rs.mark s.rs) ∧
    (reanchorZones d s).mlu.inputs = s.mlu.inputs ∧ (reanchorZones d s).mlu.authority = s.mlu.authority := by
  rw [reanchorZones_eq]
  generalize hv : zonesTurned d s = v
  replace hv := hv.symm.trans (zonesTurned_eq d s)
  generalize hu : zoneNotices _ v = u
  have notices : Frame { choices := true } v u := hu ▸ zoneNotices_frame _ v
  have entries := settleUnanchored_entries u
  have same := evaluateSlew_sameZones (settleUnanchored u)
  have zones : u.zt.zones = s.zt.zones.map (ZoneEntry.reanchored s.mlu.authority d) := by rw [notices.zt rfl, hv]
  refine ⟨zonesMapped_evaluated (reanchored_statistics _ d) (entries.zones.trans zones) ?_, ?_, ?_, ?_, ?_⟩
  · rw [entries.sl, notices.sl rfl, hv]
  · rw [same.unanchored, settleUnanchored_count, zones, unanchoredCount_zero]
    intro k
    simp [reanchored_anchored]
  · rw [(evaluateSlew_frame _).rs rfl, (settleUnanchored_frame u).rs rfl, notices.rs rfl, hv]
  · rw [same.inputs, entries.inputs, notices.mlu rfl, hv]
  · rw [same.authority, entries.authority, notices.mlu rfl, hv]

/-- What REANCHOR hands over: RE_ARMED of the zones it arms against their prior state, and what the evaluation gives (R67, R72). -/
theorem reanchorZones_tells (d : Angle) (s : State) : ∃ ns ms, Tells (ns ++ ms) s (reanchorZones d s) ∧ ns.length ≤ 16 ∧
    (∀ n, n ∈ ns ↔ ∃ k, reanchorArms s.mlu.authority s.zt.zones[k] = true ∧
      n = .zoneEvent (.reArmed .reanchor) k (some .armed) s.lc.time) ∧
    ∀ n ∈ ms, ofEvaluation n = true := by
  have lc : (zonesTurned d s).lc = s.lc := by rw [zonesTurned_eq]
  have rs : SameRestart (zonesTurned d s).rs s.rs := by
    rw [zonesTurned_eq]
    simp only []
    split
    · exact .refl _
    · exact Rs.mark_sameRestart _
  have zones : (zonesTurned d s).zt.zones = s.zt.zones.map (ZoneEntry.reanchored s.mlu.authority d) := by rw [zonesTurned_eq]
  obtain ⟨ns, ms, tells, few, -, mem, evaluation⟩ := zonesMapped_tells
    (event? := fun k => if reanchorArms s.mlu.authority s.zt.zones[k] then some (.reArmed .reanchor) else none)
    zones lc rs (settleUnanchored_tells _)
  refine ⟨ns, ms, tells, few, fun n => (mem n).trans ⟨?_, ?_⟩, evaluation⟩
  · rintro ⟨k, e, given, rfl⟩
    split at given
    · next arms =>
      cases given
      exact ⟨k, arms, by rw [reanchored_arms arms]⟩
    · cases given
  · rintro ⟨k, arms, rfl⟩
    exact ⟨k, _, if_pos arms, by rw [reanchored_arms arms]⟩

/-- What a REANCHOR leaves that is not refused (R66). -/
def reanchored (d : Angle) (s : State) : State := if unanchoredCount s.zt.zones = 0 then s else reanchorZones d s

theorem reanchored_fields (d : Angle) (s : State) :
    (∀ k : Fin 16, (reanchored d s).zt.zones[k].held = (ZoneEntry.reanchored s.mlu.authority d s.zt.zones[k]).held ∧
      StatisticsKept k s (reanchored d s)) ∧
    (0 < unanchoredCount s.zt.zones → (reanchored d s).zt.unanchored = 0) ∧
    (reanchored d s).rs = (if unanchoredCount s.zt.zones = 0 ∨ d = 0 then s.rs else Rs.mark s.rs) ∧
    (reanchored d s).mlu.inputs = s.mlu.inputs ∧ (reanchored d s).mlu.authority = s.mlu.authority := by
  unfold reanchored
  split_ifs with all
  · refine ⟨fun k => ⟨?_, .refl k s⟩, fun some => absurd all some.ne', by rw [if_pos (.inl all)], rfl, rfl⟩
    rw [reanchored_of_none (unanchoredCount_zero.1 all k)]
  · obtain ⟨zones, count, rs, inputs⟩ := reanchorZones_fields d s
    refine ⟨zones, fun _ => count, ?_, inputs⟩
    rw [rs]
    simp only [all, false_or]

theorem reanchored_tells (d : Angle) (s : State) : ∃ ns ms, Tells (ns ++ ms) s (reanchored d s) ∧ ns.length ≤ 16 ∧
    (∀ n, n ∈ ns ↔ ∃ k, reanchorArms s.mlu.authority s.zt.zones[k] = true ∧
      n = .zoneEvent (.reArmed .reanchor) k (some .armed) s.lc.time) ∧
    ∀ n ∈ ms, ofEvaluation n = true := by
  unfold reanchored
  split_ifs with all
  · refine ⟨[], [], .silent rfl (.refl _), by simp, fun n => ⟨fun m => absurd m List.not_mem_nil, ?_⟩,
      fun n m => absurd m List.not_mem_nil⟩
    rintro ⟨k, arms, -⟩
    obtain ⟨z, held, state, -⟩ := (reanchorArms_iff _ _).1 arms
    have anchored := unanchoredCount_zero.1 all k
    rw [ZoneEntry.isUnanchored, ZoneEntry.state?, held, Option.map_some, state] at anchored
    cases anchored
  · exact reanchorZones_tells d s

theorem reanchored_touches (d : Angle) (s : State) :
    Touches { mlu := true, zt := true, sl := true, rs := true, choices := true } s (reanchored d s) := by
  unfold reanchored
  split
  · exact .refl _ s
  · exact (reanchorZones_frame d s).touchesWithin rfl

/-- REANCHOR at its owner (R66). -/
theorem reanchorOwner_moving {s : State} (body : List Byte) (travel : s.mlu.inputs.travel.level = true) :
    reanchorOwner body s = (s, answerRefused .state) := if_pos travel

theorem reanchorOwner_still {s : State} (hi lo : Byte) (travel : s.mlu.inputs.travel.level = false) :
    reanchorOwner [hi, lo] s = (reanchored (BitVec.ofNat 16 (hi.toNat * 256 + lo.toNat)) s,
      answerDone (be 2 (BitVec.ofNat 16 (hi.toNat * 256 + lo.toNat)).toNat ++ be 1 (unanchoredCount s.zt.zones))) := by
  unfold reanchorOwner travelActive
  rw [travel]
  rfl

/-- Settles O38. -/
theorem reanchorRestoresZones : Obligations.ReanchorRestoresZones := by
  unfold Obligations.ReanchorRestoresZones
  intro tag hi lo s allowed delta count
  refine ⟨fun travel => ?_, fun travel => ?_⟩
  · exact (interpret_unmoved (owner := reanchorOwner) allowed rfl (reanchorOwner_moving _ travel)).trans rfl
  · have e := reanchorOwner_still (s := takeFrame s) hi lo travel
    obtain ⟨ns, ms, tells, few, mem, evaluation⟩ := reanchored_tells delta (takeFrame s)
    obtain ⟨zones, counted, rs, inputs, authority⟩ := reanchored_fields delta (takeFrame s)
    obtain ⟨c, next, answers, handed⟩ := interpret_tells (owner := reanchorOwner) (ok := lengthIs 2) allowed rfl e tells
    refine ⟨_, next, answers, fun k => (zones k).1.trans (reanchored_held _ _ _), ⟨fun room k z held arms => ?_, fun k state time given => ?_⟩,
      counted, fun k => (zones k).2.congr rfl rfl rfl, rs, inputs, authority,
      Touches.zoneWork ((takeFrame_touches _ s).trans (reanchored_touches delta (takeFrame s)))⟩
    · exact handed.first ((mem _).2 ⟨k, (reanchorArms_iff _ _).2 ⟨z, held, arms⟩, rfl⟩) few rfl (by norm_num) room
    · refine (handed.only _ given).imp id fun m => ?_
      rcases List.mem_append.1 m with m | m
      · obtain ⟨j, arms, same⟩ := (mem _).1 m
        cases same
        exact ⟨rfl, (reanchorArms_iff _ _).1 arms⟩
      · exact absurd (evaluation _ m) (by simp [ofEvaluation])

end Sys2Proof.Machine

/-! PROOFS. ENGINE REPORT (O48): the count of a service item above its saturation value falls at an increment, so the cap may rise and
fall back within one report, with its advice handed over. -/

namespace Sys2Proof.Machine

/-! ## One free order for all actions that read no free choice -/

/-- Which of some sequences comes next depends on the place in the run of free choices alone, for actions that read none. -/
theorem runInterleaved_order {α : Type} (n c : Nat) (qs : List (List α)) (h : (qs.map List.length).sum ≤ n) :
    ∃ l : List α, l.Perm qs.flatten ∧ ∀ f : α → State → State, (∀ a u, (f a u).choices = u.choices) → ∀ s, s.choices = c →
      Runs (l.map f) s (runInterleaved n (qs.map (List.map f)) s) := by
  induction n generalizing c qs with
  | zero =>
    have empty : ∀ q ∈ qs, q = [] := fun q m =>
      List.length_eq_zero_iff.1 (Nat.le_zero.1 ((List.single_le_sum (by simp) _ (List.mem_map_of_mem m)).trans h))
    exact ⟨[], by rw [List.flatten_eq_nil_iff.2 empty], fun f _ s _ => ⟨s.choices, rfl⟩⟩
  | succ n ih =>
    have flat : (qs.filter fun q => !q.isEmpty).flatten = qs.flatten := List.flatten_filter_not_isEmpty
    have full : ∀ q ∈ qs.filter (fun q => !q.isEmpty), q ≠ [] := fun q m e => by
      have := (List.mem_filter.1 m).2
      simp [e] at this
    have total : ((qs.filter fun q => !q.isEmpty).map List.length).sum ≤ n + 1 := by
      rw [← List.length_flatten, flat, List.length_flatten]; exact h
    have mapped (f : α → State → State) : (qs.map (List.map f)).filter (fun q => !q.isEmpty) =
        (qs.filter fun q => !q.isEmpty).map (List.map f) := by
      rw [List.filter_map]
      congr 2
      funext q
      simp
    rw [← flat]
    simp only [runInterleaved, mapped]
    generalize (qs.filter fun q => !q.isEmpty) = live at *
    match live, full, total with
    | [], _, _ => exact ⟨[], .refl _, fun f _ s _ => ⟨s.choices, rfl⟩⟩
    | [q], _, _ =>
      refine ⟨q, by simp, fun f _ s _ => ?_⟩
      exact runs_foldl (q.map f) s
    | q :: r :: rest, full, total =>
      generalize hL : q :: r :: rest = live at full total
      have some' : 0 < live.length := by rw [← hL]; simp
      obtain ⟨k, hk⟩ : ∃ k, Config.freeChoice c % live.length = k := ⟨_, rfl⟩
      have hlt : k < live.length := hk ▸ Nat.mod_lt _ some'
      obtain ⟨a, tl, at'⟩ := List.exists_cons_of_ne_nil (full _ (List.getElem_mem hlt))
      have perm := flatten_perm_cons_set hlt at'
      have less : ((live.set k tl).map List.length).sum ≤ n := by
        have := perm.length_eq
        rw [List.length_cons] at this
        rw [← List.length_flatten] at total ⊢
        omega
      obtain ⟨l, lperm, runs⟩ := ih (c + 1) (live.set k tl) less
      refine ⟨a :: l, (lperm.cons a).trans perm.symm, fun f keep s hs => ⟨s.choices + 1, ?_⟩⟩
      have chosen : (live.map (List.map f)).getD k [] = f a :: tl.map f := by
        rw [List.getD_eq_getElem _ _ (by simpa using hlt), List.getElem_map, at', List.map_cons]
      have next := runs f keep (f a { s with choices := s.choices + 1 }) ((keep a _).trans (congrArg (· + 1) hs))
      rw [List.map_set] at next
      subst hL
      rw [hs] at next ⊢
      simp only [List.map_cons, List.length_cons, List.length_map] at chosen hk next ⊢
      rw [hk, chosen]
      exact next

/-- Actions that read no free choice run in an order that the place in the run of free choices fixes. -/
theorem anyOrder_order {α : Type} (l : List α) (c : Nat) : ∃ l' : List α, l'.Perm l ∧ ∀ f : α → State → State,
    (∀ a u, (f a u).choices = u.choices) → ∀ s, s.choices = c → Runs (l'.map f) s (anyOrder (l.map f) s) := by
  obtain ⟨l', perm, runs⟩ := runInterleaved_order ((l.map fun a => [a]).map List.length).sum c (l.map fun a => [a]) le_rfl
  refine ⟨l', ?_, fun f keep s hs => ?_⟩
  · rwa [← List.flatMap_def, List.flatMap_singleton'] at perm
  · have run := runs f keep s hs
    have single : (l.map fun a => [a]).map (List.map f) = (l.map f).map fun f => [f] := by simp
    have lengths : ((l.map fun a => [a]).map List.length).sum = (((l.map f).map fun f => [f]).map List.length).sum := by
      simp only [List.map_map, Function.comp_def, List.length_singleton]
    rwa [single, lengths] at run

/-! ## Deliveries that read no free choice (R133, R134, R152) -/

/-- Two states that differ in the place in the run of free choices at most. -/
def SameButChoices (s t : State) : Prop := ∃ n, t = { s with choices := n }

theorem Runs.append {l l' : List (State → State)} {s t : State} (h : Runs (l ++ l') s t) : ∃ u, Runs l s u ∧ Runs l' u t := by
  induction l generalizing s with
  | nil => exact ⟨s, ⟨s.choices, rfl⟩, h⟩
  | cons f l ih =>
    obtain ⟨n, h⟩ := h
    obtain ⟨u, first, last⟩ := ih h
    exact ⟨u, ⟨n, first⟩, last⟩

theorem incrementEntry_choices (b : Basis) (n : Nat) (i : Fin 24) (s : State) (m : Nat) :
    incrementEntry b n i { s with choices := m } = { incrementEntry b n i s with choices := m } := by
  unfold incrementEntry
  cases s.st.entries[i] with
  | none => rfl
  | some e =>
    simp only []
    split
    · split <;> rfl
    · rfl

theorem settleAdvice_choices (s : State) (m : Nat) :
    settleAdvice { s with choices := m } = { settleAdvice s with choices := m } := by
  unfold settleAdvice
  simp only []
  split <;> rfl

theorem settleCap_choices (s : State) (m : Nat) : settleCap { s with choices := m } = { settleCap s with choices := m } := by
  have settled (cap : Nat) : takeCap cap { s with st := { s.st with reportedCap := cap }, choices := m } =
      { takeCap cap { s with st := { s.st with reportedCap := cap } } with choices := m } :=
    settleAdvice_choices (onEm (fun em => { em with cap := cap }) { s with st := { s.st with reportedCap := cap } }) m
  unfold settleCap
  simp only [settled]
  split <;> rfl

theorem incrementEntries_choices (b : Basis) (n : Nat) (l : List (Fin 24)) (s : State) (m : Nat) :
    l.foldl (fun s i => incrementEntry b n i s) { s with choices := m } =
      { l.foldl (fun s i => incrementEntry b n i s) s with choices := m } := by
  induction l generalizing s with
  | nil => rfl
  | cons i l ih => rw [List.foldl_cons, incrementEntry_choices, ih, List.foldl_cons]

theorem takeIncrement_choices (b : Basis) (n : Nat) (s : State) (m : Nat) :
    takeIncrement b n { s with choices := m } = { takeIncrement b n s with choices := m } := by
  unfold takeIncrement
  simp only [incrementEntries_choices]
  generalize (List.finRange 24).foldl _ s = x
  split
  · rfl
  · split
    · exact settleCap_choices (markRetained _) m
    · exact settleCap_choices _ m

/-- The deliveries of a report: of millilitres to the open load, and of an amount to each basis (R133, R134). -/
def deliver (ml : Nat) (amount : Basis → Nat) : Option Basis → State → State
  | none => chargeFuel ml
  | some b => takeIncrement b (amount b)

theorem deliver_some (ml : Nat) (amount : Basis → Nat) (b : Basis) (s : State) :
    deliver ml amount (some b) s = takeIncrement b (amount b) s := rfl

theorem deliver_choices (ml : Nat) (amount : Basis → Nat) (k : Option Basis) (s : State) :
    (deliver ml amount k s).choices = s.choices := by
  cases k with
  | none => exact (chargeFuel_frame ml s).choices rfl
  | some b => exact (takeIncrement_frame b _ s).choices rfl

/-- With no open load, and no amount for a basis, the delivery there leaves the state. -/
theorem deliver_idle {ml : Nat} {amount : Basis → Nat} {k : Option Basis} {s : State} (load : s.lr.openLoad = none)
    (none' : ∀ b ∈ k, amount b = 0) : deliver ml amount k s = s := by
  cases k with
  | none => simp only [deliver, chargeFuel, load]
  | some b => simp only [deliver, takeIncrement, none' b rfl, if_true]

theorem idle_runs {ml : Nat} {amount : Basis → Nat} {l : List (Option Basis)} {s t : State} (load : s.lr.openLoad = none)
    (none' : ∀ k ∈ l, ∀ b ∈ k, amount b = 0) (h : Runs (l.map (deliver ml amount)) s t) : SameButChoices s t := by
  refine h.keeps (P := SameButChoices s) ?_ (fun f m u hu => ?_) ⟨s.choices, rfl⟩
  · rintro _ n ⟨m, rfl⟩
    exact ⟨n, rfl⟩
  · obtain ⟨k, mk, rfl⟩ := List.mem_map.1 m
    obtain ⟨n, rfl⟩ := hu
    exact ⟨n, deliver_idle (s := { s with choices := n }) load (none' k mk)⟩

/-- Of two amounts the one is delivered before the other; nothing else is. -/
theorem two_run {ml : Nat} {amount : Basis → Nat} {a b : Basis} {pre mid post : List (Option Basis)} {s t : State}
    (load : s.lr.openLoad = none) (idle : ∀ k ∈ pre ++ mid ++ post, ∀ b ∈ k, amount b = 0)
    (h : Runs ((pre ++ some a :: (mid ++ some b :: post)).map (deliver ml amount)) s t) :
    SameButChoices (takeIncrement b (amount b) (takeIncrement a (amount a) s)) t := by
  simp only [List.mem_append] at idle
  rw [List.map_append] at h
  obtain ⟨u, first, ⟨n, h⟩⟩ := h.append
  obtain ⟨m, rfl⟩ := idle_runs load (fun k mk => idle k (.inl (.inl mk))) first
  rw [List.map_append] at h
  obtain ⟨v, second, ⟨n', h⟩⟩ := h.append
  have after : deliver ml amount (some a) { s with choices := n } = { takeIncrement a (amount a) s with choices := n } := by
    rw [deliver_some, takeIncrement_choices]
  have load' : (takeIncrement a (amount a) s).lr.openLoad = none := by rw [(takeIncrement_frame a _ s).lr rfl]; exact load
  obtain ⟨m', rfl⟩ := idle_runs (s := deliver ml amount (some a) { s with choices := n })
    (by rw [after]; exact load') (fun k mk => idle k (.inl (.inr mk))) second
  have last : deliver ml amount (some b) { deliver ml amount (some a) { s with choices := n } with choices := n' } =
      { takeIncrement b (amount b) (takeIncrement a (amount a) s) with choices := n' } := by
    rw [after, deliver_some]
    exact takeIncrement_choices b (amount b) (takeIncrement a (amount a) s) n'
  have load'' : (takeIncrement b (amount b) (takeIncrement a (amount a) s)).lr.openLoad = none := by
    rw [(takeIncrement_frame b _ _).lr rfl]; exact load'
  obtain ⟨m'', rfl⟩ := idle_runs (s := deliver ml amount (some b) { deliver ml amount (some a) { s with choices := n } with choices := n' })
    (by rw [last]; exact load'') (fun k mk => idle k (.inr mk)) h
  exact ⟨m'', by rw [last]⟩

/-- The amounts that a report over an interval delivers (R133, R134). -/
def reportAmount (em : Em) (c : EngineCopy) (dt : Nat) : Basis → Nat
  | .fuelLitres => fuelAfter em c dt / 36000
  | .engineHours => if c.report.running then secondsDone em dt else 0
  | .weightedHours => if c.report.running then weightedDone em c dt else 0
  | .slewTurns | .passes | .tonnes => 0

/-- The integration of an interval in the Economy Manager (R133, R134). -/
def integratedEm (em : Em) (c : EngineCopy) (interval : Nat) : Em :=
  if c.report.running then Em.integrateTime c (min interval 1000) (Em.integrateFuel c interval em)
  else Em.integrateFuel c interval em

/-- A report integrates its interval and then delivers its amounts in a free order (R133, R134). -/
theorem integrateReport_eq {s : State} {c : EngineCopy} (copy : s.em.copy = some c) : integrateReport s =
    let dt := min (reportInterval s c) 1000
    let em := integratedEm s.em c (reportInterval s c)
    anyOrder ([none, some .fuelLitres, some .engineHours, some .weightedHours].map
        (deliver (fuelAfter s.em c dt / 36000) (reportAmount s.em c dt)))
      (if Em.countsDiffer s.em em then markRetained { s with em := em } else { s with em := em }) := by
  unfold integrateReport
  rw [copy]
  rfl

/-- In an order of all four deliveries the one of fuel comes before the one of engine hours or after it. -/
theorem fuelAndHours_ordered {l : List (Option Basis)}
    (perm : l.Perm [none, some .fuelLitres, some .engineHours, some .weightedHours]) :
    ∃ a b, (a = .fuelLitres ∧ b = .engineHours ∨ a = .engineHours ∧ b = .fuelLitres) ∧
      ∃ pre mid post, l = pre ++ some a :: (mid ++ some b :: post) ∧ ∀ k ∈ pre ++ mid ++ post, k ∈ [none, some Basis.weightedHours] := by
  obtain ⟨x, y, rfl⟩ := List.append_of_mem (perm.mem_iff.2 (show some Basis.fuelLitres ∈ _ by simp))
  have rest : (x ++ y).Perm [none, some .engineHours, some .weightedHours] :=
    (List.perm_middle.symm.trans (perm.trans (List.Perm.swap _ _ _))).cons_inv
  rcases List.mem_append.1 (rest.mem_iff.2 (show some Basis.engineHours ∈ _ by simp)) with m | m
  · obtain ⟨x1, x2, rfl⟩ := List.append_of_mem m
    refine ⟨_, _, .inr ⟨rfl, rfl⟩, x1, x2, y, by simp, fun k mk => ?_⟩
    have last : (x1 ++ (x2 ++ y)).Perm [none, some .weightedHours] := by
      rw [List.append_assoc, List.cons_append] at rest
      exact (List.perm_middle.symm.trans (rest.trans (List.Perm.swap _ _ _))).cons_inv
    rw [List.append_assoc] at mk
    exact last.mem_iff.1 mk
  · obtain ⟨y1, y2, rfl⟩ := List.append_of_mem m
    refine ⟨_, _, .inl ⟨rfl, rfl⟩, x, y1, y2, rfl, fun k mk => ?_⟩
    have last : (x ++ y1 ++ y2).Perm [none, some .weightedHours] := by
      rw [← List.append_assoc] at rest
      exact (List.perm_middle.symm.trans (rest.trans (List.Perm.swap _ _ _))).cons_inv
    exact last.mem_iff.1 mk

/-! ## The counterexample (R145, R152, R154) -/

/-- An item at a basis, DERATE with the cap 50, its interval and its count given. -/
def derateItem (b : Basis) (interval consumed : Nat) : ServiceEntry := entryOf {
  definition := { code := 0, basis := b, interval := interval, warn := 0, grace := 0, severity := .derate, cap := 50 }
  consumed := consumed, attention := false, suspended := false }

/-- The copy of a running engine at load 0, of which 1000 ms make 52 ml and one engine second. -/
def idlingCopy : EngineCopy := { stamp := 0, report := { rpm := 1700, load := 0, fuelRate := 1900, coolant := none, running := true, regenActive := false, engineFault := false } }

/-- The body of the report that comes 1000 ms later. -/
def idlingBody : List Byte := [0x06, 0xA4, 0x00, 0x07, 0x6C, 0x01, 0x00, 0x00, 0x00]

/-- The Economy Manager in WORK under the cap 50, with its advice. -/
def cappedEm : Em := { State.reset.em with
  mode := .work, idleTimer := some 0, cap := 50, copy := some idlingCopy
  lastAdvice := Em.advice { State.reset.em with mode := .work, cap := 50 } }

/-- An item at the basis `a` OVERDUE with a count above 4 294 967 295, and one at the basis `b` one unit before OVERDUE: the first
increment at `a` brings the count of the one down to 4 294 967 295, below its threshold, the first at `b` makes the other OVERDUE. -/
def beyondSaturation (a b : Basis) : State :=
  { State.reset with
    st := {
      entries := ((Vector.replicate 24 none).set 0 (some (derateItem a 4500000 (4500000 * a.factor)))).set 1
        (some (derateItem b 1 (b.factor - 1)))
      reportedCap := 50 }
    em := cappedEm
    lc := { State.reset.lc with time := 1000, inbox := [{ kind := 0x28, tag := 7, body := idlingBody }], tx := .free } }

/-- The advice that the cap 100 gives between the two increments. -/
def uncappedAdvice : Notice := .engineAdvice (Em.advice { State.reset.em with mode := .work, cap := 100 }) 1000

/-- The state when the deliveries of the report begin. -/
def integrated (a b : Basis) : State :=
  markRetained { takeFrame (beyondSaturation a b) with em := integratedEm cappedEm idlingCopy 1000 }

theorem idling_amounts : reportAmount cappedEm idlingCopy 1000 .fuelLitres = 52 ∧ reportAmount cappedEm idlingCopy 1000 .engineHours = 1 ∧
    reportAmount cappedEm idlingCopy 1000 .weightedHours = 0 := by decide +kernel

theorem integrateReport_beyond (a b : Basis) : integrateReport (takeFrame (beyondSaturation a b)) =
    anyOrder ([none, some .fuelLitres, some .engineHours, some .weightedHours].map
      (deliver (fuelAfter cappedEm idlingCopy 1000 / 36000) (reportAmount cappedEm idlingCopy 1000))) (integrated a b) := by
  have differ : Em.countsDiffer cappedEm (integratedEm cappedEm idlingCopy 1000) = true := by decide +kernel
  have interval : reportInterval (takeFrame (beyondSaturation a b)) idlingCopy = 1000 := by
    change elapsed 1000 idlingCopy.stamp = 1000
    decide +kernel
  have eq := integrateReport_eq (s := takeFrame (beyondSaturation a b)) (c := idlingCopy) rfl
  simp only [interval, Nat.min_self] at eq
  exact eq.trans (congrArg _ (if_pos differ))

/-- With the increment at `a` first the cap rises to 100 and falls back to 50, and the advice of 100 is being sent. -/
theorem capped_twice {a b : Basis} (h : a = .fuelLitres ∧ b = .engineHours ∨ a = .engineHours ∧ b = .fuelLitres) :
    let t := takeIncrement b (reportAmount cappedEm idlingCopy 1000 b) (takeIncrement a (reportAmount cappedEm idlingCopy 1000 a) (integrated a b))
    t.st.reportedCap = 50 ∧ t.em.mode = .work ∧ Em.advice t.em = (beyondSaturation a b).em.lastAdvice ∧
      t.lc.tx = .sending (.notice uncappedAdvice) := by
  rcases h with ⟨rfl, rfl⟩ | ⟨rfl, rfl⟩ <;> decide +kernel

theorem beyondSaturation_settled {a b : Basis} (h : a = .fuelLitres ∧ b = .engineHours ∨ a = .engineHours ∧ b = .fuelLitres) :
    ServiceSettled (beyondSaturation a b) := by
  rw [serviceSettled_iff]
  have cap : lowestCap (beyondSaturation a b).st.entries = 50 := by
    rcases h with ⟨rfl, rfl⟩ | ⟨rfl, rfl⟩ <;> decide +kernel
  have lowest := lowestCap_isLowest (beyondSaturation a b).st.entries
  rw [cap] at lowest
  refine ⟨?_, lowest, rfl⟩
  unfold EntriesSettled
  rcases h with ⟨rfl, rfl⟩ | ⟨rfl, rfl⟩ <;> decide +kernel

/-- A report of a running engine in WORK leaves the service table as its integration does, settles the advice, and keeps the notice being
sent (R132, R142, R145). -/
theorem takeReport_working {r : EngineReport} {s : State} {n : Notice} (running : r.running = true)
    (work : (integrateReport s).em.mode = .work) (busy : (integrateReport s).lc.tx = .sending (.notice n)) :
    (takeReport r s).st = (integrateReport s).st ∧ (takeReport r s).em.lastAdvice = Em.advice (integrateReport s).em ∧
      (takeReport r s).lc.tx = .sending (.notice n) := by
  obtain ⟨w, hw⟩ : ∃ w, onEm (fun em => { em with copy := some { report := r, stamp := (integrateReport s).now } }) (integrateReport s) = w :=
    ⟨_, rfl⟩
  have steps : reportModeSteps r w = w := by
    subst hw
    unfold reportModeSteps
    rw [running, onEm_em, work]
    rfl
  have taken : takeReport r s = settleAdvice w := (congrArg (fun w => settleAdvice (reportModeSteps r w)) hw).trans (congrArg settleAdvice steps)
  rw [taken]
  refine ⟨((settleAdvice_frame w).st rfl).trans (by rw [← hw]; rfl), ?_, ?_⟩
  · rw [settleAdvice_em, ← hw]
    rfl
  · have same : w.lc.tx = (integrateReport s).lc.tx := by rw [← hw]; rfl
    rw [(settleAdvice_frame w).lc.busy (by rw [same, busy]; simp), same, busy]

/-- A state refutes O48 when its integration rises the cap and brings it back, the advice between being sent. -/
theorem report_tells_between {s : State} {n : Notice} (allowed : CommandAllowed 0x28 7 idlingBody .operator s)
    (work : (integrateReport (takeFrame s)).em.mode = .work) (busy : (integrateReport (takeFrame s)).lc.tx = .sending (.notice n)) :
    ∃ t, exec (.engineReport 7 idlingBody) s = .next t ∧ t.st = (integrateReport (takeFrame s)).st ∧
      t.em.lastAdvice = Em.advice (integrateReport (takeFrame s)).em ∧ noticeHanded n t.lc := by
  obtain ⟨r, hr⟩ : ∃ r, clampReport (engineReportOf idlingBody) = r := ⟨_, rfl⟩
  have running : r.running = true := by rw [← hr]; decide +kernel
  obtain ⟨st, advice, tx⟩ := takeReport_working running work busy
  obtain ⟨ns, tells, -⟩ := takeReport_telling r (takeFrame s)
  have lc := tells.trans (queueNotices_taken ns (u := takeFrame s) (v := s) rfl (.refl _))
  have e : engineReportOwner idlingBody (takeFrame s) =
      (takeReport r (takeFrame s), answerDone (beFlag (r != engineReportOf idlingBody))) := by
    rw [← hr]
    rfl
  refine ⟨_, interpret_told (owner := engineReportOwner) (ok := lengthIs 9) allowed rfl e lc, st, advice, ?_⟩
  refine (noticeHanded_answered _ _ _).2 (.inr ?_)
  rw [lc] at tx
  exact tx

/-- Refutes O48: while a count above the 32-bit range is brought down by its increment, the cap of its item is released; where the next
increment makes another item OVERDUE with the same cap, an ENGINE ADVICE is handed over though cap and advice end as they were. -/
theorem not_engineReportIntegratesInterval : ¬ Obligations.EngineReportIntegratesInterval := by
  unfold Obligations.EngineReportIntegratesInterval
  intro h
  obtain ⟨l, perm, runs⟩ := anyOrder_order [none, some Basis.fuelLitres, some Basis.engineHours, some Basis.weightedHours]
    State.reset.choices
  obtain ⟨a, b, two, pre, mid, post, rfl, idle⟩ := fuelAndHours_ordered perm
  have amounts := idling_amounts.2.2
  have run := runs (deliver (fuelAfter cappedEm idlingCopy 1000 / 36000) (reportAmount cappedEm idlingCopy 1000))
    (deliver_choices _ _) (integrated a b) rfl
  obtain ⟨n, integral⟩ := two_run rfl (fun k mk c mc => by
    rcases List.mem_cons.1 (idle k mk) with rfl | m
    · cases mc
    · cases List.mem_singleton.1 m
      cases mc
      exact amounts) run
  rw [← integrateReport_beyond] at integral
  obtain ⟨cap, work, advice, busy⟩ := capped_twice two
  have allowed : CommandAllowed 0x28 7 idlingBody .operator (beyondSaturation a b) :=
    ⟨⟨rfl, rfl, rfl, fun pends => (Bool.false_ne_true pends).elim, rfl⟩, rfl, le_refl _⟩
  obtain ⟨t, next, st, last, handed⟩ := report_tells_between allowed (by rw [integral]; exact work) (by rw [integral]; exact busy)
  obtain ⟨t', next', rest⟩ := h 7 idlingBody (beyondSaturation a b) allowed rfl
  cases next.symm.trans next'
  obtain ⟨-, -, -, -, -, -, -, quiet, -⟩ := rest
  have none' := quiet (beyondSaturation_settled two) (by rw [st, integral, cap]; rfl) (by rw [last, integral]; exact advice)
  rcases none'.1 uncappedAdvice rfl handed with m | sending
  · cases m
  · cases sending

end Sys2Proof.Machine

/-! PROOFS. The deliveries of a change of health and of a sample (R8, R18), run one after another in their free order. -/

namespace Sys2Proof.Machine

/-! ## Runs of named actions -/

/-- Named actions in sequences, interleaved, run in one order of their names. -/
theorem interleave_keyed {α : Type} (qs : List (List α)) (f : α → State → State) (s : State) :
    ∃ l : List α, l.Perm qs.flatten ∧ Runs (l.map f) s (interleave (qs.map (List.map f)) s) := by
  obtain ⟨r, perm, -, runs⟩ := interleave_runs (qs.map (List.map f)) s
  have keyed : List.Forall₂ (fun g a => g = f a) (qs.map (List.map f)).flatten qs.flatten := by
    rw [← List.map_flatten, List.forall₂_map_left_iff, List.forall₂_same]
    exact fun _ _ => rfl
  obtain ⟨l, each, perm'⟩ := List.perm_comp_forall₂ perm keyed
  rw [← List.forall₂_map_right_iff, List.forall₂_eq_eq_eq] at each
  subst each
  exact ⟨l, perm', runs⟩

section
variable {α : Type} {P : State → Prop} {l : List α} {f : α → State → State} {s t : State}

/-- What some of the actions change in one way, and the others leave, has changed as often as these ran. -/
theorem Runs.iterates {β : Type} (runs : Runs (l.map f) s t) (choices : ∀ s n, P s → P { s with choices := n })
    (p : α → Bool) (x : State → β) (seen : ∀ s n, x { s with choices := n } = x s) (g : β → β)
    (acts : ∀ a ∈ l, ∀ u, P u → P (f a u) ∧ x (f a u) = if p a then g (x u) else x u) (hs : P s) :
    x t = g^[l.countP p] (x s) := by
  induction l generalizing s with
  | nil => obtain ⟨n, rfl⟩ := runs; exact seen s n
  | cons a l ih =>
    obtain ⟨n, runs⟩ := runs
    obtain ⟨kept, moved⟩ := acts a List.mem_cons_self _ (choices s n hs)
    rw [ih runs (fun b m => acts b (List.mem_cons_of_mem a m)) kept, moved, seen, List.countP_cons]
    cases p a
    · rfl
    · exact (Function.iterate_succ_apply g _ _).symm

/-- The notices of actions, one after another. -/
theorem Runs.tells {R : α → List Notice → Prop} (runs : Runs (l.map f) s t) (choices : ∀ s n, P s → P { s with choices := n })
    (acts : ∀ a ∈ l, ∀ u, P u → ∃ ns, Tells ns u (f a u) ∧ R a ns ∧ P (f a u)) (hs : P s) :
    ∃ nss, List.Forall₂ R l nss ∧ Tells nss.flatten s t := by
  induction l generalizing s with
  | nil => obtain ⟨n, rfl⟩ := runs; exact ⟨[], .nil, .silent rfl (.refl _)⟩
  | cons a l ih =>
    obtain ⟨n, runs⟩ := runs
    obtain ⟨ns, tells, fits, kept⟩ := acts a List.mem_cons_self _ (choices s n hs)
    obtain ⟨nss, all, rest⟩ := ih runs (fun b m => acts b (List.mem_cons_of_mem a m)) kept
    exact ⟨ns :: nss, .cons fits all, (Tells.after (s := s) tells rfl (.refl _)).trans rest⟩

/-- What every action leaves of the blocks. -/
theorem Runs.touches {b : Blocks} (runs : Runs (l.map f) s t) (acts : ∀ a ∈ l, ∀ u, Touches b u (f a u)) : Touches b s t := by
  refine Runs.keeps (P := Touches b s) (fun u n h => h.trans ?_) runs (fun g m u h => ?_) (.refl b s)
  · constructor <;> simp
  · obtain ⟨a, ma, rfl⟩ := List.mem_map.1 m
    exact h.trans (acts a ma u)

end

theorem forall₂_mem {α β : Type} {R : α → β → Prop} {l : List α} {r : List β} (h : List.Forall₂ R l r) {a : α} (m : a ∈ l) :
    ∃ b ∈ r, R a b := by
  induction h with
  | nil => cases m
  | cons fits _ ih =>
    rcases List.mem_cons.1 m with rfl | m
    · exact ⟨_, List.mem_cons_self, fits⟩
    · obtain ⟨b, mb, fits⟩ := ih m
      exact ⟨b, List.mem_cons_of_mem _ mb, fits⟩

/-! ## The deliveries -/

/-- What a change of health and an accepted sample deliver (R8, R10, R18, R92). -/
inductive Delivery
  | notice | computation | slewHealth | pressureHealth | slewTravel | pressureOffer
  deriving DecidableEq

/-- The delivery of a change of health `old` to `new` and of a sample, on a channel. -/
def deliverChange (ch : Fin 6) (old new : Health) (x : Sample) : Delivery → State → State
  | .notice => fun s => queueNotice (.channelHealth ch old new s.now) s
  | .computation => requestComputation
  | .slewHealth => deliverHealthToSl new
  | .pressureHealth => deliverHealthToCt new
  | .slewTravel => readSlewTravel x
  | .pressureOffer => drainPressure

/-- The deliveries of a change of health (R18). -/
def healthDeliveries (ch : Fin 6) (old new : Health) : List Delivery :=
  if old = new then []
  else .notice :: ((if ch.val < 5 then [.computation] else []) ++ (if ch = 3 then [.slewHealth] else []) ++
    if ch = 5 then [.pressureHealth] else [])

/-- The deliveries of an accepted sample (R8, R10, R92). -/
def sampleDeliveries (ch : Fin 6) (h : Health) : List Delivery :=
  (if ch.val < 5 then [.computation] else []) ++ (if ch = 3 ∧ h.isDown = false then [.slewTravel] else []) ++
    if ch = 5 then [.pressureOffer] else []

theorem healthActions_eq (ch : Fin 6) (old new : Health) (x : Sample) :
    healthActions ch old new = (healthDeliveries ch old new).map (deliverChange ch old new x) := by
  unfold healthActions healthDeliveries
  by_cases same : old = new
  · rw [if_pos same, if_pos same]
    rfl
  · rw [if_neg same, if_neg same]
    fin_cases ch <;> rfl

theorem sampleActions_eq (ch : Fin 6) (old new : Health) (x : Sample) :
    sampleActions ch new x = (sampleDeliveries ch new).map (deliverChange ch old new x) := by
  unfold sampleActions sampleDeliveries
  cases new.isDown <;> fin_cases ch <;> rfl

end Sys2Proof.Machine

/-! PROOFS. What a change of health of a channel leaves and delivers (R18). -/

namespace Sys2Proof.Machine

/-! ## The computation called for or begun (R9, R40 to R42) -/

/-- A computation called for: pending, or begun on the contexts, which it empties. -/
def requested (a : Vector Channel 6 × Ps) : Vector Channel 6 × Ps :=
  if a.2.inFlight.isSome then (a.1, { a.2 with pendingStart := true }) else (fifosEmptied a.1, begun a.1 a.2)

theorem requestComputation_requested (s : State) :
    ((requestComputation s).scu, (requestComputation s).ps) = requested (s.scu, s.ps) := by
  rw [requestComputation_scu, requestComputation_ps, requested]
  split <;> rfl

/-- The deliveries to the blocks that are not the pressure channel's leave the contexts and the Pose Solver, but for the computations they
call for. -/
theorem deliveries_requested {ch : Fin 6} {old new : Health} {x : Sample} {l : List Delivery} {s t : State}
    (apart : .pressureHealth ∉ l ∧ .pressureOffer ∉ l) (runs : Runs (l.map (deliverChange ch old new x)) s t) :
    (t.scu, t.ps) = requested^[l.count .computation] (s.scu, s.ps) := by
  refine runs.iterates (P := fun _ => True) (fun _ _ _ => trivial) (· == .computation) (fun u => (u.scu, u.ps)) (fun _ _ => rfl)
    requested (fun a m u _ => ⟨trivial, ?_⟩) trivial
  have unchanged {b : Blocks} {v : State} (h : Frame b u v) (scu : b.scu = false) (ps : b.ps = false) : (v.scu, v.ps) = (u.scu, u.ps) := by
    rw [h.scu scu, h.ps ps]
  cases a with
  | computation => exact requestComputation_requested u
  | notice => exact unchanged (queueNotice_frame _ u) rfl rfl
  | slewHealth => exact unchanged (deliverHealthToSl_frame new u) rfl rfl
  | slewTravel => exact unchanged (readSlewTravel_frame x u) rfl rfl
  | pressureHealth => exact absurd m apart.1
  | pressureOffer => exact absurd m apart.2

/-! ## The Slew Limiter's share (R92) -/

/-- What a change of health of channel 3 leaves of the Slew Limiter, the zones and the lines (R18, R92). -/
structure SlewHealthTaken (new : Health) (s t : State) : Prop where
  health    : t.sl.health = new
  prevAngle : t.sl.prevAngle = if new.isDown then none else s.sl.prevAngle
  pose      : t.sl.pose = s.sl.pose
  settings  : t.sl.settings = s.sl.settings
  travel    : t.sl.travel = s.sl.travel
  turns     : t.sl.turns = s.sl.turns
  inputs    : t.mlu.inputs = s.mlu.inputs
  authority : t.mlu.authority = s.mlu.authority
  held      : ∀ k : Fin 16, t.zt.zones[k].held = s.zt.zones[k].held

theorem deliverHealthToSl_taken (new : Health) (s : State) : SlewHealthTaken new s (deliverHealthToSl new s) := by
  unfold deliverHealthToSl
  generalize hv : onSl _ s = v
  have zones := evaluateSlew_sameZones v
  have sl := evaluateSlew_sl v
  subst hv
  refine ⟨?_, ?_, ?_, ?_, ?_, ?_, zones.inputs, zones.authority, zones.held⟩ <;> rw [sl] <;> rfl

/-! ## The Cycle Tracker's share (R96, R115) -/

/-- The latest force is absent in FAILED and OFF (R96). -/
def forceCleared (new : Health) (ct : Ct) : Ct := { ct with force := if new.isDown then none else ct.force }

/-- The run ended and the pressure samples that wait taken (R111, R117). -/
def runEnded (s : State) (ct : Ct) : Ct := (withPressureTaken (endedRun ct) s).ct

/-- The health of channel 5 that ends a run: LIVE is lost while one is active (R115). -/
def EndsRun (new : Health) (s : State) : Prop := s.ct.health = .live ∧ new ≠ .live ∧ s.ct.run.isSome

theorem withPressureTaken_endedRun_scu (ct : Ct) (s : State) :
    (withPressureTaken (endedRun ct) s).scu = s.scu.set 5 (drained [] s.scu[(5 : Fin 6)]) := by
  obtain ⟨force, window, h⟩ := pressureTaken_noRun s.ps.geometry (ct := endedRun ct) s.scu[(5 : Fin 6)].fifo rfl rfl
  unfold withPressureTaken
  rw [h]

/-- A run ended by a hard error, the Cycle Tracker standing at `c` (R111, R115, R117). -/
theorem hardFail_from {cause : RunFailure} {r : Run} {c : Ct} {s u : State} (run : c.run = some r)
    (e : ∃ n, u = { s with ct := c, choices := n }) :
    (hardFail cause u).scu = s.scu.set 5 (drained [] s.scu[(5 : Fin 6)]) ∧ (hardFail cause u).ct = runEnded s c ∧
      Tells [.calibrationResult (RunKind.isGain r.kind) (.failed cause) r.soft s.lc.time] s (hardFail cause u) := by
  obtain ⟨n, rfl⟩ := e
  have ended : hardFail cause { s with ct := c, choices := n } = withRunEnded r (.failed cause) c { s with ct := c, choices := n } := by
    rw [hardFail_eq]
    simp only [run]
  rw [ended]
  exact ⟨withPressureTaken_endedRun_scu c { s with ct := c, choices := n }, rfl, rfl, .refl _⟩

theorem clearForce_eq {new : Health} (down : new.isDown = true) (s : State) :
    onCt (fun ct => { ct with force := none }) s = { s with ct := forceCleared new s.ct } := by
  rw [forceCleared, down]
  rfl

theorem forceCleared_up {new : Health} (up : ¬new.isDown = true) (ct : Ct) : forceCleared new ct = ct := by
  rw [forceCleared, if_neg up]

/-- A health of channel 5 that ends no run (R96). -/
theorem deliverHealthToCt_quiet {new : Health} {s : State} (quiet : ¬EndsRun new s) :
    deliverHealthToCt new s = { s with ct := forceCleared new { s.ct with health := new } } := by
  have guard : ((s.ct.health == .live && new != .live) && s.ct.run.isSome) = false := by
    refine Bool.eq_false_iff.2 fun h => quiet ?_
    simpa [EndsRun, and_assoc] using h
  unfold deliverHealthToCt
  simp only []
  change anyOrder ((if ((s.ct.health == .live && new != .live) && s.ct.run.isSome) = true then [hardFail .hardPressure] else []) ++ _) _ = _
  rw [guard]
  by_cases down : new.isDown = true
  · rw [if_pos down]
    exact clearForce_eq down _
  · rw [if_neg down, forceCleared_up down]
    rfl

/-- A health of channel 5 that ends a run: the samples that wait are taken, before the force is made absent or after, and the result is
handed over (R96, R111, R115, R117). -/
structure RunLost (new : Health) (s t : State) : Prop where
  scu  : t.scu = s.scu.set 5 (drained [] s.scu[(5 : Fin 6)])
  ct   : t.ct = runEnded s (forceCleared new { s.ct with health := new }) ∨
    t.ct = forceCleared new (runEnded s { s.ct with health := new })
  told : ∀ r ∈ s.ct.run,
    Tells [.calibrationResult (RunKind.isGain r.kind) (.failed .hardPressure) r.soft s.lc.time] s t

theorem deliverHealthToCt_ends {new : Health} {s : State} (ends : EndsRun new s) : RunLost new s (deliverHealthToCt new s) := by
  obtain ⟨live, lost, active⟩ := ends
  obtain ⟨r, run⟩ := Option.isSome_iff_exists.1 active
  have guard : ((s.ct.health == .live && new != .live) && s.ct.run.isSome) = true := by simp [live, lost, run]
  have eq : deliverHealthToCt new s = anyOrder ((if ((s.ct.health == .live && new != .live) && s.ct.run.isSome) = true
      then [hardFail .hardPressure] else []) ++ if new.isDown then [onCt fun ct => { ct with force := none }] else [])
      (onCt (fun ct => { ct with health := new }) s) := rfl
  rw [guard, if_pos rfl] at eq
  have told {v : State} (tells : Tells [.calibrationResult (RunKind.isGain r.kind) (.failed .hardPressure) r.soft s.lc.time] s v) :
      ∀ r ∈ s.ct.run, Tells [.calibrationResult (RunKind.isGain r.kind) (.failed .hardPressure) r.soft s.lc.time] s v := by
    intro r' mr
    cases run.symm.trans mr
    exact tells
  rw [eq]
  by_cases down : new.isDown = true
  · rw [if_pos down, List.singleton_append]
    rcases anyOrder_two (hardFail .hardPressure) (onCt fun ct => { ct with force := none })
      (onCt (fun ct => { ct with health := new }) s) with h | h <;> rw [h, clearForce_eq down]
    · obtain ⟨scu, ct, tells⟩ := hardFail_from (cause := .hardPressure) (c := { s.ct with health := new }) (s := s)
        (u := { onCt (fun ct => { ct with health := new }) s with choices := s.choices + 1 }) run ⟨_, rfl⟩
      exact ⟨scu, .inr (congrArg (forceCleared new) ct), told tells⟩
    · obtain ⟨scu, ct, tells⟩ := hardFail_from (cause := .hardPressure) (c := forceCleared new { s.ct with health := new }) (s := s)
        (u := { onCt (fun ct => { ct with health := new }) s with
          ct := forceCleared new { s.ct with health := new }, choices := s.choices + 1 }) run ⟨_, rfl⟩
      exact ⟨scu, .inl ct, told tells⟩
  · rw [if_neg down, List.append_nil, anyOrder_one]
    obtain ⟨scu, ct, tells⟩ := hardFail_from (cause := .hardPressure) (c := { s.ct with health := new }) (s := s)
      (u := onCt (fun ct => { ct with health := new }) s) run ⟨s.choices, rfl⟩
    exact ⟨scu, .inr (by rw [forceCleared_up down, ct]), told tells⟩

end Sys2Proof.Machine

/-! PROOFS. A change of a channel context with its deliveries (R18), whole. -/

namespace Sys2Proof.Machine

/-! ## The effects of a change of health (R18) -/

/-- What a change of health of a channel leaves of the blocks (R18). -/
structure HealthEffects (ch : Fin 6) (new : Health) (changed : Channel) (s t : State) : Prop where
  solver   : ch ≠ 5 → (t.scu, t.ps) = requested (s.scu.set ch changed, s.ps)
  slew     : ch = 3 → SlewHealthTaken new s t
  others   : ch ≠ 3 → t.sl = s.sl ∧ t.mlu = s.mlu ∧ t.zt = s.zt
  tracker  : ch ≠ 5 → t.ct = s.ct
  unsolved : ch = 5 → t.ps = s.ps
  quiet    : ch = 5 → ¬EndsRun new s → t.scu = s.scu.set ch changed ∧ t.ct = forceCleared new { s.ct with health := new }
  ends     : ch = 5 → EndsRun new s → t.scu = s.scu.set 5 (drained [] changed) ∧
    (t.ct = runEnded { s with scu := s.scu.set ch changed } (forceCleared new { s.ct with health := new }) ∨
      t.ct = forceCleared new (runEnded { s with scu := s.scu.set ch changed } { s.ct with health := new }))

/-- What a change of health of a channel hands over (R18, R117): its CHANNEL HEALTH, the result of a run that it ends, and what an
evaluation gives. -/
structure HealthTold (ch : Fin 6) (old new : Health) (s : State) (ns : List Notice) : Prop where
  few    : ns.length ≤ 18
  notice : .channelHealth ch old new s.lc.time ∈ ns
  result : ch = 5 → EndsRun new s → ∀ r ∈ s.ct.run,
    .calibrationResult (RunKind.isGain r.kind) (.failed .hardPressure) r.soft s.lc.time ∈ ns

/-- The effects and the notices make up what a change of health delivers (R18). -/
theorem healthDelivered_of {ch : Fin 6} {old new : Health} {changed : Channel} {s t : State} {ns : List Notice}
    (effects : HealthEffects ch new changed s t) (told : HealthTold ch old new s ns) (handed : Handed ns s.lc t.lc) :
    HealthDelivered ch old new changed s t := by
  unfold HealthDelivered
  refine ⟨handed.within told.notice told.few rfl (by norm_num), ?_, ?_, ?_⟩
  · by_cases pressure : ch = 5
    · rw [if_pos pressure]
      exact effects.unsolved pressure
    · rw [if_neg pressure]
      have ps := congrArg Prod.snd (effects.solver pressure)
      unfold requested at ps
      split_ifs at ps ⊢ <;> exact ps
  · by_cases slew : ch = 3
    · rw [if_pos slew]
      obtain ⟨health, prevAngle, pose, settings, travel, turns, inputs, authority, held⟩ := effects.slew slew
      exact ⟨health, prevAngle, pose, settings, travel, turns, inputs, authority, held⟩
    · rw [if_neg slew]
      exact effects.others slew
  · by_cases pressure : ch = 5
    · rw [if_pos pressure]
      refine ⟨effects.quiet pressure, fun ends => ?_⟩
      obtain ⟨scu, ct⟩ := effects.ends pressure ends
      exact ⟨scu, ct, fun room r mr => handed.within (told.result pressure ends r mr) told.few rfl (by norm_num) room⟩
    · rw [if_neg pressure]
      have scu := congrArg Prod.fst (effects.solver pressure)
      unfold requested at scu
      exact ⟨effects.tracker pressure, by split_ifs at scu ⊢ <;> exact scu⟩

theorem HealthEffects.congr {ch : Fin 6} {new : Health} {changed : Channel} {s s' t t' : State} (h : HealthEffects ch new changed s t)
    (before : s' = { s with lc := s'.lc, rs := s'.rs, choices := s'.choices, pending := s'.pending })
    (after : t' = { t with lc := t'.lc, rs := t'.rs, choices := t'.choices, pending := t'.pending }) :
    HealthEffects ch new changed s' t' := by
  rw [before, after]
  refine ⟨h.solver, fun slew => ?_, h.others, h.tracker, h.unsolved, h.quiet, h.ends⟩
  obtain ⟨health, prevAngle, pose, settings, travel, turns, inputs, authority, held⟩ := h.slew slew
  exact ⟨health, prevAngle, pose, settings, travel, turns, inputs, authority, held⟩

/-! ## The deliveries beside the pressure channel's -/

/-- What the health of channel 3 leaves until it is delivered: its share of the Slew Limiter, delivered or not. -/
structure SlewHealthPending (new : Health) (s t : State) : Prop where
  prevAngle : t.sl.prevAngle = s.sl.prevAngle ∨ t.sl.prevAngle = if new.isDown then none else s.sl.prevAngle
  pose      : t.sl.pose = s.sl.pose
  settings  : t.sl.settings = s.sl.settings
  travel    : t.sl.travel = s.sl.travel
  turns     : t.sl.turns = s.sl.turns
  inputs    : t.mlu.inputs = s.mlu.inputs
  authority : t.mlu.authority = s.mlu.authority
  held      : ∀ k : Fin 16, t.zt.zones[k].held = s.zt.zones[k].held

theorem SlewHealthTaken.pending {new : Health} {s t : State} (h : SlewHealthTaken new s t) : SlewHealthPending new s t :=
  ⟨.inr h.prevAngle, h.pose, h.settings, h.travel, h.turns, h.inputs, h.authority, h.held⟩

theorem SlewHealthPending.taken {new : Health} {s t u : State} (h : SlewHealthPending new s t) (k : SlewHealthTaken new t u) :
    SlewHealthTaken new s u := by
  refine ⟨k.health, ?_, k.pose.trans h.pose, k.settings.trans h.settings, k.travel.trans h.travel, k.turns.trans h.turns,
    k.inputs.trans h.inputs, k.authority.trans h.authority, fun i => (k.held i).trans (h.held i)⟩
  rw [k.prevAngle]
  rcases h.prevAngle with e | e <;> rw [e]
  split <;> rfl

theorem SlewHealthPending.of_same {new : Health} {s t u : State} (h : SlewHealthPending new s t) (sl : u.sl = t.sl)
    (mlu : u.mlu = t.mlu) (zt : u.zt = t.zt) : SlewHealthPending new s u := by
  obtain ⟨prevAngle, pose, settings, travel, turns, inputs, authority, held⟩ := h
  constructor <;> simp only [sl, mlu, zt] <;> assumption

theorem SlewHealthTaken.of_same {new : Health} {s t u : State} (h : SlewHealthTaken new s t) (sl : u.sl = t.sl)
    (mlu : u.mlu = t.mlu) (zt : u.zt = t.zt) : SlewHealthTaken new s u := by
  obtain ⟨health, prevAngle, pose, settings, travel, turns, inputs, authority, held⟩ := h
  constructor <;> simp only [sl, mlu, zt] <;> assumption

/-- The health of channel 3 delivered, among deliveries that leave the Slew Limiter. -/
theorem slewHealth_runs {ch : Fin 6} {old new : Health} {x : Sample} {l : List Delivery} {s t : State}
    (only : ∀ a ∈ l, a = .notice ∨ a = .computation ∨ a = .slewHealth) (some' : .slewHealth ∈ l)
    (runs : Runs (l.map (deliverChange ch old new x)) s t) : SlewHealthTaken new s t := by
  have same {a : Delivery} (h : a = .notice ∨ a = .computation) (u : State) : (deliverChange ch old new x a u).sl = u.sl ∧
      (deliverChange ch old new x a u).mlu = u.mlu ∧ (deliverChange ch old new x a u).zt = u.zt := by
    rcases h with rfl | rfl
    · exact ⟨(queueNotice_frame _ u).sl rfl, (queueNotice_frame _ u).mlu rfl, (queueNotice_frame _ u).zt rfl⟩
    · exact ⟨(requestComputation_frame u).sl rfl, (requestComputation_frame u).mlu rfl, (requestComputation_frame u).zt rfl⟩
  refine (runs.establishes (P := SlewHealthPending new s) (Q := SlewHealthTaken new s) (fun u n h => h.of_same rfl rfl rfl)
    (fun u n h => h.of_same rfl rfl rfl) (fun g m u h => ?_) (fun g m u h k => ?_) (.inr ⟨_, List.mem_map_of_mem some', fun u h => ?_⟩)
    ⟨.inl rfl, rfl, rfl, rfl, rfl, rfl, rfl, fun _ => rfl⟩).2
  · obtain ⟨a, ma, rfl⟩ := List.mem_map.1 m
    rcases or_assoc.2 (only a ma) with other | rfl
    · exact h.of_same (same other u).1 (same other u).2.1 (same other u).2.2
    · exact (h.taken (deliverHealthToSl_taken new u)).pending
  · obtain ⟨a, ma, rfl⟩ := List.mem_map.1 m
    rcases or_assoc.2 (only a ma) with other | rfl
    · exact k.of_same (same other u).1 (same other u).2.1 (same other u).2.2
    · exact h.taken (deliverHealthToSl_taken new u)
  · exact h.taken (deliverHealthToSl_taken new u)

/-- The notices of an evaluation take the place of none (R174). -/
theorem evaluation_plain {s : State} {n : Notice} (h : EvaluationHands s n) : n.replacesItsKind = false := by
  obtain ⟨p, -, ⟨k, m⟩ | m⟩ := h
  · unfold intrusionNotices at m
    repeat' split at m
    all_goals simp at m
    all_goals subst m; rfl
  · unfold slewStateNotices at m
    split at m
    all_goals simp at m
    all_goals subst m; rfl

/-- The notices of the deliveries of a change of health (R18). -/
def DeliveryTells (ch : Fin 6) (old new : Health) (time : Stamp) : Delivery → List Notice → Prop
  | .notice, ns => ns = [.channelHealth ch old new time]
  | .slewHealth, ns => ns.length ≤ 17 ∧ ∀ n ∈ ns, n.replacesItsKind = false
  | _, ns => ns = []

theorem healthDeliveries_tell {ch : Fin 6} {old new : Health} {x : Sample} {l : List Delivery} {s t : State}
    (only : ∀ a ∈ l, a = .notice ∨ a = .computation ∨ a = .slewHealth) (runs : Runs (l.map (deliverChange ch old new x)) s t) :
    ∃ nss, List.Forall₂ (DeliveryTells ch old new s.lc.time) l nss ∧ Tells nss.flatten s t := by
  refine runs.tells (P := fun u => u.lc.time = s.lc.time) (fun _ _ h => h) (fun a m u time => ?_) rfl
  rcases only a m with rfl | rfl | rfl
  · refine ⟨_, queueNotice_tells _ u, ?_, ((queueNotice_frame _ u).lc.time).trans time⟩
    rw [DeliveryTells, State.now, time]
  · refine ⟨[], .silent ?_ ?_, rfl, ((requestComputation_frame u).lc.time).trans time⟩
    · show (requestComputation u).lc = u.lc
      rw [requestComputation_else]
    · show SameRestart (requestComputation u).rs u.rs
      rw [requestComputation_else]
      exact .refl _
  · obtain ⟨ns, tells, few, hands⟩ := evaluateSlew_tells (onSl (fun sl => { sl with
      health := new, prevAngle := if new.isDown then none else sl.prevAngle }) u)
    exact ⟨ns, tells.after rfl (.refl _), ⟨few, fun n m => evaluation_plain ((hands n).1 m)⟩, ((deliverHealthToSl_frame new u).lc.time).trans time⟩

theorem flatten_length_le {α β : Type} {R : α → List β → Prop} {w : α → Nat} (h : ∀ a ns, R a ns → ns.length ≤ w a) {l : List α}
    {nss : List (List β)} (all : List.Forall₂ R l nss) : nss.flatten.length ≤ (l.map w).sum := by
  induction all with
  | nil => exact le_rfl
  | cons fits _ ih =>
    rw [List.flatten_cons, List.length_append, List.map_cons, List.sum_cons]
    exact Nat.add_le_add (h _ _ fits) ih

end Sys2Proof.Machine

/-! PROOFS. The timers, the breaks and the commands of a channel: each a change of its context with the deliveries of its health (R12 to
R15, R18, R20, R22). -/

namespace Sys2Proof.Machine

/-! ## The deliveries of a change of health, in any order -/

section
variable {ch : Fin 6} {old new : Health} {x : Sample} {l : List Delivery} {changed : Channel} {s t : State}

theorem healthDeliveries_other (moved : old ≠ new) (other : ch ≠ 5) : healthDeliveries ch old new =
    .notice :: .computation :: if ch = 3 then [.slewHealth] else [] := by
  unfold healthDeliveries
  rw [if_neg moved]
  revert ch
  decide

theorem healthDeliveries_pressure (moved : old ≠ new) : healthDeliveries 5 old new = [.notice, .pressureHealth] := by
  unfold healthDeliveries
  rw [if_neg moved]
  rfl

/-- The blocks a delivery of a change of health works on. -/
def healthBlocks (ch : Fin 6) : Blocks :=
  { scu := true, ps := true, mlu := decide (ch = 3), zt := decide (ch = 3), sl := decide (ch = 3), choices := true }

theorem otherDeliveries_touch (other : ch ≠ 5) (moved : old ≠ new) (perm : l.Perm (healthDeliveries ch old new))
    (runs : Runs (l.map (deliverChange ch old new x)) s t) : Touches (healthBlocks ch) s t := by
  refine runs.touches fun a m u => ?_
  rw [perm.mem_iff, healthDeliveries_other moved other] at m
  simp only [List.mem_cons] at m
  rcases m with rfl | rfl | m
  · exact (queueNotice_frame _ u).touchesWithin rfl
  · exact (requestComputation_frame u).touchesWithin rfl
  · obtain ⟨slew, rfl⟩ : ch = 3 ∧ a = .slewHealth := by
      split_ifs at m with slew
      · exact ⟨slew, List.mem_singleton.1 m⟩
      · exact absurd m List.not_mem_nil
    subst slew
    exact (deliverHealthToSl_frame new u).touchesWithin rfl

theorem otherDeliveries_only (other : ch ≠ 5) (moved : old ≠ new) (perm : l.Perm (healthDeliveries ch old new)) :
    (∀ a ∈ l, a = .notice ∨ a = .computation ∨ a = .slewHealth) ∧ l.count .computation = 1 ∧ .notice ∈ l ∧
      (ch = 3 → .slewHealth ∈ l) := by
  simp only [perm.mem_iff, perm.count_eq, healthDeliveries_other moved other]
  by_cases slew : ch = 3 <;> simp [slew]

/-- The deliveries of a change of health of a channel other than the pressure channel (R18). -/
theorem otherDeliveries (other : ch ≠ 5) (moved : old ≠ new) (perm : l.Perm (healthDeliveries ch old new))
    (runs : Runs (l.map (deliverChange ch old new x)) { s with scu := s.scu.set ch changed } t) :
    HealthEffects ch new changed s t ∧ ∃ ns, Tells ns s t ∧ HealthTold ch old new s ns := by
  obtain ⟨only, once, noticed, slewed⟩ := otherDeliveries_only other moved perm
  have touches := otherDeliveries_touch other moved perm runs
  have solver := deliveries_requested (ch := ch) ⟨fun m => by simpa using only _ m, fun m => by simpa using only _ m⟩ runs
  rw [once, Function.iterate_one] at solver
  refine ⟨⟨fun _ => solver, fun slew => ?_, fun apart => ?_, fun _ => touches.ct rfl, fun h => absurd h other,
    fun h => absurd h other, fun h => absurd h other⟩, ?_⟩
  · exact SlewHealthPending.taken (t := { s with scu := s.scu.set ch changed })
      ⟨.inl rfl, rfl, rfl, rfl, rfl, rfl, rfl, fun _ => rfl⟩ (slewHealth_runs only (slewed slew) runs)
  · have out : decide (ch = 3) = false := decide_eq_false apart
    exact ⟨touches.sl out, touches.mlu out, touches.zt out⟩
  · obtain ⟨nss, each, tells⟩ := healthDeliveries_tell only runs
    refine ⟨_, Tells.after (s := s) tells rfl (.refl _), ?_, ?_, fun h => absurd h other⟩
    · refine (flatten_length_le (w := fun a => if a = .notice then 1 else if a = .slewHealth then 17 else 0) ?_ each).trans ?_
      · intro a ns fits
        cases a <;> simp_all [DeliveryTells]
      · rw [(perm.map _).sum_eq, healthDeliveries_other moved other]
        by_cases slew : ch = 3 <;> simp [slew]
    · obtain ⟨ns, mem, fits⟩ := forall₂_mem each noticed
      exact List.mem_flatten_of_mem mem (by rw [show ns = _ from fits]; exact List.mem_singleton_self _)

/-- A health delivered to the Cycle Tracker, whole. -/
theorem pressureHealth_effects {u : State} (before : ∃ lc n, u = { s with scu := s.scu.set 5 changed, lc := lc, choices := n })
    (after : ∃ lc n, t = { deliverHealthToCt new u with lc := lc, choices := n }) : HealthEffects 5 new changed s t := by
  obtain ⟨lc, n, rfl⟩ := before
  obtain ⟨lc', n', rfl⟩ := after
  generalize hu : ({ s with scu := s.scu.set 5 changed, lc := lc, choices := n } : State) = u
  have frame := deliverHealthToCt_frame new u
  have at5 : u.scu[(5 : Fin 6)] = changed := by rw [← hu]; exact Vector.getElem_set_self ..
  refine ⟨fun h => absurd rfl h, fun h => absurd h (by decide), fun _ => ⟨?_, ?_, ?_⟩, fun h => absurd rfl h, fun _ => ?_,
    fun _ quiet => ?_, fun _ ends => ?_⟩
  · exact (frame.sl rfl).trans (by rw [← hu])
  · exact (frame.mlu rfl).trans (by rw [← hu])
  · exact (frame.zt rfl).trans (by rw [← hu])
  · exact (frame.ps rfl).trans (by rw [← hu])
  · have quiet' : ¬EndsRun new u := by rw [← hu]; exact quiet
    rw [deliverHealthToCt_quiet quiet', ← hu]
    exact ⟨rfl, rfl⟩
  · have ends' : EndsRun new u := by rw [← hu]; exact ends
    obtain ⟨scu, ct, -⟩ := deliverHealthToCt_ends ends'
    refine ⟨?_, ?_⟩
    · rw [at5] at scu
      refine scu.trans ?_
      rw [← hu]
      exact Vector.set_set ..
    · rw [← hu] at ct
      rw [← hu]
      exact ct

/-- The notices of a health delivered to the Cycle Tracker (R117). -/
theorem deliverHealthToCt_tells (new : Health) (u : State) : ∃ ns, Tells ns u (deliverHealthToCt new u) ∧ ns.length ≤ 1 ∧
    (EndsRun new u → ∀ r ∈ u.ct.run,
      .calibrationResult (RunKind.isGain r.kind) (.failed .hardPressure) r.soft u.lc.time ∈ ns) := by
  by_cases ends : EndsRun new u
  · obtain ⟨r, run⟩ := Option.isSome_iff_exists.1 ends.2.2
    refine ⟨_, (deliverHealthToCt_ends ends).told r run, le_rfl, fun _ r' mr => ?_⟩
    cases run.symm.trans mr
    exact List.mem_singleton_self _
  · exact ⟨[], by rw [deliverHealthToCt_quiet ends]; exact .silent rfl (.refl _), Nat.zero_le _, fun h => absurd h ends⟩

/-- The notices of two actions, the one after the other. -/
theorem Runs.two_tells {f g : State → State} {R S : List Notice → Prop} (runs : Runs [f, g] s t)
    (first : ∀ n, ∃ ns, Tells ns { s with choices := n } (f { s with choices := n }) ∧ R ns)
    (second : ∀ n m, ∃ ns, Tells ns { f { s with choices := n } with choices := m }
      (g { f { s with choices := n } with choices := m }) ∧ S ns) : ∃ ns ms, Tells (ns ++ ms) s t ∧ R ns ∧ S ms := by
  obtain ⟨n, m, k, rfl⟩ := runs
  obtain ⟨ns, hf, r⟩ := first n
  obtain ⟨ms, hg, z⟩ := second n m
  refine ⟨ns, ms, ?_, r, z⟩
  have all := (hf.after (s := s) rfl (.refl _)).trans (hg.after (s := f { s with choices := n }) rfl (.refl _))
  exact ⟨all.1, all.2⟩

/-- The notices of the health delivered to the Cycle Tracker, in a state where the context has changed (R117). -/
theorem pressureHealth_tells {u : State} (time : u.lc.time = s.lc.time)
    (same : ∃ lc n, u = { s with scu := s.scu.set 5 changed, lc := lc, choices := n }) :
    ∃ ns, Tells ns u (deliverHealthToCt new u) ∧ ns.length ≤ 1 ∧ (EndsRun new s → ∀ r ∈ s.ct.run,
      .calibrationResult (RunKind.isGain r.kind) (.failed .hardPressure) r.soft s.lc.time ∈ ns) := by
  obtain ⟨ns, tells, few, result⟩ := deliverHealthToCt_tells new u
  rw [time] at result
  obtain ⟨lc, n, rfl⟩ := same
  exact ⟨ns, tells, few, result⟩

/-- The deliveries of a change of health of the pressure channel (R18). -/
theorem pressureDeliveries (moved : old ≠ new) (perm : l.Perm (healthDeliveries 5 old new))
    (runs : Runs (l.map (deliverChange 5 old new x)) { s with scu := s.scu.set 5 changed } t) :
    HealthEffects 5 new changed s t ∧ ∃ ns, Tells ns s t ∧ HealthTold 5 old new s ns := by
  rw [healthDeliveries_pressure moved] at perm
  have orders : l = [.notice, .pressureHealth] ∨ l = [.pressureHealth, .notice] := by
    simpa [List.permutations] using List.mem_permutations.2 perm
  have noticed (u : State) (time : u.lc.time = s.lc.time) : ∃ ns, Tells ns u (deliverChange 5 old new x .notice u) ∧
      ns = [.channelHealth 5 old new s.lc.time] :=
    ⟨_, queueNotice_tells _ u, by rw [State.now, time]⟩
  rcases orders with rfl | rfl
  · obtain ⟨ns, ms, tells, rfl, few, result⟩ := Runs.two_tells runs (fun n => noticed _ rfl)
      (fun n m => pressureHealth_tells (s := s) (changed := changed) (queueNotice_frame _ _).lc.time ⟨_, _, rfl⟩)
    obtain ⟨n, m, k, rfl⟩ := runs
    exact ⟨pressureHealth_effects (u := { deliverChange 5 old new x .notice { s with
      scu := s.scu.set 5 changed, choices := n } with choices := m }) ⟨_, _, rfl⟩ ⟨_, _, rfl⟩, _, tells.after rfl (.refl _),
      by rw [List.length_append, List.length_singleton]; omega, List.mem_append_left _ (List.mem_singleton_self _),
      fun _ ends r mr => List.mem_append_right _ (result ends r mr)⟩
  · obtain ⟨ns, ms, tells, ⟨few, result⟩, rfl⟩ := Runs.two_tells runs
      (fun n => pressureHealth_tells (s := s) (changed := changed) rfl ⟨_, _, rfl⟩)
      (fun n m => noticed _ (deliverHealthToCt_frame new _).lc.time)
    obtain ⟨n, m, k, rfl⟩ := runs
    have noticeOnly (z : State) : { deliverChange 5 old new x .notice { z with choices := m } with choices := k } =
        { z with lc := (deliverChange 5 old new x .notice { z with choices := m }).lc, choices := k } := rfl
    exact ⟨pressureHealth_effects (u := { s with scu := s.scu.set 5 changed, choices := n }) ⟨_, _, rfl⟩ ⟨_, _, noticeOnly _⟩, _,
      tells.after rfl (.refl _), by rw [List.length_append, List.length_singleton]; omega,
      List.mem_append_right _ (List.mem_singleton_self _), fun _ ends r mr => List.mem_append_left _ (result ends r mr)⟩

end

/-- The deliveries of a change of health, in any order (R18). -/
theorem healthRuns_effects {ch : Fin 6} {old new : Health} {x : Sample} {l : List Delivery} {changed : Channel} {s t : State}
    (moved : old ≠ new) (perm : l.Perm (healthDeliveries ch old new))
    (runs : Runs (l.map (deliverChange ch old new x)) { s with scu := s.scu.set ch changed } t) :
    HealthEffects ch new changed s t ∧ ∃ ns, Tells ns s t ∧ HealthTold ch old new s ns := by
  by_cases pressure : ch = 5
  · subst pressure
    exact pressureDeliveries moved perm runs
  · exact otherDeliveries pressure moved perm runs

/-- A change of a context that changes the health (R18). -/
theorem changeChannel_effects {ch : Fin 6} {f : Channel → Channel} {s : State} {changed : Channel} (e : f s.scu[ch] = changed)
    (moved : changed.health ≠ s.scu[ch].health) : HealthEffects ch changed.health changed s (changeChannel ch f s) ∧
      ∃ ns, Tells ns s (changeChannel ch f s) ∧ HealthTold ch s.scu[ch].health changed.health s ns := by
  subst e
  obtain ⟨l, perm, runs⟩ := anyOrder_keyed (healthDeliveries ch s.scu[ch].health (f s.scu[ch]).health)
    (deliverChange ch s.scu[ch].health (f s.scu[ch]).health ⟨0, 0, 0, {}⟩) (onChannel ch f s)
  rw [← healthActions_eq] at runs
  exact healthRuns_effects moved.symm perm runs

/-- A change of a context that keeps the health delivers nothing (R18). -/
theorem changeChannel_same {ch : Fin 6} {f : Channel → Channel} {s : State} (kept : (f s.scu[ch]).health = s.scu[ch].health) :
    changeChannel ch f s = onChannel ch f s := by
  unfold changeChannel healthActions
  rw [if_pos kept.symm]
  rfl

/-- The blocks that a change of a context is delivered to (R18), and the store. -/
def contextBlocks : Blocks :=
  { scu := true, mlu := true, ps := true, zt := true, sl := true, ct := true, rs := true, choices := true }

/-- What a change of a context leaves: the state beside the contexts, the blocks its health is delivered to, and the notices. -/
theorem Touches.healthWork {s u : State} (h : Touches contextBlocks s u) (c : Lc) : { u with lc := c } = { s with
      scu := u.scu, mlu := u.mlu, ps := u.ps, zt := u.zt, sl := u.sl, ct := u.ct, rs := u.rs, lc := c, choices := u.choices } := by
  obtain ⟨powered, pending⟩ := And.intro h.powered h.pending
  rw [← h.lr rfl, ← h.em rfl, ← h.st rfl, ← powered, ← pending]

theorem set_self (scu : Vector Channel 6) (ch : Fin 6) (c : Channel) : (scu.set ch c)[ch] = c := Vector.getElem_set_self ..

theorem HealthEffects.health {ch : Fin 6} {new : Health} {changed : Channel} {s t : State} (h : HealthEffects ch new changed s t) :
    t.scu[ch].health = changed.health := by
  by_cases pressure : ch = 5
  · subst pressure
    by_cases ends : EndsRun new s
    · rw [(h.ends rfl ends).1]
      exact (congrArg Channel.health (set_self s.scu 5 (drained [] changed))).trans rfl
    · rw [(h.quiet rfl ends).1, set_self]
  · have scu := congrArg Prod.fst (h.solver pressure)
    unfold requested at scu
    split_ifs at scu
    · rw [show t.scu = _ from scu, set_self]
    · rw [show t.scu = _ from scu, fifosEmptied_get, if_neg pressure, set_self]
      rfl

/-- An event that changes the health of a context, whole (R18). -/
theorem channelEvent {ch : Fin 6} {f : Channel → Channel} {e : Instr} {s : State} {old new : Health} {changed : Channel}
    (step : exec e s = .next (changeChannel ch f s)) (was : s.scu[ch].health = old) (gives : f s.scu[ch] = changed)
    (becomes : changed.health = new) (moved : new ≠ old) :
    ∃ t, exec e s = .next t ∧ t.scu[ch].health = new ∧ HealthDelivered ch old new changed s t ∧
      t = { s with scu := t.scu, mlu := t.mlu, ps := t.ps, zt := t.zt, sl := t.sl, ct := t.ct, lc := t.lc
                   choices := t.choices } := by
  subst was becomes
  obtain ⟨effects, ns, tells, told⟩ := changeChannel_effects gives moved
  have frame := changeChannel_frame ch f s
  refine ⟨_, step, effects.health, healthDelivered_of effects told tells.handed, ?_⟩
  refine ((frame.touchesWithin rfl : Touches contextBlocks s _).healthWork (changeChannel ch f s).lc).trans ?_
  rw [frame.rs rfl]

theorem timerDone_some (now start : Stamp) (len : Nat) (h : len ≤ (now - start).toNat) : timerDone now (some start) len = true :=
  decide_eq_true h

/-- Settles O24: each timer's expiry is a change of the context that moves the health. -/
theorem timersDegradeHealth : Obligations.TimersDegradeHealth := by
  intro ch start s powered enabled
  have runs : channelRuns ch s = true := (channelRuns_iff ch s).2 ⟨powered, enabled⟩
  refine ⟨fun live timer passed => ?_, fun stale timer passed => ?_⟩
  · refine channelEvent (f := Channel.goStale) (old := .live) (new := .stale) (whenDue_of_due ?_) live ?_ rfl (by decide)
    · rw [runs, live, timer]
      exact timerDone_some _ _ _ passed
    · rw [Channel.goStale, timer]
  · refine channelEvent (f := Channel.fail .silent) (old := .stale) (new := .failed .silent) (whenDue_of_due ?_) stale rfl rfl (by decide)
    rw [runs, stale, timer]
    exact timerDone_some _ _ _ passed

theorem takeBreak_fails {c : Channel} (h : c.health ≠ .failed .lineBreak) (h' : c.health ≠ .failed .miswired) :
    Channel.takeBreak c = { c with
      health := .failed .lineBreak, brk := { lowRun := 5, mark := true }, staleTimer := none, silentTimer := none
      stats := { c.stats with breaks := min 65535 (c.stats.breaks + 1) } } := by
  unfold Channel.takeBreak
  simp only []
  rfl

/-- Settles O23: a break and its end are changes of the context; where the health stays, nothing is delivered. -/
theorem breakFailsAndItsEndAcquires : Obligations.BreakFailsAndItsEndAcquires := by
  intro ch s powered enabled
  have runs : channelRuns ch s = true := (channelRuns_iff ch s).2 ⟨powered, enabled⟩
  have detected (low : s.scu[ch].brk = { lowRun := 4, mark := false }) :
      exec (.breakDetected ch) s = .next (changeChannel ch Channel.takeBreak s) := whenDue_of_due (by rw [runs, low]; rfl)
  have ended (high : s.scu[ch].brk = { lowRun := 0, mark := true }) :
      exec (.breakEnd ch) s = .next (changeChannel ch Channel.endBreak s) := whenDue_of_due (by rw [runs, high]; rfl)
  refine ⟨fun low line miswired => ?_, fun high line => ?_, fun low miswired => ?_, fun high line => ?_⟩
  · exact channelEvent (detected low) rfl (takeBreak_fails line miswired) rfl line.symm
  · refine channelEvent (old := .failed .lineBreak) (new := .acquiring) (ended high) line ?_ rfl (by decide)
    unfold Channel.endBreak
    rw [if_pos line]
    rfl
  · have counted : Channel.takeBreak s.scu[ch] = { s.scu[ch] with
        brk := { lowRun := 5, mark := true }
        stats := { s.scu[ch].stats with breaks := min 65535 (s.scu[ch].stats.breaks + 1) } } := by
      unfold Channel.takeBreak
      simp only [miswired]
      rfl
    rw [detected low, changeChannel_same (by rw [counted]), onChannel_eq, counted]
  · have kept : Channel.endBreak s.scu[ch] = { s.scu[ch] with brk := { lowRun := 0, mark := false } } := by
      unfold Channel.endBreak
      rw [if_neg line]
    rw [ended high, changeChannel_same (by rw [kept]), onChannel_eq, kept]

/-! ## CHANNEL SET and CHANNEL RESTART (R20, R22) -/

/-- What a command of a channel leaves, its context becoming `changed` (R18, R20, R22). -/
structure ChannelCommanded (ch : Fin 6) (r : Reply) (changed : Channel) (s t : State) : Prop where
  answers : AnswersWith r s t
  told    : changed.health ≠ s.scu[ch].health → HealthDelivered ch s.scu[ch].health changed.health changed s t
  quiet   : changed.health = s.scu[ch].health → t = { s with
    scu := s.scu.set ch changed, rs := t.rs, lc := answered s.lc r }
  whole   : t = { s with scu := t.scu, mlu := t.mlu, ps := t.ps, zt := t.zt, sl := t.sl, ct := t.ct, rs := t.rs, lc := t.lc
                         choices := t.choices }

/-- A command of a channel, whose owner may mark the store and then changes the context. -/
theorem interpret_channel {kind tag : Byte} {body : List Byte} {level : Authority} {ok : List Byte → Bool} {owner : Owner}
    {s : State} {ch : Fin 6} {f : Channel → Channel} {changed : Channel} {rs : Rs} (allowed : CommandAllowed kind tag body level s)
    (length : ok body = true) (marks : SameRestart rs s.rs) (gives : f s.scu[ch] = changed)
    (e : owner body (takeFrame s) = (changeChannel ch f { takeFrame s with rs := rs }, answerDone [])) :
    ∃ t, interpret kind level ok owner tag body s = .next t ∧
      ChannelCommanded ch (replyFrame kind tag .done []) changed s t ∧ t.rs = rs := by
  subst gives
  have frame := changeChannel_frame ch f { takeFrame s with rs := rs }
  have whole (c : Lc) : ({ changeChannel ch f { takeFrame s with rs := rs } with lc := c } : State) = _ :=
    Touches.healthWork (s := s) (.trans (t := { takeFrame s with rs := rs }) (by constructor <;> simp [contextBlocks])
      (frame.touchesWithin rfl)) c
  by_cases moved : (f s.scu[ch]).health = s.scu[ch].health
  · rw [show changeChannel ch f { takeFrame s with rs := rs } = { takeFrame s with scu := s.scu.set ch (f s.scu[ch]), rs := rs }
      from changeChannel_same (s := { takeFrame s with rs := rs }) moved] at e
    exact ⟨_, (interpret_answered allowed length e rfl).trans rfl, ⟨answersWith_of_answered rfl (.refl _), fun h => absurd moved h,
      fun _ => rfl, rfl⟩, rfl⟩
  · obtain ⟨effects, ns, tells, told⟩ := changeChannel_effects (s := { takeFrame s with rs := rs }) (changed := f s.scu[ch]) rfl moved
    obtain ⟨c, next, answers, handed⟩ := interpret_tells allowed length e (tells.after rfl marks)
    exact ⟨_, next, ⟨answers, fun _ => healthDelivered_of (effects.congr rfl rfl)
      ⟨told.few, told.notice, told.result⟩ handed, fun h => absurd h moved, whole c⟩, frame.rs rfl⟩

theorem frameComesNext_iff (ch : Fin 6) (s : State) (powered : s.powered = true) : frameComesNext ch s = true ↔
    s.scu[ch].settings.enable = true ∧ (∃ char, s.pending.head? = some (.sensorFrameArrival ch char)) ∧
      ∃ bytes, s.scu[ch].assembler = .collecting bytes ∧ bytes.length = 8 := by
  have ninth (a : Assembler) : awaitsNinth a = true ↔ ∃ bytes, a = .collecting bytes ∧ bytes.length = 8 := by
    cases a <;> simp [awaitsNinth]
  rw [← ninth, ← and_assoc]
  unfold frameComesNext
  split
  · next k char head =>
    rw [head, Bool.and_eq_true, Bool.and_eq_true, decide_eq_true_iff, channelRuns_iff]
    simp only [powered, true_and]
    constructor
    · rintro ⟨⟨rfl, enabled⟩, ninth⟩
      exact ⟨⟨enabled, char, rfl⟩, ninth⟩
    · rintro ⟨⟨enabled, _, h⟩, ninth⟩
      cases h
      exact ⟨⟨rfl, enabled⟩, ninth⟩
  · next other =>
    refine ⟨fun h => absurd h Bool.false_ne_true, fun h => ?_⟩
    obtain ⟨⟨-, char, head⟩, -⟩ := h
    exact absurd head (other ch char)

/-- Settles O25: the commands change the context, the store marked before by a set that differs. -/
theorem channelSetAndRestartAcquire : Obligations.ChannelSetAndRestartAcquire := by
  intro tag ch s c emptiedOut acquiring delivered completing
  refine ⟨fun body new allowed length named => ?_, ?_⟩
  · obtain ⟨t, next, ⟨answers, told, quiet, whole⟩, rs⟩ := interpret_channel (owner := channelSetOwner) (ch := ch)
      (f := Channel.reset new (frameComesNext ch s)) (rs := if new = c.settings then s.rs else Rs.mark s.rs) (changed := _)
      allowed (lengthIs_of length) (.ofMarkedIf _ _) rfl (by
        rw [channelSetOwner, withFields_some named]
        exact congrArg (fun v => (changeChannel ch (Channel.reset new (frameComesNext ch s)) v, answerDone []))
          (marked_eq new c.settings (takeFrame s)))
    have powered : s.powered = true := allowed.1.1
    refine ⟨t, next, answers, fun enabled completes => ?_, fun enabled starts => ?_, fun disabled => ?_, rs, whole⟩
    · have kept : Channel.reset new (frameComesNext ch s) s.scu[ch] =
          { acquiring with settings := new, assembler := c.assembler } := by
        rw [(frameComesNext_iff ch s powered).2 completes, Channel.reset]
        simp only [enabled]
        rfl
      rw [kept] at told quiet
      exact ⟨told, quiet⟩
    · have hunting : Channel.reset new (frameComesNext ch s) s.scu[ch] = { acquiring with settings := new } := by
        rw [Bool.eq_false_iff.2 (mt (frameComesNext_iff ch s powered).1 starts), Channel.reset]
        simp only [enabled]
        rfl
      rw [hunting] at told quiet
      exact ⟨told, quiet⟩
    · have off : Channel.reset new (frameComesNext ch s) s.scu[ch] = { emptiedOut with settings := new, health := .off } := by
        rw [Channel.reset]
        simp only [disabled]
        rfl
      rw [off] at told quiet
      exact ⟨told, quiet⟩
  · intro body allowed
    have named : index? 6 (u8 body 0) = some ch := by rw [u8_ofNat_cons (by omega), index?_val]
    refine ⟨fun enabled => ?_, fun disabled => ?_⟩
    · obtain ⟨t, next, ⟨answers, told, quiet, whole⟩, rs⟩ := interpret_channel (owner := channelRestartOwner) (ok := lengthIs 1)
        (ch := ch) (f := Channel.freshAcquisition) (rs := s.rs) (changed := acquiring) allowed rfl (.refl _) rfl (by
          rw [channelRestartOwner, withFields_some named]
          exact if_pos enabled)
      rw [rs] at whole
      exact ⟨t, next, answers, ⟨told, quiet⟩, whole⟩
    · refine (interpret_unmoved (owner := channelRestartOwner) (ok := lengthIs 1) (answer := answerRefused .state) allowed rfl ?_).trans rfl
      rw [channelRestartOwner, withFields_some named]
      exact if_neg (by rw [show (takeFrame s).scu[ch].settings.enable = false from disabled]; exact Bool.false_ne_true)

end Sys2Proof.Machine

/-! PROOFS. The arrival of a frame: the context it leaves (R3 to R8, R11 to R17), and its deliveries in their free order. -/

namespace Sys2Proof.Machine

/-! ## The context of a frame that is accepted -/

/-- A sample enters the FIFO, or overwrites the newest (R8, R11). -/
theorem enqueue_eq (x : Sample) (c : Channel) : Channel.enqueue x c = { c with
    fifo := if c.fifo.length < 4 then c.fifo ++ [x] else c.fifo.dropLast ++ [x]
    overrunLatch := c.overrunLatch || decide (4 ≤ c.fifo.length)
    accumulated := if c.fifo = [] then c.accumulated.union x.flags else c.accumulated
    stats := { c.stats with
      overrun := if c.fifo.length < 4 then c.stats.overrun else min 65535 (c.stats.overrun + 1) } } := by
  unfold Channel.enqueue
  cases empty : c.fifo with
  | nil => simp [Channel.noteHead]
  | cons y rest =>
    by_cases room : (y :: rest).length < 4
    · rw [if_neg (by simp), if_pos room, if_pos room, if_pos room, decide_eq_false (by omega), Bool.or_false,
        if_neg (List.cons_ne_nil _ _)]
    · rw [if_neg (by simp), if_neg room, if_neg room, if_neg room, decide_eq_true (by omega), Bool.or_true,
        if_neg (List.cons_ne_nil _ _)]
      rfl

/-- The acquisition a good sample begins in FAILED(SILENT) and FAILED(SENSOR_FAULT) (R17). -/
def acquiredAgain (c : Channel) (fault : Bool) : Channel :=
  if Health.endsByGoodSample c.health && !fault then c.enterAcquiring else c

theorem endsByGoodSample_iff (h : Health) :
    Health.endsByGoodSample h = true ↔ h = .failed .silent ∨ h = .failed .sensorFault := by
  cases h with
  | failed r => cases r <;> simp [Health.endsByGoodSample]
  | _ => simp [Health.endsByGoodSample]

theorem missedAt_again (c : Channel) (fault : Bool) (seq : Nat) :
    missedAt (acquiredAgain c fault).lastFrame seq = missedBefore c seq fault := by
  unfold acquiredAgain missedBefore
  simp only [Bool.and_eq_true, endsByGoodSample_iff, Bool.not_eq_true']
  split_ifs
  · rfl
  · rfl

/-- The context judged by an accepted sample: its health, its count and runs, and its timers (R12 to R17). -/
def judged (c : Channel) (fault : Bool) (now : Stamp) : Channel :=
  let again := (c.health = .failed .silent ∨ c.health = .failed .sensorFault) ∧ fault = false
  let count := match if again then none else c.lastFrame with
    | none => 1
    | some l => if c.acqCount = 0 ∨ c.settings.window < (now - l.stamp).toNat then 1 else c.acqCount + 1
  let health := healthAfterSample c fault now
  let fails := health = .failed .sensorFault ∧ c.health ≠ .failed .sensorFault
  { c with
    health := health
    lastFrame := if again then none else c.lastFrame
    acqCount := if c.health = .acquiring ∨ again then (if fault = true ∨ count = 3 then 0 else count) else c.acqCount
    staleTimer := if health = .live then some now else if fails ∨ again then none else c.staleTimer
    silentTimer :=
      if fails ∨ again ∨ (c.health ≠ .live ∧ health = .live) then none
      else if c.health = .stale then some now
      else c.silentTimer
    rejectRun := 0
    faultRun := if fault then min 3 (c.faultRun + 1) else 0 }

/-- An accepted frame ends the identity reject run (R16). -/
def forgiven (c : Channel) : Channel := { c with rejectRun := 0 }

theorem countFault_reaches {run : Nat} (most : run ≤ 3) : (min 3 (run + 1) == 3 && run != 3) = decide (run = 2) := by
  interval_cases run <;> rfl

theorem judged_eq (c : Channel) (fault : Bool) (now : Stamp) (on : c.health ≠ .off) (most : c.faultRun ≤ 3) :
    Channel.countFault fault (Channel.judgeSample fault now (forgiven (acquiredAgain c fault))) = judged c fault now := by
  have reaches := countFault_reaches most
  obtain ⟨settings, assembler, brk, lastFrame, health, acqCount, rejectRun, faultRun, staleTimer, silentTimer, fifo, chatterLatch,
    overrunLatch, accumulated, stats⟩ := c
  cases fault
  · cases health with
    | off => exact absurd rfl on
    | acquiring =>
      cases lastFrame with
      | none => rfl
      | some l =>
        by_cases first : acqCount = 0 ∨ settings.window < (now - l.stamp).toNat
        · simp [Channel.countFault, Channel.judgeSample, judged, healthAfterSample, acquiredAgain, forgiven, nextAcqCount, elapsed, first,
            Health.endsByGoodSample, -BitVec.toNat_sub]
        · by_cases third : acqCount + 1 = 3 <;>
            simp [Channel.countFault, Channel.judgeSample, judged, healthAfterSample, acquiredAgain, forgiven, nextAcqCount, elapsed, first,
              third, Health.endsByGoodSample, Channel.goLive, -BitVec.toNat_sub]
    | live => rfl
    | stale => rfl
    | failed r => cases r <;> rfl
  · by_cases two : faultRun = 2
    · subst two
      cases health with
      | off => exact absurd rfl on
      | failed r => cases r <;> rfl
      | _ => rfl
    · have stands : (min 3 (faultRun + 1) == 3 && faultRun != 3) = false := by rw [reaches]; exact decide_eq_false two
      cases health with
      | off => exact absurd rfl on
      | failed r => cases r <;> simp [Channel.countFault, Channel.judgeSample, judged, healthAfterSample, acquiredAgain, forgiven, stands, two, Health.endsByGoodSample]
      | _ => simp [Channel.countFault, Channel.judgeSample, judged, healthAfterSample, acquiredAgain, forgiven, stands, two, Health.endsByGoodSample]

theorem acquiredAgain_onStats (c : Channel) (fault : Bool) (g : ChannelStats → ChannelStats) :
    (acquiredAgain c fault).onStats g = acquiredAgain (c.onStats g) fault := by
  unfold acquiredAgain
  rw [show (c.onStats g).health = c.health from rfl]
  split <;> rfl

/-- The context of a frame that is accepted (R4 to R8, R11 to R17). -/
theorem accept_eq {ch : Fin 6} {bytes : List Byte} {now : Stamp} {c : Channel} {x : Sample} (on : c.health ≠ .off)
    (most : c.faultRun ≤ 3) (fault : decide (2 ≤ frameStatus bytes) = x.flags.fault) (stamp : x.stamp = now)
    (sample : sampleOf ch bytes (missedBefore c (frameSeq bytes) x.flags.fault != 0) now = x) :
    Channel.accept ch bytes now (Channel.seen { c with assembler := .hunting }) = accepted c (frameSeq bytes) x := by
  have unfolded (d : Channel) : Channel.accept ch bytes now d =
      Channel.enqueue (sampleOf ch bytes (missedAt (acquiredAgain d x.flags.fault).lastFrame (frameSeq bytes) != 0) now)
        { Channel.countFault x.flags.fault (Channel.judgeSample x.flags.fault now (forgiven
            ((acquiredAgain d x.flags.fault).onStats fun t => { t with
              accepted := satAdd max16 t.accepted 1
              missed := satAdd max16 t.missed (missedAt (acquiredAgain d x.flags.fault).lastFrame (frameSeq bytes)) }))) with
          lastFrame := some { seq := frameSeq bytes, stamp := now } } := by
    rw [← fault]
    rfl
  rw [unfolded, acquiredAgain_onStats, judged_eq _ _ _ (by exact on) (by exact most), missedAt_again]
  rw [show missedBefore (Channel.seen { c with assembler := .hunting }) (frameSeq bytes) x.flags.fault =
    missedBefore c (frameSeq bytes) x.flags.fault from rfl, sample, enqueue_eq, ← stamp]
  rfl

/-! ## The bytes of a frame (R2 to R4, R7) -/

theorem nodeType_eq (ch : Fin 6) : nodeType ch = #v[0x11, 0x12, 0x13, 0x21, 0x31, 0x41][ch] := by
  fin_cases ch <;> rfl

section
variable {bytes : List Byte} {char : Byte} (eight : bytes.length = 8)
include eight

theorem getD_frame {k : Nat} (h : k < 8) : (bytes ++ [char]).getD k 0 = bytes.getD k 0 :=
  List.getD_append _ _ _ _ (by omega)

theorem u8_frame {k : Nat} (h : k < 8) : u8 (bytes ++ [char]) k = u8 bytes k := by
  rw [u8, getD_frame eight h]
  rfl

theorem s16_frame {k : Nat} (h : k < 7) : s16 (bytes ++ [char]) k = s16 bytes k := by
  rw [s16, u16, u8_frame eight (by omega), u8_frame eight (by omega)]
  rfl

theorem sensorCrcAgrees_frame : sensorCrcAgrees (bytes ++ [char]) = (crc8 (bytes.drop 1) == char) := by
  have body : ((bytes ++ [char]).drop 1).take 7 = bytes.drop 1 := by
    rw [List.drop_append_of_le_length (by omega), List.take_left' (by simp [eight])]
  have last : (bytes ++ [char]).getD 8 0 = char := by
    rw [List.getD_append_right _ _ _ _ (by omega), eight]
    rfl
  rw [sensorCrcAgrees, body, last]

/-- The values of a sample (R7). -/
theorem frameValues_frame (ch : Fin 6) : frameValues ch (bytes ++ [char]) = frameValues ch bytes := by
  unfold frameValues
  rw [s16_frame eight (by omega), s16_frame eight (by omega), u16, u16, u8_frame eight (by omega), u8_frame eight (by omega)]

theorem sampleOf_frame (ch : Fin 6) (gap : Bool) (now : Stamp) : sampleOf ch (bytes ++ [char]) gap now = sampleOf ch bytes gap now := by
  unfold sampleOf frameStatus
  rw [frameValues_frame eight, u8_frame eight (by omega)]

theorem frameSeq_frame : frameSeq (bytes ++ [char]) = frameSeq bytes := by
  unfold frameSeq
  rw [u8_frame eight (by omega)]

/-- The verdict on a frame, by its bytes (R3 to R5). -/
theorem judgeFrame_frame (ch : Fin 6) (now : Stamp) (c : Channel) : judgeFrame ch (bytes ++ [char]) now c =
    if crc8 (bytes.drop 1) ≠ char then .badCrc
    else if bytes.getD 1 0 ≠ #v[0x11, 0x12, 0x13, 0x21, 0x31, 0x41][ch] then .wrongType
    else if ¬(bytes.getD 2 0 &&& c.settings.mask = c.settings.unit &&& c.settings.mask) then .foreign
    else if ∃ l ∈ c.lastFrame, (now - l.stamp).toNat < c.settings.spacing then .chatter
    else .accepted := by
  have chatter : isChatter c now = true ↔ ∃ l ∈ c.lastFrame, (now - l.stamp).toNat < c.settings.spacing := by
    unfold isChatter
    cases c.lastFrame with
    | none => simp
    | some l =>
      simp only [Option.mem_some_iff, exists_eq_left', elapsed]
      exact decide_eq_true_iff
  unfold judgeFrame unitMatches
  rw [sensorCrcAgrees_frame eight, getD_frame eight (by omega), getD_frame eight (by omega), nodeType_eq]
  simp only [Bool.not_eq_true', beq_eq_false_iff_ne, chatter, ne_eq]

end

/-! ## The arrival of a frame -/

/-- The ninth character of a frame on an enabled channel completes it (R1, R3). -/
theorem exec_frameArrival {ch : Fin 6} {char : Byte} {bytes : List Byte} {s : State} (powered : s.powered = true)
    (enabled : s.scu[ch].settings.enable = true) (collecting : s.scu[ch].assembler = .collecting bytes) (eight : bytes.length = 8) :
    exec (.sensorFrameArrival ch char) s = .next (arriveFrame ch (bytes ++ [char]) s) := by
  change execSensorFrameArrival ch char s = _
  unfold execSensorFrameArrival
  rw [collecting]
  exact whenDue_of_due (by rw [(channelRuns_iff ch s).2 ⟨powered, enabled⟩, eight]; rfl)

/-- One sequence of actions runs in its order. -/
theorem interleave_one (q : List (State → State)) (s : State) : interleave [q] s = q.foldl (fun s f => f s) s := by
  cases q <;> simp [interleave, runInterleaved]

/-- A sequence and single actions, without an order among them. -/
theorem interleave_singles {α : Type} (q l : List α) (f : α → State → State) (s : State) :
    ∃ l' : List α, l'.Perm (q ++ l) ∧ Runs (l'.map f) s (interleave (q.map f :: (l.map f).map fun g => [g]) s) := by
  obtain ⟨l', perm, runs⟩ := interleave_keyed (q :: l.map fun a => [a]) f s
  rw [List.flatten_cons, ← List.flatMap_def, List.flatMap_singleton'] at perm
  rw [List.map_cons, List.map_map] at runs
  rw [List.map_map]
  exact ⟨l', perm, runs⟩

section
variable {ch : Fin 6} {bytes : List Byte} {s : State} {new : Channel} {x : Sample} {sample : List Delivery}

/-- A frame that leaves the health delivers its sample alone. -/
theorem arriveFrame_same (becomes : Channel.afterFrame ch bytes s.now { s.scu[ch] with assembler := .hunting } = new)
    (kept : new.health = s.scu[ch].health)
    (offers : (if judgeFrame ch bytes s.now { s.scu[ch] with assembler := .hunting } = .accepted then
      sampleActions ch new.health (acceptedSample ch bytes s.now { s.scu[ch] with assembler := .hunting }) else []) =
      sample.map (deliverChange ch s.scu[ch].health new.health x)) :
    arriveFrame ch bytes s = (sample.map (deliverChange ch s.scu[ch].health new.health x)).foldl (fun s f => f s)
      { s with scu := s.scu.set ch new } := by
  subst becomes
  unfold arriveFrame
  simp only []
  rw [offers, healthActions, if_pos kept.symm]
  exact interleave_one _ _

/-- A frame that changes the health delivers its sample and the change, in a free order. -/
theorem arriveFrame_runs (becomes : Channel.afterFrame ch bytes s.now { s.scu[ch] with assembler := .hunting } = new)
    (offers : (if judgeFrame ch bytes s.now { s.scu[ch] with assembler := .hunting } = .accepted then
      sampleActions ch new.health (acceptedSample ch bytes s.now { s.scu[ch] with assembler := .hunting }) else []) =
      sample.map (deliverChange ch s.scu[ch].health new.health x)) :
    ∃ l : List Delivery, l.Perm (sample ++ healthDeliveries ch s.scu[ch].health new.health) ∧
      Runs (l.map (deliverChange ch s.scu[ch].health new.health x)) { s with scu := s.scu.set ch new } (arriveFrame ch bytes s) := by
  subst becomes
  unfold arriveFrame
  simp only []
  rw [offers, healthActions_eq _ _ _ x]
  exact interleave_singles _ _ _ _

end

end Sys2Proof.Machine

/-! PROOFS. The checks on an arriving frame (R3 to R5, R16). -/

namespace Sys2Proof.Machine

/-! ## What the deliveries leave of the receipt of a frame -/

/-- The assemblers and the counts of the frames received are the same. -/
def SameReceipt (a b : Vector Channel 6) : Prop :=
  ∀ ch : Fin 6, b[ch].stats.framesSeen = a[ch].stats.framesSeen ∧ b[ch].stats.check = a[ch].stats.check ∧
    b[ch].assembler = a[ch].assembler

theorem SameReceipt.refl (a : Vector Channel 6) : SameReceipt a a := fun _ => ⟨rfl, rfl, rfl⟩

theorem SameReceipt.trans {a b c : Vector Channel 6} (h : SameReceipt a b) (k : SameReceipt b c) : SameReceipt a c := fun ch =>
  ⟨(k ch).1.trans (h ch).1, (k ch).2.1.trans (h ch).2.1, (k ch).2.2.trans (h ch).2.2⟩

theorem SameReceipt.drained (scu : Vector Channel 6) (left : List Sample) :
    SameReceipt scu (scu.set 5 (drained left scu[(5 : Fin 6)])) := by
  intro ch
  by_cases pressure : ch = 5
  · subst pressure
    rw [show (scu.set 5 (Machine.drained left scu[(5 : Fin 6)]))[(5 : Fin 6)] = Machine.drained left scu[(5 : Fin 6)] from
      set_self scu 5 _]
    exact ⟨rfl, rfl, rfl⟩
  · rw [show (scu.set 5 (Machine.drained left scu[(5 : Fin 6)]))[ch] = scu[ch] from
      Vector.getElem_set_ne (by decide) ch.isLt fun e => pressure (Fin.ext e.symm)]
    exact ⟨rfl, rfl, rfl⟩

theorem SameReceipt.emptied (scu : Vector Channel 6) : SameReceipt scu (fifosEmptied scu) := by
  intro ch
  rw [fifosEmptied_get]
  split_ifs <;> exact ⟨rfl, rfl, rfl⟩

theorem drainPressure_sameReceipt (u : State) : SameReceipt u.scu (drainPressure u).scu := by
  rw [drainPressure_eq]
  exact .drained _ _

theorem deliverHealthToCt_sameReceipt (h : Health) (u : State) : SameReceipt u.scu (deliverHealthToCt h u).scu := by
  by_cases ends : EndsRun h u
  · rw [(deliverHealthToCt_ends ends).scu]
    exact .drained _ _
  · rw [deliverHealthToCt_quiet ends]
    exact .refl _

theorem requestComputation_sameReceipt (u : State) : SameReceipt u.scu (requestComputation u).scu := by
  rw [requestComputation_scu]
  split_ifs
  · exact .refl _
  · exact .emptied _

/-- The deliveries of an arrival leave what the frame's checks have counted. -/
theorem arriveFrame_sameReceipt (ch : Fin 6) (bytes : List Byte) (s : State) : SameReceipt (s.scu.set ch
    (Channel.afterFrame ch bytes s.now { s.scu[ch] with assembler := .hunting })) (arriveFrame ch bytes s).scu := by
  refine arriveFrame_keeps (P := fun u => SameReceipt _ u.scu) (fun _ h => h) ch bytes (fun a b x f m u hu => ?_) (.refl _)
  simp only [List.mem_cons, List.not_mem_nil, or_false] at m
  rcases m with rfl | rfl | rfl | rfl | rfl | rfl
  · exact hu
  · exact hu.trans (requestComputation_sameReceipt u)
  · rw [(deliverHealthToSl_frame b u).scu rfl]
    exact hu
  · exact hu.trans (deliverHealthToCt_sameReceipt b u)
  · rw [(readSlewTravel_frame x u).scu rfl]
    exact hu
  · exact hu.trans (drainPressure_sameReceipt u)

theorem enqueue_receipt (x : Sample) (c : Channel) : (Channel.enqueue x c).stats.framesSeen = c.stats.framesSeen ∧
    (Channel.enqueue x c).stats.check = c.stats.check ∧ (Channel.enqueue x c).assembler = c.assembler := by
  rw [enqueue_eq]
  exact ⟨rfl, rfl, rfl⟩

theorem rejectIdentity_receipt (c : Channel) : (Channel.rejectIdentity c).stats = c.stats ∧
    (Channel.rejectIdentity c).assembler = c.assembler := by
  unfold Channel.rejectIdentity
  simp only []
  repeat' split
  all_goals exact ⟨rfl, rfl⟩

theorem judgeSample_receipt (fault : Bool) (now : Stamp) (c : Channel) : (Channel.judgeSample fault now c).stats = c.stats ∧
    (Channel.judgeSample fault now c).assembler = c.assembler := by
  unfold Channel.judgeSample
  simp only []
  repeat' split
  all_goals exact ⟨rfl, rfl⟩

theorem countFault_receipt (fault : Bool) (c : Channel) : (Channel.countFault fault c).stats = c.stats ∧
    (Channel.countFault fault c).assembler = c.assembler := by
  unfold Channel.countFault
  simp only []
  repeat' split
  all_goals exact ⟨rfl, rfl⟩

theorem accept_receipt (ch : Fin 6) (bytes : List Byte) (now : Stamp) (c : Channel) :
    (Channel.accept ch bytes now c).stats.framesSeen = c.stats.framesSeen ∧
      (Channel.accept ch bytes now c).stats.check = c.stats.check ∧ (Channel.accept ch bytes now c).assembler = c.assembler := by
  unfold Channel.accept
  obtain ⟨seen, check, assembler⟩ := enqueue_receipt _ _
  rw [seen, check, assembler, (countFault_receipt _ _).1, (countFault_receipt _ _).2, (judgeSample_receipt _ _ _).1,
    (judgeSample_receipt _ _ _).2]
  split <;> exact ⟨rfl, rfl, rfl⟩

/-- A frame whose CRC agrees is seen, whatever the further checks say (R3). -/
theorem afterFrame_receipt {ch : Fin 6} {bytes : List Byte} {now : Stamp} {c : Channel} (good : judgeFrame ch bytes now c ≠ .badCrc) :
    (Channel.afterFrame ch bytes now c).stats.framesSeen = min 65535 (c.stats.framesSeen + 1) ∧
      (Channel.afterFrame ch bytes now c).stats.check = c.stats.check ∧
      (Channel.afterFrame ch bytes now c).assembler = c.assembler := by
  unfold Channel.afterFrame
  cases verdict : judgeFrame ch bytes now c with
  | badCrc => exact absurd verdict good
  | wrongType | foreign =>
    simp only []
    rw [(rejectIdentity_receipt _).1, (rejectIdentity_receipt _).2]
    exact ⟨rfl, rfl, rfl⟩
  | chatter => exact ⟨rfl, rfl, rfl⟩
  | accepted => exact accept_receipt ch bytes now _

/-! ## A frame that is not accepted -/

/-- A frame that is not accepted and leaves the health delivers nothing. -/
theorem arriveFrame_refused {ch : Fin 6} {bytes : List Byte} {s : State} {new : Channel}
    (refused : judgeFrame ch bytes s.now { s.scu[ch] with assembler := .hunting } ≠ .accepted)
    (becomes : Channel.afterFrame ch bytes s.now { s.scu[ch] with assembler := .hunting } = new)
    (kept : new.health = s.scu[ch].health) : arriveFrame ch bytes s = { s with scu := s.scu.set ch new } :=
  arriveFrame_same (sample := []) (x := ⟨0, 0, 0, {}⟩) becomes kept (if_neg refused)

/-- The healths of a channel that an eighth identity reject fails (R16). -/
def Healthy (h : Health) : Prop := h = .acquiring ∨ h = .live ∨ h = .stale

/-- An identity reject that does not fail the channel is counted alone (R16). -/
theorem rejectIdentity_counts {c : Channel} (most : c.rejectRun ≤ 8) (below : Healthy c.health → c.rejectRun < 8)
    (stands : ¬(c.rejectRun = 7 ∧ Healthy c.health)) : Channel.rejectIdentity c = { c with rejectRun := min 8 (c.rejectRun + 1) } := by
  have unreached (healthy : Healthy c.health) : (min 8 (c.rejectRun + 1) == 8 && c.rejectRun != 8) = false := by
    have run := below healthy
    have seven : c.rejectRun ≠ 7 := fun e => stands ⟨e, healthy⟩
    rw [Bool.and_eq_false_iff]
    exact .inl (beq_eq_false_iff_ne.2 (by omega))
  unfold Channel.rejectIdentity
  cases h : c.health with
  | off => rfl
  | failed r => rfl
  | acquiring => simp only [unreached (.inl h)]; rfl
  | live => simp only [unreached (.inr (.inl h))]; rfl
  | stale => simp only [unreached (.inr (.inr h))]; rfl

/-- The eighth identity reject in a row (R16). -/
theorem rejectIdentity_fails {c : Channel} (seven : c.rejectRun = 7) (healthy : Healthy c.health) :
    Channel.rejectIdentity c = { c with
      rejectRun := min 8 (c.rejectRun + 1), health := .failed .miswired, staleTimer := none, silentTimer := none } := by
  unfold Channel.rejectIdentity
  rw [seven]
  rcases healthy with h | h | h <;> simp only [h] <;> rfl

/-- The context of a frame with a wrong type or a unit that does not match, before its identity reject (R4). -/
def misidentified (typeGood : Prop) [Decidable typeGood] (c : Channel) : Channel := { c with
  assembler := .hunting
  stats := { c.stats with
    framesSeen := min 65535 (c.stats.framesSeen + 1)
    typeReject := if typeGood then c.stats.typeReject else min 65535 (c.stats.typeReject + 1)
    foreign := if typeGood then min 65535 (c.stats.foreign + 1) else c.stats.foreign } }

section
variable {ch : Fin 6} {char : Byte} {bytes : List Byte} {s : State} (eight : bytes.length = 8) (crc : crc8 (bytes.drop 1) = char)
include eight crc

/-- A frame of another type or unit (R4, R16). -/
theorem afterFrame_misidentified (bad : ¬(bytes.getD 1 0 = #v[0x11, 0x12, 0x13, 0x21, 0x31, 0x41][ch] ∧
    bytes.getD 2 0 &&& s.scu[ch].settings.mask = s.scu[ch].settings.unit &&& s.scu[ch].settings.mask)) :
    judgeFrame ch (bytes ++ [char]) s.now { s.scu[ch] with assembler := .hunting } ≠ .accepted ∧
      Channel.afterFrame ch (bytes ++ [char]) s.now { s.scu[ch] with assembler := .hunting } = Channel.rejectIdentity
        (misidentified (bytes.getD 1 0 = #v[0x11, 0x12, 0x13, 0x21, 0x31, 0x41][ch]) s.scu[ch]) := by
  have verdict := judgeFrame_frame (char := char) eight ch s.now { s.scu[ch] with assembler := .hunting }
  rw [if_neg (not_not.2 crc)] at verdict
  unfold misidentified
  by_cases typeGood : bytes.getD 1 0 = #v[0x11, 0x12, 0x13, 0x21, 0x31, 0x41][ch]
  · rw [if_neg (not_not.2 typeGood), if_pos fun unit => bad ⟨typeGood, unit⟩] at verdict
    rw [Channel.afterFrame, verdict, if_pos typeGood, if_pos typeGood]
    exact ⟨by decide, rfl⟩
  · rw [if_pos typeGood] at verdict
    rw [Channel.afterFrame, verdict, if_neg typeGood, if_neg typeGood]
    exact ⟨by decide, rfl⟩

end

/-- The deliveries of a change of health leave of the context all but the samples read. -/
theorem HealthEffects.context {ch : Fin 6} {new : Health} {changed : Channel} {s t : State} (h : HealthEffects ch new changed s t) :
    ∃ fifo accumulated superseded, t.scu[ch] = { changed with
      fifo := fifo, accumulated := accumulated, stats := { changed.stats with superseded := superseded } } := by
  by_cases pressure : ch = 5
  · subst pressure
    by_cases ends : EndsRun new s
    · rw [(h.ends rfl ends).1]
      exact ⟨_, _, _, set_self s.scu 5 (drained [] changed)⟩
    · rw [(h.quiet rfl ends).1, set_self]
      exact ⟨_, _, _, rfl⟩
  · have scu := congrArg Prod.fst (h.solver pressure)
    unfold requested at scu
    split_ifs at scu
    · rw [show t.scu = _ from scu, set_self]
      exact ⟨_, _, _, rfl⟩
    · rw [show t.scu = _ from scu, fifosEmptied_get, if_neg pressure, set_self]
      exact ⟨_, _, _, rfl⟩

/-! ## Deliveries of a channel that feeds the Pose Solver alone -/

/-- The deliveries of a channel that feeds the Pose Solver alone: the computations called for, and the notices (R18). -/
theorem plainDeliveries {ch : Fin 6} {old new : Health} {x : Sample} {l : List Delivery} {s t : State}
    (only : ∀ a ∈ l, a = .notice ∨ a = .computation) (runs : Runs (l.map (deliverChange ch old new x)) s t) :
    (t.scu, t.ps) = requested^[l.count .computation] (s.scu, s.ps) ∧
      t.lc = (queueNotices (List.replicate (l.count .notice) (.channelHealth ch old new s.lc.time)) s).lc ∧
      t = { s with scu := t.scu, ps := t.ps, lc := t.lc, choices := t.choices } := by
  refine ⟨deliveries_requested ⟨fun m => by simpa using only _ m, fun m => by simpa using only _ m⟩ runs, ?_, ?_⟩
  · obtain ⟨nss, each, tells⟩ := healthDeliveries_tell (fun a m => (only a m).imp_right .inl) runs
    have flat : nss.flatten = List.replicate (l.count .notice) (.channelHealth ch old new s.lc.time) := by
      clear tells runs
      induction each with
      | nil => rfl
      | cons fits _ ih =>
        rw [List.flatten_cons, ih fun a m => only a (List.mem_cons_of_mem _ m)]
        rcases only _ List.mem_cons_self with rfl | rfl
        · rw [show _ = [_] from fits, List.count_cons_self, List.replicate_succ]
          rfl
        · rw [show _ = [] from fits, List.count_cons_of_ne (by decide)]
          rfl
    rw [← flat]
    exact tells.1
  · have touches : Touches { scu := true, ps := true, choices := true } s t := runs.touches fun a m u => by
      rcases only a m with rfl | rfl
      · exact (queueNotice_frame _ u).touchesWithin rfl
      · exact (requestComputation_frame u).touchesWithin rfl
    obtain ⟨powered, pending⟩ := And.intro touches.powered touches.pending
    rw [← touches.mlu rfl, ← touches.zt rfl, ← touches.sl rfl, ← touches.ct rfl, ← touches.lr rfl, ← touches.em rfl, ← touches.st rfl,
      ← touches.rs rfl, ← powered, ← pending]

theorem mem_healthDeliveries {ch : Fin 6} {old new : Health} {a : Delivery} (m : a ∈ healthDeliveries ch old new) :
    a = .notice ∨ a = .computation ∨ a = .slewHealth ∨ a = .pressureHealth := by
  unfold healthDeliveries at m
  split_ifs at m <;> simp at m <;> tauto

/-- The deliveries of a change of health leave the loads, the Economy Manager, the service items and the store. -/
theorem healthRuns_touch {ch : Fin 6} {old new : Health} {x : Sample} {l : List Delivery} {s t : State}
    (perm : l.Perm (healthDeliveries ch old new)) (runs : Runs (l.map (deliverChange ch old new x)) s t) :
    Touches { scu := true, mlu := true, ps := true, zt := true, sl := true, ct := true, choices := true } s t := by
  refine runs.touches fun a m u => ?_
  rcases mem_healthDeliveries (perm.mem_iff.1 m) with rfl | rfl | rfl | rfl
  · exact (queueNotice_frame _ u).touchesWithin rfl
  · exact (requestComputation_frame u).touchesWithin rfl
  · exact (deliverHealthToSl_frame new u).touchesWithin rfl
  · exact (deliverHealthToCt_frame new u).touchesWithin rfl

/-- Settles O18: the checks give the context; only the eighth identity reject delivers, as a change of health does. -/
theorem frameChecksCountRejects : Obligations.FrameChecksCountRejects := by
  intro ch char bytes s powered enabled collecting eight c typeGood unitGood seen rejected miswired healthy fails
  have step := exec_frameArrival (char := char) powered enabled collecting eight
  have verdict := judgeFrame_frame (char := char) eight ch s.now { c with assembler := .hunting }
  refine ⟨fun crc => ?_, fun crc => ⟨?_, fun bad most below stands => ?_, fun bad fails => ?_, fun type unit soon => ?_⟩⟩
  · rw [if_pos crc] at verdict
    rw [step, arriveFrame_refused (new := { c with
      assembler := .hunting, stats := { c.stats with check := min 65535 (c.stats.check + 1) } })]
    · rw [verdict]
      decide
    · rw [Channel.afterFrame, verdict]
      rfl
    · rfl
  · rw [if_neg (not_not.2 crc)] at verdict
    have received := arriveFrame_sameReceipt ch (bytes ++ [char]) s ch
    rw [set_self] at received
    obtain ⟨seen, check, assembler⟩ := afterFrame_receipt (ch := ch) (bytes := bytes ++ [char]) (now := s.now)
      (c := { c with assembler := .hunting }) (by rw [verdict]; split_ifs <;> decide)
    exact ⟨_, step, received.1.trans seen, received.2.1.trans check, received.2.2.trans assembler⟩
  · obtain ⟨refused, after⟩ := afterFrame_misidentified eight crc bad
    rw [step, arriveFrame_refused refused (after.trans (rejectIdentity_counts most below stands)) rfl]
    rfl
  · obtain ⟨refused, after⟩ := afterFrame_misidentified eight crc bad
    have after : Channel.afterFrame ch (bytes ++ [char]) s.now { s.scu[ch] with assembler := .hunting } = miswired :=
      after.trans (rejectIdentity_fails fails.1 fails.2)
    have moved : c.health ≠ .failed .miswired := by
      rcases fails.2 with h | h | h <;> rw [h] <;> decide
    obtain ⟨l, perm, runs⟩ := arriveFrame_runs (sample := []) (x := ⟨0, 0, 0, {}⟩) after (if_neg refused)
    rw [List.nil_append] at perm
    obtain ⟨effects, ns, tells, told⟩ := healthRuns_effects moved perm runs
    obtain ⟨fifo, accumulated, superseded, context⟩ := effects.context
    have touches := healthRuns_touch perm runs
    refine ⟨_, step, ?_, ?_, ?_, ?_, healthDelivered_of effects told tells.handed, fun slew pressure => ?_, ?_⟩
    · rw [context]
    · rw [context]
      exact congrArg (fun run => min 8 (run + 1)) fails.1
    · rw [context]
    · rw [context]
    · have plain := perm
      rw [show miswired.health = .failed .miswired from rfl, healthDeliveries_other moved pressure, if_neg slew] at plain
      obtain ⟨-, lc, whole⟩ := plainDeliveries (fun a m => by simpa using plain.mem_iff.1 m) runs
      rw [plain.count_eq] at lc
      exact ⟨lc, whole⟩
    · refine ((touches.mono rfl : Touches contextBlocks _ _).healthWork (arriveFrame ch (bytes ++ [char]) s).lc).trans ?_
      rw [touches.rs rfl]
  · have near : ∃ l ∈ c.lastFrame, (s.now - l.stamp).toNat < c.settings.spacing := soon
    rw [if_neg (not_not.2 crc), if_neg (not_not.2 type), if_neg (not_not.2 unit), if_pos near] at verdict
    rw [step, arriveFrame_refused (new := { c with
      assembler := .hunting, chatterLatch := true
      stats := { c.stats with framesSeen := seen, chatter := min 65535 (c.stats.chatter + 1) } })]
    · rw [verdict]
      decide
    · rw [Channel.afterFrame, verdict]
      rfl
    · rfl

end Sys2Proof.Machine

/-! PROOFS. A frame accepted on channel 0, 1, 2 or 4 (R4 to R8, R12 to R18, R40). -/

namespace Sys2Proof.Machine

/-! ## The computations called for -/

/-- A computation called for once more leaves one pending behind the first (R40). -/
theorem requested_again (scu : Vector Channel 6) (ps : Ps) : requested (requested (scu, ps)) =
    if ps.inFlight.isSome then (scu, { ps with pendingStart := true })
    else (fifosEmptied scu, { begun scu ps with pendingStart := true }) := by
  unfold requested
  by_cases busy : ps.inFlight.isSome = true
  · simp only [busy, if_true]
  · simp only [busy]
    rfl

/-- One computation called for by the sample, and one by a change of health (R8, R18, R40). -/
theorem requested_sample (moved : Prop) [Decidable moved] {scu : Vector Channel 6} {ps : Ps} {t : Vector Channel 6 × Ps}
    (h : t = requested^[if moved then 2 else 1] (scu, ps)) :
    (ps.inFlight.isSome → t.1 = scu ∧ t.2 = { ps with pendingStart := true }) ∧
      (ps.inFlight = none → t.1 = fifosEmptied scu ∧
        t.2 = { begun scu ps with pendingStart := ps.pendingStart || decide moved }) := by
  subst h
  by_cases twice : moved
  · rw [if_pos twice, decide_eq_true twice, Bool.or_true, Function.iterate_succ_apply, Function.iterate_one, requested_again]
    refine ⟨fun busy => ?_, fun free => ?_⟩
    · rw [if_pos busy]
      exact ⟨rfl, rfl⟩
    · rw [free]
      exact ⟨rfl, rfl⟩
  · rw [if_neg twice, decide_eq_false twice, Bool.or_false, Function.iterate_one, requested]
    refine ⟨fun busy => ?_, fun free => ?_⟩
    · rw [if_pos busy]
      exact ⟨rfl, rfl⟩
    · rw [if_neg (show ¬(scu, ps).2.inFlight.isSome = true by simp [free])]
      exact ⟨rfl, rfl⟩

/-! ## The frame accepted -/

theorem acceptedSample_eq (ch : Fin 6) (bytes : List Byte) (now : Stamp) (c : Channel) : acceptedSample ch bytes now c =
    sampleOf ch bytes (missedAt (acquiredAgain c (decide (2 ≤ frameStatus bytes))).lastFrame (frameSeq bytes) != 0) now := rfl

section
variable {ch : Fin 6} {char : Byte} {bytes : List Byte} {s : State} (eight : bytes.length = 8)
include eight

/-- A frame that passes the checks is accepted (R3 to R5). -/
theorem judgeFrame_accepted (crc : crc8 (bytes.drop 1) = char)
    (type : bytes.getD 1 0 = #v[0x11, 0x12, 0x13, 0x21, 0x31, 0x41][ch])
    (unit : bytes.getD 2 0 &&& s.scu[ch].settings.mask = s.scu[ch].settings.unit &&& s.scu[ch].settings.mask)
    (apart : ∀ l ∈ s.scu[ch].lastFrame, s.scu[ch].settings.spacing ≤ (s.lc.time - l.stamp).toNat) :
    judgeFrame ch (bytes ++ [char]) s.now { s.scu[ch] with assembler := .hunting } = .accepted := by
  rw [judgeFrame_frame eight, if_neg (not_not.2 crc), if_neg (not_not.2 type), if_neg (not_not.2 unit), if_neg]
  rintro ⟨l, ml, soon⟩
  exact absurd soon (Nat.not_lt.2 (apart l ml))

/-- The context and the sample of a frame that is accepted (R6 to R8, R11 to R17). -/
theorem frame_accepted {x : Sample} (verdict : judgeFrame ch (bytes ++ [char]) s.now { s.scu[ch] with assembler := .hunting } = .accepted)
    (on : s.scu[ch].health ≠ .off) (most : s.scu[ch].faultRun ≤ 3)
    (sample : x = sampleOf ch bytes (missedBefore s.scu[ch] (u8 bytes 3 / 16) (decide (2 ≤ u8 bytes 3 % 4)) != 0) s.lc.time) :
    Channel.afterFrame ch (bytes ++ [char]) s.now { s.scu[ch] with assembler := .hunting } = accepted s.scu[ch] (u8 bytes 3 / 16) x ∧
      acceptedSample ch (bytes ++ [char]) s.now { s.scu[ch] with assembler := .hunting } = x := by
  have status : frameStatus (bytes ++ [char]) = u8 bytes 3 % 4 := by rw [frameStatus, u8_frame eight (by omega)]
  have seq : frameSeq (bytes ++ [char]) = u8 bytes 3 / 16 := by rw [frameSeq, u8_frame eight (by omega)]
  subst sample
  refine ⟨?_, ?_⟩
  · rw [Channel.afterFrame, verdict, ← seq]
    refine accept_eq on most (by rw [status]; rfl) rfl ?_
    rw [sampleOf_frame eight, seq]
    rfl
  · rw [acceptedSample_eq, missedAt_again, sampleOf_frame eight, seq, status]
    rfl

end

/-- A frame accepted on an enabled channel: the context with its sample, and the deliveries of that and of its health (R8, R18). -/
theorem acceptedFrame {ch : Fin 6} {bytes : List Byte} {s : State} {new : Channel} {x : Sample}
    (verdict : judgeFrame ch bytes s.now { s.scu[ch] with assembler := .hunting } = .accepted)
    (after : Channel.afterFrame ch bytes s.now { s.scu[ch] with assembler := .hunting } = new)
    (sample : acceptedSample ch bytes s.now { s.scu[ch] with assembler := .hunting } = x) :
    (new.health = s.scu[ch].health → arriveFrame ch bytes s =
      ((sampleDeliveries ch new.health).map (deliverChange ch s.scu[ch].health new.health x)).foldl (fun s f => f s)
        { s with scu := s.scu.set ch new }) ∧
    ∃ l : List Delivery, l.Perm (sampleDeliveries ch new.health ++ healthDeliveries ch s.scu[ch].health new.health) ∧
      Runs (l.map (deliverChange ch s.scu[ch].health new.health x)) { s with scu := s.scu.set ch new } (arriveFrame ch bytes s) := by
  have offers : (if judgeFrame ch bytes s.now { s.scu[ch] with assembler := .hunting } = .accepted then
      sampleActions ch new.health (acceptedSample ch bytes s.now { s.scu[ch] with assembler := .hunting }) else []) =
      (sampleDeliveries ch new.health).map (deliverChange ch s.scu[ch].health new.health x) := by
    rw [if_pos verdict, sample]
    exact sampleActions_eq ch _ _ x
  exact ⟨fun kept => arriveFrame_same after kept offers, arriveFrame_runs after offers⟩

/-- The sample of a frame of channel 0, 1, 2 or 4 (R7). -/
theorem sampleOf_pose {ch : Fin 6} (slew : ch ≠ 3) (pressure : ch ≠ 5) (bytes : List Byte) (gap : Bool) (now : Stamp) :
    sampleOf ch bytes gap now =
      { a := s16 bytes 4, b := if ch = 4 then s16 bytes 6 else max (-16384) (min 16384 (s16 bytes 6)), stamp := now
        flags := { degraded := u8 bytes 3 % 4 == 1, fault := decide (2 ≤ u8 bytes 3 % 4), gap := gap, clamped := false } } := by
  revert slew pressure
  fin_cases ch <;> intro slew pressure
  · rfl
  · rfl
  · rfl
  · exact absurd rfl slew
  · rfl
  · exact absurd rfl pressure

/-- Settles O19: the sample and a change of health each call for a computation, of which at most the first begins. -/
theorem acceptedFrameQueuesSample : Obligations.AcceptedFrameQueuesSample := by
  intro ch char bytes s slew pressure powered enabled on collecting eight crc type unit apart c fault seq x after health most
  have step := exec_frameArrival (char := char) powered enabled collecting eight
  have verdict := judgeFrame_accepted eight crc type unit apart
  obtain ⟨settled, sample⟩ := frame_accepted (x := x) eight verdict on most (sampleOf_pose slew pressure bytes _ _).symm
  obtain ⟨same, l, perm, runs⟩ := acceptedFrame verdict settled sample
  have offers (h : Health) : sampleDeliveries ch h = [.computation] := by
    revert slew pressure
    unfold sampleDeliveries
    fin_cases ch <;> simp
  have becomes : (accepted c seq x).health = health := rfl
  rw [becomes, offers] at perm
  have changes : healthDeliveries ch c.health health = if health = c.health then [] else [.notice, .computation] := by
    by_cases kept : health = c.health
    · rw [if_pos kept, healthDeliveries, if_pos kept.symm]
    · rw [if_neg kept, healthDeliveries_other (Ne.symm kept) pressure, if_neg slew]
  rw [changes] at perm
  obtain ⟨solver, lc, whole⟩ := plainDeliveries (fun a m => by
    have := perm.mem_iff.1 m
    split_ifs at this <;> simp at this <;> tauto) runs
  have computations : l.count .computation = if health ≠ c.health then 2 else 1 := by
    rw [perm.count_eq]
    by_cases kept : health = c.health <;> simp [kept]
  have notices : l.count .notice = if health = c.health then 0 else 1 := by
    rw [perm.count_eq]
    by_cases kept : health = c.health <;> simp [kept]
  rw [computations] at solver
  rw [notices] at lc
  obtain ⟨busy, free⟩ := requested_sample _ solver
  refine ⟨_, step, ?_, busy, free, fun kept => ?_, whole⟩
  · rw [lc]
    split_ifs <;> rfl
  · rw [same kept, becomes, offers]
    exact (requestComputation_frame { s with scu := after }).choices rfl

end Sys2Proof.Machine

/-! PROOFS. An increment of the service items, whole: the entries, the cap, the advice and the notices (R145, R150 to R154). -/

namespace Sys2Proof.Machine

/-! ## Notices that stay in the part -/

/-- A notice in the part stays there while notices that replace none are handed over (R174). -/
theorem queueNotice_leaves {n m : Notice} {s : State} (plain : m.replacesItsKind = false) (h : noticeHanded n s.lc) :
    noticeHanded n (queueNotice m s).lc := by
  refine pump_handed _ ?_
  rw [enqueue_appends (.inl plain)]
  split_ifs
  · exact h.imp_left (List.mem_append_left _)
  · exact h

theorem queueNotices_leave {n : Notice} {ns : List Notice} {s : State} (plain : ∀ m ∈ ns, m.replacesItsKind = false)
    (h : HandedOrFull n s.lc) : HandedOrFull n (queueNotices ns s).lc := by
  refine h.imp (fun h => ?_) fun full => full.trans (queueNotices_frame ns s).lc.number
  induction ns generalizing s with
  | nil => exact h
  | cons m ns ih =>
    exact ih (fun x mx => plain x (List.mem_cons_of_mem _ mx)) (.inl (queueNotice_leaves (plain m List.mem_cons_self) h))
      (queueNotice_leaves (plain m List.mem_cons_self) h)

/-- A notice with others before it, and behind it ones that replace none, is in the part given room (R174). -/
theorem Tells.withRoom {n : Notice} {before after : List Notice} {s t : State} (h : Tells (before ++ n :: after) s t)
    (plain : ∀ m ∈ after, m.replacesItsKind = false) : handedWithRoom n t.lc := by
  rw [h.1, queueNotices_append]
  exact (queueNotices_leave plain (queueNotice_handedOrFull n (queueNotices before s))).withRoom

/-! ## An increment at one entry (R151 to R153) -/

/-- The entry an increment finds, incremented if it is of its basis. -/
def incrementedEntry (b : Basis) (n : Nat) (e : Option ServiceEntry) : Option ServiceEntry :=
  e.map fun e => incremented (if e.item.definition.basis = b then n else 0) e

/-- The SERVICE ATTENTION of an entry that advances (R153). -/
def attentionOf (i : Fin 24) (before after : Option ServiceEntry) (time : Stamp) : List Notice :=
  match before, after with
  | some e, some e' => if e.state.code < e'.state.code then [.serviceAttention i e.state e'.state e'.item time] else []
  | _, _ => []

theorem advances_eq {old new : ItemState} (h : new ≠ .suspended) : advances old new = decide (old.code < new.code) := by
  cases new with
  | suspended => exact absurd rfl h
  | _ => cases old <;> rfl

theorem stateByCount_counts (d : ServiceDef) (n : Nat) : stateByCount d n ≠ .suspended := by
  unfold stateByCount
  split_ifs <;> decide

theorem evaluate_running {i : ServiceItem} (runs : i.suspended = false) : ServiceItem.evaluate i = stateByCount i.definition i.consumed := by
  rw [ServiceItem.evaluate, runs]
  rfl

theorem increment_state {e : ServiceEntry} (runs : e.item.suspended = false) (n : Nat) : (ServiceEntry.increment n e).state =
    stateByCount e.item.definition (satAdd max32 e.item.consumed n) :=
  evaluate_running (i := { e.item with consumed := satAdd max32 e.item.consumed n }) runs

theorem increment_advances {e : ServiceEntry} (runs : e.item.suspended = false) (n : Nat) :
    advances e.state (ServiceEntry.increment n e).state = decide (e.state.code < (ServiceEntry.increment n e).state.code) := by
  refine advances_eq ?_
  rw [increment_state runs]
  exact stateByCount_counts _ _

theorem increment_eq {n : Nat} {e : ServiceEntry} (some' : n ≠ 0) (runs : e.item.suspended = false) :
    ServiceEntry.increment n e = incremented n e := by
  have whole : ServiceEntry.increment n e = {
      item := { e.item with
        consumed := satAdd max32 e.item.consumed n
        attention := e.item.attention || advances e.state (ServiceEntry.increment n e).state }
      state := (ServiceEntry.increment n e).state } := rfl
  rw [whole, increment_advances runs, increment_state runs, incremented, if_neg (by simp [some', runs])]
  rfl

/-- An increment of another basis, or of a suspended item, finds nothing (R152). -/
theorem incrementedEntry_unreached {b : Basis} {n : Nat} {e : Option ServiceEntry} (h : reaches b e = false) :
    incrementedEntry b n e = e := by
  cases e with
  | none => rfl
  | some e =>
    have out : (if e.item.definition.basis = b then n else 0) = 0 ∨ e.item.suspended = true := by
      by_cases basis : e.item.definition.basis = b
      · exact .inr (by simpa [reaches, basis] using h)
      · exact .inl (if_neg basis)
    rw [incrementedEntry, Option.map_some, incremented, if_pos out]

theorem attentionOf_same (i : Fin 24) (e : Option ServiceEntry) (time : Stamp) : attentionOf i e e time = [] := by
  cases e with
  | none => rfl
  | some e => exact if_neg (Nat.lt_irrefl _)

/-- An increment at one entry: the entry and its notice (R152, R153). -/
theorem incrementEntry_eq {b : Basis} {n : Nat} (some' : n ≠ 0) (i : Fin 24) (s : State) : incrementEntry b n i s = { s with
    st := { s.st with entries := s.st.entries.set i (incrementedEntry b n s.st.entries[i]) }
    lc := (queueNotices (attentionOf i s.st.entries[i] (incrementedEntry b n s.st.entries[i]) s.lc.time) s).lc } := by
  cases reached : reaches b s.st.entries[i] with
  | false =>
    rw [incrementEntry_unreached reached, incrementedEntry_unreached reached, attentionOf_same,
      show s.st.entries.set i s.st.entries[i] = s.st.entries from Vector.set_getElem_self i.isLt]
    rfl
  | true =>
    obtain ⟨e, held⟩ : ∃ e, s.st.entries[i] = some e := by
      cases h : s.st.entries[i] with
      | none => rw [h] at reached; cases reached
      | some e => exact ⟨e, rfl⟩
    rw [held] at reached
    obtain ⟨basis, runs⟩ : e.item.definition.basis = b ∧ e.item.suspended = false := by simpa [reaches] using reached
    have entry : incrementedEntry b n s.st.entries[i] = some (incremented n e) := by
      rw [incrementedEntry, held, Option.map_some, if_pos basis]
    rw [entry, held]
    unfold incrementEntry
    simp only [held, reached, if_true, increment_advances runs, decide_eq_true_eq]
    rw [increment_eq some' runs, attentionOf]
    split_ifs <;> rfl

/-! ## An increment of the table (R151 to R154) -/

/-- The notices of an increment at some entries, in their order (R153). -/
def attentions (b : Basis) (n : Nat) (l : List (Fin 24)) (s : State) : List Notice :=
  l.flatMap fun i => attentionOf i s.st.entries[i] (incrementedEntry b n s.st.entries[i]) s.lc.time

theorem increments_eq {b : Basis} {n : Nat} (some' : n ≠ 0) {l : List (Fin 24)} (distinct : l.Nodup) (s : State) :
    ∃ entries, l.foldl (fun s i => incrementEntry b n i s) s = { s with
        st := { s.st with entries := entries }, lc := (queueNotices (attentions b n l s) s).lc } ∧
      ∀ i : Fin 24, entries[i] = if i ∈ l then incrementedEntry b n s.st.entries[i] else s.st.entries[i] := by
  induction l generalizing s with
  | nil => exact ⟨s.st.entries, rfl, fun i => rfl⟩
  | cons k l ih =>
    obtain ⟨outside, distinct⟩ := List.nodup_cons.1 distinct
    obtain ⟨entries, eq, each⟩ := ih distinct (incrementEntry b n k s)
    rw [List.foldl_cons]
    have first := incrementEntry_eq (b := b) some' k s
    generalize incrementEntry b n k s = u at first eq each
    have at' (i : Fin 24) : u.st.entries[i] = if i = k then incrementedEntry b n s.st.entries[i] else s.st.entries[i] := by
      rw [first]
      split_ifs with same
      · subst same
        exact Vector.getElem_set_self ..
      · exact Vector.getElem_set_ne k.isLt i.isLt fun e => same (Fin.ext e.symm)
    have time : u.lc.time = s.lc.time := by
      rw [first]
      exact (queueNotices_frame _ s).lc.time
    have rest : attentions b n l u = attentions b n l s := by
      unfold attentions
      refine List.flatMap_congr fun i m => ?_
      have apart : i ≠ k := fun same => outside (same ▸ m)
      rw [at', if_neg apart, time]
    have told : (queueNotices (attentions b n l s) u).lc = (queueNotices (attentions b n (k :: l) s) s).lc := by
      rw [attentions, attentions, List.flatMap_cons, queueNotices_append]
      refine queueNotices_congr _ (by rw [first]) ?_
      rw [(queueNotices_frame _ s).rs rfl, first]
      exact .refl _
    refine ⟨entries, ?_, fun i => ?_⟩
    · rw [eq, rest, told, first]
    · rw [each, at']
      by_cases same : i = k
      · subst same
        rw [if_neg outside, if_pos rfl, if_pos List.mem_cons_self]
      · simp [same]

/-- The notice of an advice that the settling of the cap changes (R145). -/
def adviceNotices (before after : Advice) (time : Stamp) : List Notice :=
  if after = before then [] else [.engineAdvice after time]

theorem lcWithAdvice_tells {a : Advice} {s t : State} (lc : t.lc = lcWithAdvice a s) (rs : SameRestart t.rs s.rs) :
    Tells (adviceNotices s.em.lastAdvice a s.lc.time) s t := by
  refine ⟨?_, rs⟩
  rw [lc, lcWithAdvice, adviceNotices]
  split_ifs <;> rfl

/-- An increment taken whole: the entries, the cap, the Economy Manager, the notices, and nothing else but the mark (R145, R152 to
R154). -/
structure Incremented (b : Basis) (n : Nat) (s t : State) : Prop where
  entries : ∀ i : Fin 24, t.st.entries[i] = incrementedEntry b n s.st.entries[i]
  cap     : t.st.reportedCap = lowestCap t.st.entries
  em      : t.em = emWithCap t.st.reportedCap s
  told    : Tells (attentions b n (List.finRange 24) s ++ adviceNotices s.em.lastAdvice t.em.lastAdvice s.lc.time) s t
  rs      : t.rs = s.rs ∨ t.rs = Rs.mark s.rs
  whole   : t = { s with em := t.em, st := t.st, rs := t.rs, lc := t.lc }

theorem takeIncrement_incremented {b : Basis} {n : Nat} (some' : n ≠ 0) (s : State) : Incremented b n s (takeIncrement b n s) := by
  obtain ⟨entries, eq, each⟩ := increments_eq (b := b) some' (List.nodup_finRange 24) s
  have marked (touched : Bool) (u : State) : (if touched = true then markRetained u else u) =
      { u with rs := if touched then Rs.mark u.rs else u.rs } := by
    cases touched <;> rfl
  have unfolded : takeIncrement b n s = settleCap { s with
      st := { s.st with entries := entries }
      rs := if s.st.entries.toList.any (reaches b) then Rs.mark s.rs else s.rs
      lc := (queueNotices (attentions b n (List.finRange 24) s) s).lc } := by
    unfold takeIncrement
    rw [if_neg some']
    simp only []
    rw [eq, marked]
  rw [unfolded, settleCap_eq]
  refine ⟨fun i => ?_, rfl, rfl, ?_, ?_, rfl⟩
  · exact (each i).trans (if_pos (List.mem_finRange i))
  · generalize hu : ({ s with
      st := { s.st with entries := entries }
      rs := if s.st.entries.toList.any (reaches b) then Rs.mark s.rs else s.rs
      lc := (queueNotices (attentions b n (List.finRange 24) s) s).lc } : State) = u
    have rs : SameRestart u.rs s.rs := by
      rw [← hu]
      show SameRestart (if _ then _ else _) _
      split_ifs
      · exact Rs.mark_sameRestart _
      · exact .refl _
    have first : Tells (attentions b n (List.finRange 24) s) s u := ⟨by rw [← hu], rs⟩
    have time : u.lc.time = s.lc.time := by
      rw [← hu]
      exact (queueNotices_frame _ s).lc.time
    have same : u.em = s.em := by rw [← hu]
    rw [← same, ← time]
    exact first.trans (lcWithAdvice_tells rfl (.refl _))
  · by_cases touched : s.st.entries.toList.any (reaches b) = true
    · exact .inr (if_pos touched)
    · exact .inl (if_neg touched)

end Sys2Proof.Machine

/-! PROOFS. The slew travel and its whole turns (R92, R93). -/

namespace Sys2Proof.Machine

/-- The travel remainder once a slew angle is read, before a turn is taken from it (R92, R93). -/
abbrev slewTotal (angle : Angle) (sl : Sl) : Nat :=
  sl.travel + (match sl.prevAngle with
    | none => 0
    | some p => (angle - p).toInt.natAbs)

/-- The travel completes a turn (R93). -/
abbrev SlewTurned (angle : Angle) (sl : Sl) : Prop := sl.prevAngle.isSome ∧ 65536 ≤ slewTotal angle sl

/-- A slew angle read (R92, R93, R145, R151 to R154). -/
structure SlewTravelled (angle : Angle) (s t : State) : Prop where
  sl      : t.sl = { s.sl with
    prevAngle := some angle
    travel := if SlewTurned angle s.sl then slewTotal angle s.sl - 65536 else slewTotal angle s.sl
    turns := if SlewTurned angle s.sl then s.sl.turns + 1 else s.sl.turns }
  rs      : t.rs = if SlewTurned angle s.sl then Rs.mark s.rs else s.rs
  entries : ∀ i : Fin 24, t.st.entries[i] = s.st.entries[i].map fun e =>
    incremented (if SlewTurned angle s.sl ∧ e.item.definition.basis = .slewTurns then 65536 else 0) e
  lowest  : IsLowestCap s.st.entries s.st.reportedCap → IsLowestCap t.st.entries t.st.reportedCap
  capped  : t.st.reportedCap ≠ s.st.reportedCap → t.em.cap = t.st.reportedCap ∧ AdviceStands t.em t.em.lastAdvice
  em      : t.em = { s.em with cap := t.em.cap, lastAdvice := t.em.lastAdvice }
  still   : ¬SlewTurned angle s.sl → t.em = s.em ∧ t.st = s.st ∧ t.lc = s.lc
  told    : ∃ ns, Tells (ns ++ adviceNotices s.em.lastAdvice t.em.lastAdvice s.lc.time) s t ∧ ns.length ≤ 24 ∧
    ∀ i : Fin 24, ∀ e ∈ s.st.entries[i], ∀ e' ∈ t.st.entries[i], e.state.code < e'.state.code →
      .serviceAttention i e.state e'.state e'.item s.lc.time ∈ ns
  whole   : t = { s with sl := t.sl, em := t.em, st := t.st, rs := t.rs, lc := t.lc }

theorem incremented_zero (e : Option ServiceEntry) : e.map (fun e => incremented 0 e) = e := by
  cases e with
  | none => rfl
  | some e => rw [Option.map_some, incremented, if_pos (.inl rfl)]

theorem adviceNotices_self (a : Advice) (time : Stamp) : adviceNotices a a time = [] := if_pos rfl

/-- A slew angle that completes no turn (R92). -/
theorem slewTravelled_still {angle : Angle} {s : State} (turned : ¬SlewTurned angle s.sl) : SlewTravelled angle s
    (onSl (fun sl => { sl with prevAngle := some angle, travel := slewTotal angle sl }) s) := by
  have same (i : Fin 24) : s.st.entries[i] = s.st.entries[i].map fun e =>
      incremented (if SlewTurned angle s.sl ∧ e.item.definition.basis = .slewTurns then 65536 else 0) e := by
    simp only [turned, false_and, if_false, incremented_zero]
  refine ⟨?_, (if_neg turned).symm, same, id, fun h => absurd rfl h, rfl, fun _ => ⟨rfl, rfl, rfl⟩,
    ⟨[], ?_, Nat.zero_le _, fun i e he e' he' less => ?_⟩, rfl⟩
  · rw [if_neg turned, if_neg turned]
    rfl
  · show Tells ([] ++ adviceNotices s.em.lastAdvice s.em.lastAdvice _) s _
    rw [adviceNotices_self]
    exact .silent rfl (.refl _)
  · cases (show some e = some e' from he.symm.trans he')
    exact absurd less (Nat.lt_irrefl _)

theorem attentions_length (b : Basis) (n : Nat) (s : State) : (attentions b n (List.finRange 24) s).length ≤ 24 := by
  refine (flatMap_length_le _ fun i => ?_).trans (by rw [List.length_finRange])
  unfold attentionOf
  split
  · split <;> simp
  · simp

/-- Each entry that an increment advances is among the notices (R153). -/
theorem mem_attentions {b : Basis} {n : Nat} {s : State} {i : Fin 24} {e e' : ServiceEntry} (before : e ∈ s.st.entries[i])
    (after : e' ∈ incrementedEntry b n s.st.entries[i]) (less : e.state.code < e'.state.code) :
    .serviceAttention i e.state e'.state e'.item s.lc.time ∈ attentions b n (List.finRange 24) s := by
  refine List.mem_flatMap.2 ⟨i, List.mem_finRange i, ?_⟩
  rw [Option.mem_def.1 after, Option.mem_def.1 before, attentionOf, if_pos less]
  exact List.mem_singleton_self _

/-- A slew angle that completes a turn (R93, R145, R151 to R154). -/
theorem slewTravelled_turned {angle : Angle} {s : State} (turned : SlewTurned angle s.sl) : SlewTravelled angle s
    (countTurn (onSl (fun sl => { sl with prevAngle := some angle, travel := slewTotal angle sl }) s)) := by
  generalize hu : markRetained (onSl (fun sl => { sl with travel := sl.travel - 65536, turns := sl.turns + 1 })
    (onSl (fun sl => { sl with prevAngle := some angle, travel := slewTotal angle sl }) s)) = u
  have counted := takeIncrement_incremented (b := .slewTurns) (n := 65536) (by decide) u
  rw [countTurn, hu]
  generalize takeIncrement .slewTurns 65536 u = t at counted
  obtain ⟨entries, cap, em, told, rs, whole⟩ := counted
  have st : u.st = s.st := by rw [← hu]; rfl
  have em' : u.em = s.em := by rw [← hu]; rfl
  have lc : u.lc = s.lc := by rw [← hu]; rfl
  have rs' : u.rs = Rs.mark s.rs := by rw [← hu]; rfl
  have sl : t.sl = u.sl := by rw [whole]
  have lowest : IsLowestCap t.st.entries t.st.reportedCap := by rw [cap]; exact lowestCap_isLowest _
  rw [emWithCap, st, em'] at em
  refine ⟨?_, ?_, fun i => ?_, fun _ => lowest, fun moved => ?_, ?_, fun h => absurd turned h, ⟨attentions .slewTurns 65536 (List.finRange 24) u, ?_,
    attentions_length _ _ u, fun i e he e' he' less => ?_⟩, ?_⟩
  · rw [sl, ← hu, if_pos turned, if_pos turned]
    rfl
  · rw [if_pos turned]
    rcases rs with h | h <;> rw [h, rs']
    exact mark_mark _
  · rw [entries i, st, incrementedEntry]
    simp only [eq_true turned, true_and]
  · rw [em, if_neg moved]
    exact ⟨rfl, advice_stands _ _⟩
  · rw [em]
    split_ifs <;> rfl
  · rw [em', lc] at told
    exact ⟨told.1.trans (queueNotices_congr _ lc (by rw [rs']; exact Rs.mark_sameRestart _)),
      told.2.trans (by rw [rs']; exact Rs.mark_sameRestart _)⟩
  · rw [← lc]
    rw [← st] at he
    rw [entries] at he'
    exact mem_attentions he he' less
  · rw [whole, ← hu]
    rfl

/-- A good sample of the slew channel (R92, R93). -/
theorem readSlewTravel_good {x : Sample} {angle : Angle} (good : x.flags.fault = false) (reads : BitVec.ofInt 16 x.a = angle) (s : State) :
    SlewTravelled angle s (readSlewTravel x s) := by
  unfold readSlewTravel
  rw [good]
  simp only [reads]
  cases prev : s.sl.prevAngle with
  | none =>
    have total : slewTotal angle s.sl = s.sl.travel := by simp [slewTotal, prev]
    have still := slewTravelled_still (angle := angle) (s := s) (by simp [SlewTurned, prev])
    rw [onSl, total] at still
    exact still
  | some p =>
    have total : slewTotal angle s.sl = s.sl.travel + (angle - p).toInt.natAbs := by simp [slewTotal, prev]
    show SlewTravelled angle s (if 65536 ≤ s.sl.travel + (angle - p).toInt.natAbs
      then countTurn { s with sl := { s.sl with prevAngle := some angle, travel := s.sl.travel + (angle - p).toInt.natAbs } }
      else { s with sl := { s.sl with prevAngle := some angle, travel := s.sl.travel + (angle - p).toInt.natAbs } })
    rw [← total]
    split_ifs with turned
    · exact slewTravelled_turned ⟨by rw [prev]; rfl, turned⟩
    · exact slewTravelled_still fun h => turned h.2

end Sys2Proof.Machine

/-! PROOFS. A sample accepted on the slew channel (R6 to R9, R11 to R14, R16 to R18, R92, R93). -/

namespace Sys2Proof.Machine

theorem Runs.withChoices {l : List (State → State)} {s t : State} (h : Runs l s t) (n : Nat) : Runs l s { t with choices := n } := by
  induction l generalizing s with
  | nil => obtain ⟨m, rfl⟩ := h; exact ⟨n, rfl⟩
  | cons f l ih => obtain ⟨m, h⟩ := h; exact ⟨m, ih h⟩

/-- The one run of an action that is among others once. -/
theorem Runs.once {α : Type} [DecidableEq α] {l : List α} {a : α} {f : α → State → State} {s t : State}
    (runs : Runs (l.map f) s t) (once : l.count a = 1) : ∃ l₁ l₂ u, l.Perm (a :: (l₁ ++ l₂)) ∧ a ∉ l₁ ++ l₂ ∧
      Runs (l₁.map f) s u ∧ Runs (l₂.map f) (f a u) t := by
  obtain ⟨l₁, l₂, rfl⟩ := List.append_of_mem (List.count_pos_iff.1 (by omega : 0 < l.count a))
  rw [List.map_append, List.map_cons] at runs
  obtain ⟨u, first, n, last⟩ := runs.append
  refine ⟨l₁, l₂, { u with choices := n }, List.perm_middle, ?_, ?_, last⟩
  · rw [List.perm_middle.count_eq, List.count_cons_self] at once
    exact List.count_eq_zero.1 (by omega)
  · exact first.withChoices n

/-! ## What the deliveries beside the slew angle leave -/

/-- The Slew Limiter's travel, the Economy Manager, the service items and the store are the same, and so are the inputs, the authority
and the zones held. -/
structure SlewUnread (s t : State) : Prop where
  prevAngle : t.sl.prevAngle = s.sl.prevAngle
  pose      : t.sl.pose = s.sl.pose
  settings  : t.sl.settings = s.sl.settings
  travel    : t.sl.travel = s.sl.travel
  turns     : t.sl.turns = s.sl.turns
  inputs    : t.mlu.inputs = s.mlu.inputs
  authority : t.mlu.authority = s.mlu.authority
  held      : ∀ k : Fin 16, t.zt.zones[k].held = s.zt.zones[k].held
  em        : t.em = s.em
  st        : t.st = s.st
  rs        : t.rs = s.rs

theorem SlewUnread.refl (s : State) : SlewUnread s s := ⟨rfl, rfl, rfl, rfl, rfl, rfl, rfl, fun _ => rfl, rfl, rfl, rfl⟩

theorem SlewUnread.trans {s t u : State} (h : SlewUnread s t) (k : SlewUnread t u) : SlewUnread s u :=
  ⟨k.prevAngle.trans h.prevAngle, k.pose.trans h.pose, k.settings.trans h.settings, k.travel.trans h.travel, k.turns.trans h.turns,
    k.inputs.trans h.inputs, k.authority.trans h.authority, fun i => (k.held i).trans (h.held i), k.em.trans h.em, k.st.trans h.st,
    k.rs.trans h.rs⟩

theorem Touches.slewUnread {b : Blocks} {s t : State} (h : Touches b s t) (sl : b.sl = false) (mlu : b.mlu = false)
    (zt : b.zt = false) (em : b.em = false) (st : b.st = false) (rs : b.rs = false) : SlewUnread s t := by
  constructor <;> simp only [h.sl sl, h.mlu mlu, h.zt zt, h.em em, h.st st, h.rs rs, implies_true]

theorem deliverHealthToSl_unread {new : Health} (up : new.isDown = false) (s : State) : SlewUnread s (deliverHealthToSl new s) := by
  obtain ⟨-, prevAngle, pose, settings, travel, turns, inputs, authority, held⟩ := deliverHealthToSl_taken new s
  have frame := deliverHealthToSl_frame new s
  rw [up] at prevAngle
  exact ⟨prevAngle, pose, settings, travel, turns, inputs, authority, held, frame.em rfl, frame.st rfl, frame.rs rfl⟩

/-- The deliveries beside the slew angle, the channel neither FAILED nor OFF. -/
theorem unreadRuns {ch : Fin 6} {old new : Health} {x : Sample} {l : List Delivery} {s t : State} (up : new.isDown = false)
    (only : ∀ a ∈ l, a = .notice ∨ a = .computation ∨ a = .slewHealth) (runs : Runs (l.map (deliverChange ch old new x)) s t) :
    SlewUnread s t := by
  refine Runs.keeps (P := SlewUnread s) (fun u n h => ⟨h.1, h.2, h.3, h.4, h.5, h.6, h.7, h.8, h.9, h.10, h.11⟩) runs
    (fun g m u h => ?_) (.refl s)
  obtain ⟨a, ma, rfl⟩ := List.mem_map.1 m
  rcases only a ma with rfl | rfl | rfl
  · exact h.trans ((queueNotice_frame _ u).touches.slewUnread rfl rfl rfl rfl rfl rfl)
  · exact h.trans ((requestComputation_frame u).touches.slewUnread rfl rfl rfl rfl rfl rfl)
  · exact h.trans (deliverHealthToSl_unread up u)

theorem forall₂_right {α β : Type} {Q : β → Prop} {l : List α} {r : List β} (h : List.Forall₂ (fun _ b => Q b) l r) : ∀ b ∈ r, Q b := by
  induction h with
  | nil => exact fun _ m => absurd m List.not_mem_nil
  | cons fits _ ih => exact List.forall_mem_cons.2 ⟨fits, ih⟩

theorem DeliveryTells.plain {ch : Fin 6} {old new : Health} {time : Stamp} {a : Delivery} {ns : List Notice}
    (h : DeliveryTells ch old new time a ns) : ∀ n ∈ ns, n.replacesItsKind = false := by
  cases a with
  | notice =>
    rw [show ns = _ from h]
    exact fun n m => by rw [List.mem_singleton.1 m]; rfl
  | slewHealth => exact h.2
  | computation | pressureHealth | slewTravel | pressureOffer =>
    rw [show ns = _ from h]
    exact fun _ m => absurd m List.not_mem_nil

/-- The notices of a change of health take the place of none. -/
theorem deliveryNotices_plain {ch : Fin 6} {old new : Health} {time : Stamp} {l : List Delivery} {nss : List (List Notice)}
    (each : List.Forall₂ (DeliveryTells ch old new time) l nss) : ∀ n ∈ nss.flatten, n.replacesItsKind = false := by
  intro n m
  obtain ⟨ns, mns, mn⟩ := List.mem_flatten.1 m
  exact forall₂_right (each.imp fun _ _ h => h.plain) ns mns n mn

/-! ## The health and the sample -/

theorem healthAfterSample_fault {c : Channel} {now : Stamp} (moved : healthAfterSample c true now ≠ c.health) :
    healthAfterSample c true now = .failed .sensorFault := by
  unfold healthAfterSample at moved ⊢
  simp only [if_true] at moved ⊢
  split_ifs at moved ⊢
  · rfl
  · exact absurd rfl moved

theorem sampled_up (p : Prop) [Decidable p] : (if p then Health.live else .acquiring).isDown = false := by
  split <;> rfl

/-- A good sample leaves a channel in FAILED(MISWIRED), in FAILED(BREAK) and in OFF, and no other (R17). -/
theorem healthAfterSample_good {c : Channel} (now : Stamp) (on : c.health ≠ .off) :
    if c.health = .failed .miswired ∨ c.health = .failed .lineBreak then healthAfterSample c false now = c.health
    else (healthAfterSample c false now).isDown = false := by
  unfold healthAfterSample
  cases h : c.health with
  | off => exact absurd h on
  | failed r => cases r <;> rfl
  | acquiring =>
    exact sampled_up _
  | live => rfl
  | stale => rfl

/-- The sample of a frame of the slew channel (R7). -/
theorem sampleOf_slew (bytes : List Byte) (gap : Bool) (now : Stamp) : sampleOf 3 bytes gap now =
    { a := u8 bytes 4 * 256 + u8 bytes 5, b := max (-16384) (min 16384 (s16 bytes 6)), stamp := now
      flags := { degraded := u8 bytes 3 % 4 == 1, fault := decide ¬u8 bytes 3 % 4 < 2, gap := gap, clamped := false } } := by
  have fault : decide (2 ≤ frameStatus bytes) = decide ¬u8 bytes 3 % 4 < 2 := decide_eq_decide.2 Nat.not_lt.symm
  unfold sampleOf
  rw [fault]
  simp [frameValues, u16, frameStatus, clampInt]

/-! ## The arrival of a slew sample -/

/-- A slew angle read among the deliveries of a change of health, if any (R18, R92, R93). -/
structure SlewArrival (angle : Angle) (s t : State) (us ws : List Notice) : Prop where
  parts : ∃ u v, SlewUnread s u ∧ SlewTravelled angle u v ∧ SlewUnread v t ∧ Tells us s u ∧ Tells ws v t
  plain : ∀ n ∈ ws, n.replacesItsKind = false

theorem unread_tells {s u : State} (h : SlewUnread s u) : SameRestart u.rs s.rs := by
  rw [h.rs]
  exact .refl _

section
variable {angle : Angle} {s t : State} {us ws : List Notice} (h : SlewArrival angle s t us ws)
include h

/-- The notices of a slew angle read, among others. -/
theorem SlewArrival.told : ∃ ns, ns.length ≤ 24 ∧
    (∀ i : Fin 24, ∀ e ∈ s.st.entries[i], ∀ e' ∈ t.st.entries[i], e.state.code < e'.state.code →
      .serviceAttention i e.state e'.state e'.item s.lc.time ∈ ns) ∧
    Tells (us ++ (ns ++ adviceNotices s.em.lastAdvice t.em.lastAdvice s.lc.time) ++ ws) s t := by
  obtain ⟨u, v, before, read, after, first, last⟩ := h.parts
  obtain ⟨ns, told, few, each⟩ := read.told
  have time : u.lc.time = s.lc.time := by
    rw [first.1]
    exact (queueNotices_frame us s).lc.time
  rw [before.em, time, ← after.em] at told
  rw [before.st, time, ← after.st] at each
  exact ⟨ns, few, each, (first.trans told).trans last⟩

/-- A changed advice is handed over (R145). -/
theorem SlewArrival.advised : AdviceHanded s t := by
  intro moved
  obtain ⟨ns, -, -, told⟩ := h.told
  rw [adviceNotices, if_neg moved, ← List.append_assoc, List.append_assoc] at told
  exact told.withRoom (before := us ++ ns) h.plain

/-- The items that advance have their SERVICE ATTENTION, with no change of health before (R153). -/
theorem SlewArrival.attended (alone : us = []) : AttentionNoticed s t := by
  intro room i e he e' he' less
  obtain ⟨ns, few, each, told⟩ := h.told
  rw [alone, List.nil_append, List.append_assoc] at told
  exact told.handed.first (each i e he e' he' less) few rfl (by norm_num) room

/-- Without a turn the notices are those of the change of health (R18). -/
theorem SlewArrival.untold (still : ¬SlewTurned angle s.sl) : Tells (us ++ ws) s t := by
  obtain ⟨u, v, before, read, after, first, last⟩ := h.parts
  have still' : ¬SlewTurned angle u.sl := by
    unfold SlewTurned slewTotal at still ⊢
    rwa [before.prevAngle, before.travel]
  have rs := read.rs
  rw [if_neg still'] at rs
  exact first.trans (last.after (read.still still').2.2 (by rw [rs]; exact .refl _))

/-- What a slew angle read leaves (R92, R93, R145, R150 to R154). -/
theorem SlewArrival.effects : t.sl.prevAngle = some angle ∧
    t.sl.travel = (if SlewTurned angle s.sl then slewTotal angle s.sl - 65536 else slewTotal angle s.sl) ∧
    t.sl.turns = (if SlewTurned angle s.sl then s.sl.turns + 1 else s.sl.turns) ∧ t.sl.pose = s.sl.pose ∧
    t.sl.settings = s.sl.settings ∧ t.rs = (if SlewTurned angle s.sl then Rs.mark s.rs else s.rs) ∧
    (∀ i : Fin 24, t.st.entries[i] = s.st.entries[i].map fun e =>
      incremented (if SlewTurned angle s.sl ∧ e.item.definition.basis = .slewTurns then 65536 else 0) e) ∧
    (IsLowestCap s.st.entries s.st.reportedCap → IsLowestCap t.st.entries t.st.reportedCap) ∧
    (t.st.reportedCap ≠ s.st.reportedCap → t.em.cap = t.st.reportedCap) ∧
    t.em = { s.em with cap := t.em.cap, lastAdvice := t.em.lastAdvice } ∧
    (t.st.reportedCap ≠ s.st.reportedCap → AdviceStands t.em t.em.lastAdvice) ∧
    (¬SlewTurned angle s.sl → t.em = s.em ∧ t.st = s.st) := by
  obtain ⟨u, v, before, read, after, -, -⟩ := h.parts
  obtain ⟨sl, rs, entries, lowest, capped, em, still, -, -⟩ := read
  have same : SlewTurned angle u.sl ↔ SlewTurned angle s.sl := by
    unfold SlewTurned slewTotal
    rw [before.prevAngle, before.travel]
  have total : slewTotal angle u.sl = slewTotal angle s.sl := by
    unfold slewTotal
    rw [before.prevAngle, before.travel]
  simp only [same, total, before.turns, before.pose, before.settings, before.rs, before.st, before.em] at sl rs entries lowest capped em still
  rw [after.prevAngle, after.travel, after.turns, after.pose, after.settings, after.rs, after.st, after.em]
  rw [sl]
  exact ⟨rfl, rfl, rfl, rfl, rfl, rs, entries, lowest, fun m => (capped m).1, em, fun m => (capped m).2,
    fun n => ⟨(still n).1, (still n).2.1⟩⟩

end

end Sys2Proof.Machine

/-! PROOFS. A sample accepted on the slew channel, settled (R6 to R9, R11 to R14, R16 to R18, R92, R93). -/

namespace Sys2Proof.Machine

section
variable {old new : Health} {x : Sample} {angle : Angle} {l : List Delivery} {s t : State}

/-- A change of health and a slew angle read, the channel neither FAILED nor OFF (R18, R92). -/
theorem slewDeliveries (up : new.isDown = false) (good : x.flags.fault = false) (reads : BitVec.ofInt 16 x.a = angle)
    (perm : l.Perm ([.computation, .slewTravel] ++ [.notice, .computation, .slewHealth]))
    (runs : Runs (l.map (deliverChange 3 old new x)) s t) :
    ∃ us ws, SlewArrival angle s t us ws ∧ (us ++ ws).length ≤ 18 ∧ .channelHealth 3 old new s.lc.time ∈ us ++ ws ∧
      t.sl.health = new := by
  obtain ⟨l₁, l₂, u, parts, out, first, last⟩ := runs.once (a := .slewTravel) (by rw [perm.count_eq]; rfl)
  have rest : (l₁ ++ l₂).Perm [.computation, .notice, .computation, .slewHealth] :=
    (List.perm_cons _).1 ((parts.symm.trans perm).trans (List.Perm.swap _ _ _))
  have only : ∀ a ∈ l₁ ++ l₂, a = .notice ∨ a = .computation ∨ a = .slewHealth := fun a m => by
    have := rest.mem_iff.1 m
    simp at this
    tauto
  have only₁ := fun a m => only a (List.mem_append_left l₂ m)
  have only₂ := fun a m => only a (List.mem_append_right l₁ m)
  obtain ⟨nss₁, each₁, told₁⟩ := healthDeliveries_tell only₁ first
  obtain ⟨nss₂, each₂, told₂⟩ := healthDeliveries_tell only₂ last
  have read : SlewTravelled angle u (readSlewTravel x u) := readSlewTravel_good good reads u
  have time : (readSlewTravel x u).lc.time = s.lc.time := by
    rw [(readSlewTravel_frame x u).lc.time, told₁.1]
    exact (queueNotices_frame _ s).lc.time
  rw [show (deliverChange 3 old new x .slewTravel u).lc.time = s.lc.time from time] at each₂
  have each := List.rel_append each₁ each₂
  refine ⟨nss₁.flatten, nss₂.flatten, ⟨⟨u, readSlewTravel x u, unreadRuns up only₁ first, read, unreadRuns up only₂ last, told₁, told₂⟩,
    deliveryNotices_plain each₂⟩, ?_, ?_, ?_⟩
  · rw [← List.flatten_append]
    refine (flatten_length_le (w := fun a => if a = .notice then 1 else if a = .slewHealth then 17 else 0) ?_ each).trans ?_
    · intro a ns fits
      cases a <;> simp_all [DeliveryTells]
    · rw [(rest.map _).sum_eq]
      decide
  · rw [← List.flatten_append]
    obtain ⟨ns, mem, fits⟩ := forall₂_mem each (rest.mem_iff.2 (by simp) : Delivery.notice ∈ l₁ ++ l₂)
    exact List.mem_flatten_of_mem mem (by rw [show ns = _ from fits]; exact List.mem_singleton_self _)
  · have slewed : Delivery.slewHealth ∈ l := perm.mem_iff.2 (by simp)
    refine (runs.establishes (P := fun _ => True) (Q := fun u => u.sl.health = new) (fun _ _ _ => trivial) (fun _ _ h => h)
      (fun _ _ _ _ => trivial) (fun g m u _ h => ?_) (.inr ⟨_, List.mem_map_of_mem slewed, fun u _ =>
        (deliverHealthToSl_taken new u).health⟩) trivial).2
    obtain ⟨a, ma, rfl⟩ := List.mem_map.1 m
    have ma := perm.mem_iff.1 ma
    simp only [List.cons_append, List.nil_append, List.mem_cons, List.not_mem_nil, or_false] at ma
    rcases ma with rfl | rfl | rfl | rfl | rfl
    · rw [show (deliverChange 3 old new x .computation u).sl = u.sl from (requestComputation_frame u).sl rfl]
      exact h
    · rw [show (deliverChange 3 old new x .slewTravel u).sl = _ from (readSlewTravel_good good reads u).sl]
      exact h
    · exact h
    · rw [show (deliverChange 3 old new x .computation u).sl = u.sl from (requestComputation_frame u).sl rfl]
      exact h
    · exact (deliverHealthToSl_taken new u).health

end

/-- What the arrival of a slew sample does, by its cases (R17, R18, R92). -/
inductive SlewOutcome (good : Prop) (old new : Health) (angle : Angle) (s t : State) : Prop
  | unread (kept : new = old) (passed : ¬good ∨ old = .failed .miswired ∨ old = .failed .lineBreak)
      (whole : t = { s with scu := t.scu, ps := t.ps })
  | read (isGood : good) (kept : new = old) (up : new.isDown = false) (arrival : SlewArrival angle s t [] [])
      (sl : t.sl = { s.sl with prevAngle := t.sl.prevAngle, travel := t.sl.travel, turns := t.sl.turns })
      (whole : t = { s with scu := t.scu, ps := t.ps, sl := t.sl, em := t.em, st := t.st, rs := t.rs, lc := t.lc })
  | moved (isGood : good) (changed : new ≠ old) (ends : ¬(old = .failed .miswired ∨ old = .failed .lineBreak)) (us ws : List Notice) (arrival : SlewArrival angle s t us ws)
      (few : (us ++ ws).length ≤ 18) (noticed : .channelHealth 3 old new s.lc.time ∈ us ++ ws) (health : t.sl.health = new)
  | failed (isFault : ¬good) (fails : new = .failed .sensorFault) (changed : new ≠ old) (taken : SlewHealthTaken new s t)
      (told : ∃ ns, Tells ns s t ∧ HealthTold 3 old new s ns) (em : t.em = s.em) (st : t.st = s.st) (rs : t.rs = s.rs)

/-- What an arrival leaves of the lines and the zones (R18, R92). -/
theorem SlewArrival.lines {angle : Angle} {s t : State} {us ws : List Notice} (h : SlewArrival angle s t us ws) :
    (∀ k : Fin 16, t.zt.zones[k].held = s.zt.zones[k].held) ∧ t.mlu.inputs = s.mlu.inputs ∧ t.mlu.authority = s.mlu.authority := by
  obtain ⟨u, v, before, read, after, -, -⟩ := h.parts
  have mlu : v.mlu = u.mlu := by rw [read.whole]
  have zt : v.zt = u.zt := by rw [read.whole]
  have held := after.held
  have inputs := after.inputs
  have authority := after.authority
  rw [mlu] at inputs authority
  simp only [zt] at held
  exact ⟨fun k => (held k).trans (before.held k), inputs.trans before.inputs, authority.trans before.authority⟩

theorem SlewOutcome.lines {good : Prop} {old new : Health} {angle : Angle} {s t : State} (h : SlewOutcome good old new angle s t) :
    (∀ k : Fin 16, t.zt.zones[k].held = s.zt.zones[k].held) ∧ t.mlu.inputs = s.mlu.inputs ∧ t.mlu.authority = s.mlu.authority ∧
      t.sl.health = (if new = old then s.sl.health else new) := by
  cases h with
  | unread kept passed whole =>
    rw [if_pos kept, whole]
    exact ⟨fun _ => rfl, rfl, rfl, rfl⟩
  | read isGood kept up arrival sl whole =>
    obtain ⟨held, inputs, authority⟩ := arrival.lines
    exact ⟨held, inputs, authority, by rw [if_pos kept, sl]⟩
  | moved isGood changed ends us ws arrival few noticed health =>
    obtain ⟨held, inputs, authority⟩ := arrival.lines
    exact ⟨held, inputs, authority, by rw [if_neg changed, health]⟩
  | failed isFault fails changed taken told em st rs => exact ⟨taken.held, taken.inputs, taken.authority, by rw [if_neg changed, taken.health]⟩

/-- The deliveries of a slew sample leave the Cycle Tracker and the Load Recorder. -/
theorem slewRuns_touch {old new : Health} {x : Sample} {l : List Delivery} {s t : State}
    (perm : l.Perm (sampleDeliveries 3 new ++ healthDeliveries 3 old new)) (runs : Runs (l.map (deliverChange 3 old new x)) s t) :
    Touches { scu := true, mlu := true, ps := true, zt := true, sl := true, em := true, st := true, rs := true, choices := true } s t := by
  refine runs.touches fun a m u => ?_
  have apart : a = .notice ∨ a = .computation ∨ a = .slewHealth ∨ a = .slewTravel := by
    have := perm.mem_iff.1 m
    unfold sampleDeliveries healthDeliveries at this
    split_ifs at this <;> simp_all <;> tauto
  rcases apart with rfl | rfl | rfl | rfl
  · exact (queueNotice_frame _ u).touchesWithin rfl
  · exact (requestComputation_frame u).touchesWithin rfl
  · exact (deliverHealthToSl_frame new u).touchesWithin rfl
  · exact (readSlewTravel_frame x u).touchesWithin rfl

theorem sampleDeliveries_slew (h : Health) :
    sampleDeliveries 3 h = .computation :: if h.isDown then [] else [.slewTravel] := by
  unfold sampleDeliveries
  cases h.isDown <;> rfl

/-- A change beforehand that the slew angle's share does not read. -/
theorem SlewArrival.after {angle : Angle} {s s' t : State} {us ws : List Notice} (h : SlewArrival angle s' t us ws)
    (same : SlewUnread s s') (lc : s'.lc = s.lc) : SlewArrival angle s t us ws := by
  obtain ⟨u, v, before, read, after, first, last⟩ := h.parts
  exact ⟨⟨u, v, same.trans before, read, after, first.after lc (unread_tells same), last⟩, h.plain⟩

/-- The computations that a slew sample and its change of health call for (R8, R18). -/
theorem slewRuns_count {old new : Health} {l : List Delivery} (perm : l.Perm (sampleDeliveries 3 new ++ healthDeliveries 3 old new)) :
    (.pressureHealth ∉ l ∧ .pressureOffer ∉ l) ∧ l.count .computation = if new ≠ old then 2 else 1 := by
  simp only [perm.mem_iff, perm.count_eq, sampleDeliveries_slew]
  by_cases kept : new = old
  · rw [if_neg (not_not.2 kept), healthDeliveries, if_pos kept.symm]
    cases new.isDown <;> decide
  · rw [if_pos kept, healthDeliveries_other (Ne.symm kept) (by decide)]
    cases new.isDown <;> decide

/-- What the arrival of a frame accepted on the slew channel does. -/
theorem slewOutcome {c settled : Channel} {x : Sample} {good : Prop} [Decidable good] {angle : Angle} {s t : State} {now : Stamp}
    (on : c.health ≠ .off) (fault : x.flags.fault = decide ¬good) (reads : BitVec.ofInt 16 x.a = angle)
    (health : settled.health = healthAfterSample c (decide ¬good) now) {l : List Delivery}
    (same : settled.health = c.health → t = ((sampleDeliveries 3 settled.health).map
      (deliverChange 3 c.health settled.health x)).foldl (fun s f => f s) { s with scu := s.scu.set 3 settled })
    (perm : l.Perm (sampleDeliveries 3 settled.health ++ healthDeliveries 3 c.health settled.health))
    (runs : Runs (l.map (deliverChange 3 c.health settled.health x)) { s with scu := s.scu.set 3 settled } t) :
    SlewOutcome good c.health settled.health angle s t := by
  have requested : requestComputation { s with scu := s.scu.set 3 settled } = { s with
      scu := (requestComputation { s with scu := s.scu.set 3 settled }).scu
      ps := (requestComputation { s with scu := s.scu.set 3 settled }).ps } := requestComputation_else _
  have entered : SlewUnread s { s with scu := s.scu.set 3 settled } := ⟨rfl, rfl, rfl, rfl, rfl, rfl, rfl, fun _ => rfl, rfl, rfl, rfl⟩
  by_cases isGood : good
  · have stays := healthAfterSample_good now on
    rw [show (decide ¬good) = false from decide_eq_false (not_not.2 isGood)] at health fault
    rw [← health] at stays
    split_ifs at stays with down
    · have deliveries : sampleDeliveries 3 settled.health = [.computation] := by
        rw [sampleDeliveries_slew, stays]
        rcases down with h | h <;> rw [h] <;> rfl
      rw [deliveries] at same
      refine .unread stays (.inr down) ?_
      rw [same stays]
      exact requested
    · have deliveries : sampleDeliveries 3 settled.health = [.computation, .slewTravel] := by
        rw [sampleDeliveries_slew, stays]
        rfl
      rw [deliveries] at same perm
      by_cases kept : settled.health = c.health
      · have eq := same kept
        have unread : SlewUnread s (requestComputation { s with scu := s.scu.set 3 settled }) :=
          entered.trans ((requestComputation_frame _).touches.slewUnread rfl rfl rfl rfl rfl rfl)
        have read : SlewTravelled angle (requestComputation { s with scu := s.scu.set 3 settled }) t := by
          rw [eq]
          exact readSlewTravel_good fault reads _
        have lc : (requestComputation { s with scu := s.scu.set 3 settled }).lc = s.lc := by rw [requested]
        refine .read isGood kept stays ⟨⟨_, t, unread, read, .refl _, .silent lc (unread_tells unread), .silent rfl (.refl _)⟩,
          by simp⟩ ?_ ?_
        · rw [read.sl, requested]
        have scu : t.scu = (requestComputation { s with scu := s.scu.set 3 settled }).scu := by
          rw [eq]
          exact (readSlewTravel_frame x _).scu rfl
        have ps : t.ps = (requestComputation { s with scu := s.scu.set 3 settled }).ps := by
          rw [eq]
          exact (readSlewTravel_frame x _).ps rfl
        have whole := read.whole
        rw [requested, ← scu, ← ps] at whole
        exact whole
      · rw [healthDeliveries_other (Ne.symm kept) (by decide)] at perm
        obtain ⟨us, ws, arrival, few, noticed, becomes⟩ := slewDeliveries stays fault reads perm runs
        exact .moved isGood kept down us ws (arrival.after entered rfl) few noticed becomes
  · rw [show (decide ¬good) = true from decide_eq_true isGood] at health fault
    by_cases kept : settled.health = c.health
    · refine .unread kept (.inl isGood) ?_
      have passed (u : State) : readSlewTravel x u = u := by
        unfold readSlewTravel
        rw [fault]
        rfl
      have deliveries : t = requestComputation { s with scu := s.scu.set 3 settled } := by
        rw [same kept, sampleDeliveries_slew]
        cases settled.health.isDown
        · exact passed _
        · rfl
      rw [deliveries]
      exact requested
    · have fails : settled.health = .failed .sensorFault := by
        rw [health] at kept ⊢
        exact healthAfterSample_fault kept
      rw [sampleDeliveries_slew, healthDeliveries_other (Ne.symm kept) (by decide), fails] at perm
      have only : ∀ a ∈ l, a = .notice ∨ a = .computation ∨ a = .slewHealth := fun a m => by
        have := perm.mem_iff.1 m
        simp [Health.isDown] at this
        tauto
      have slewed : Delivery.slewHealth ∈ l := perm.mem_iff.2 (by simp)
      have touches : Touches { scu := true, mlu := true, ps := true, zt := true, sl := true, choices := true }
          { s with scu := s.scu.set 3 settled } t := runs.touches fun a m u => by
        rcases only a m with rfl | rfl | rfl
        · exact (queueNotice_frame _ u).touchesWithin rfl
        · exact (requestComputation_frame u).touchesWithin rfl
        · exact (deliverHealthToSl_frame _ u).touchesWithin rfl
      obtain ⟨nss, each, tells⟩ := healthDeliveries_tell only runs
      refine .failed isGood fails kept (SlewHealthPending.taken (t := { s with scu := s.scu.set 3 settled })
        ⟨.inl rfl, rfl, rfl, rfl, rfl, rfl, rfl, fun _ => rfl⟩ (slewHealth_runs only slewed runs))
        ⟨_, tells.after rfl (.refl _), ?_, ?_, fun h => absurd h (by decide)⟩ (touches.em rfl) (touches.st rfl) (touches.rs rfl)
      · refine (flatten_length_le (w := fun a => if a = .notice then 1 else if a = .slewHealth then 17 else 0) ?_ each).trans ?_
        · intro a ns fits
          cases a <;> simp_all [DeliveryTells]
        · rw [(perm.map _).sum_eq]
          decide
      · obtain ⟨ns, mem, fits⟩ := forall₂_mem each (perm.mem_iff.2 (by simp) : Delivery.notice ∈ l)
        exact List.mem_flatten_of_mem mem (by rw [show ns = _ from fits]; exact List.mem_singleton_self _)

/-- The claims about the slew angle, the notices and the failure, by the outcome (R92, R93, R145, R150 to R154). -/
theorem SlewOutcome.claims {good : Prop} {old new : Health} {angle : Angle} {s t : State} (h : SlewOutcome good old new angle s t) :
    (new ≠ old → ¬(good ∧ SlewTurned angle s.sl) → s.lc.notices.length ≤ 14 →
      noticeHanded (.channelHealth 3 old new s.lc.time) t.lc) ∧
    (good → old ≠ .failed .miswired → old ≠ .failed .lineBreak → t.sl.prevAngle = some angle ∧
      t.sl.travel = (if SlewTurned angle s.sl then slewTotal angle s.sl - 65536 else slewTotal angle s.sl) ∧
      t.sl.turns = (if SlewTurned angle s.sl then s.sl.turns + 1 else s.sl.turns) ∧ t.sl.pose = s.sl.pose ∧
      t.sl.settings = s.sl.settings ∧ t.rs = (if SlewTurned angle s.sl then Rs.mark s.rs else s.rs) ∧
      (∀ i : Fin 24, t.st.entries[i] = s.st.entries[i].map fun e =>
        incremented (if SlewTurned angle s.sl ∧ e.item.definition.basis = .slewTurns then 65536 else 0) e) ∧
      (IsLowestCap s.st.entries s.st.reportedCap → IsLowestCap t.st.entries t.st.reportedCap) ∧
      (t.st.reportedCap ≠ s.st.reportedCap → t.em.cap = t.st.reportedCap) ∧
      t.em = { s.em with cap := t.em.cap, lastAdvice := t.em.lastAdvice } ∧
      (t.st.reportedCap ≠ s.st.reportedCap → AdviceStands t.em t.em.lastAdvice) ∧ AdviceHanded s t ∧
      (¬SlewTurned angle s.sl → t.em = s.em ∧ t.st = s.st) ∧ (new = old → AttentionNoticed s t)) ∧
    (good → new = old →
      t.sl = { s.sl with prevAngle := t.sl.prevAngle, travel := t.sl.travel, turns := t.sl.turns } ∧ t.mlu = s.mlu ∧ t.zt = s.zt) ∧
    (good → old = .failed .miswired ∨ old = .failed .lineBreak → t = { s with scu := t.scu, ps := t.ps }) ∧
    (¬good → new = old → t = { s with scu := t.scu, ps := t.ps }) ∧
    (¬good → new ≠ old → new = .failed .sensorFault ∧ t.sl.prevAngle = none ∧ t.sl.travel = s.sl.travel ∧
      t.sl.turns = s.sl.turns ∧ t.rs = s.rs ∧ t.em = s.em ∧ t.st = s.st) := by
  cases h with
  | unread kept passed whole =>
    refine ⟨fun h => absurd kept h, fun isGood miswired line => absurd passed (by tauto), fun _ _ => ?_, fun _ _ => whole,
      fun _ _ => whole, fun _ h => absurd kept h⟩
    rw [whole]
    exact ⟨rfl, rfl, rfl⟩
  | read isGood kept up arrival sl whole =>
    refine ⟨fun h => absurd kept h, fun _ _ _ => ?_, fun _ _ => ⟨sl, ?_, ?_⟩, fun _ down => ?_, fun h => absurd isGood h,
      fun h => absurd isGood h⟩
    · obtain ⟨prevAngle, travel, turns, pose, settings, rs, entries, lowest, cap, em, stands, still⟩ := arrival.effects
      exact ⟨prevAngle, travel, turns, pose, settings, rs, entries, lowest, cap, em, stands, arrival.advised, still,
        fun _ => arrival.attended rfl⟩
    · rw [whole]
    · rw [whole]
    · rw [← kept] at down
      rcases down with h | h <;> rw [h] at up <;> cases up
  | moved isGood changed ends us ws arrival few noticed health =>
    refine ⟨fun _ still room => ?_, fun _ _ _ => ?_, fun _ h => absurd h changed, fun _ h => absurd h ends, fun h => absurd isGood h,
      fun h => absurd isGood h⟩
    · exact (arrival.untold fun turned => still ⟨isGood, turned⟩).handed.within noticed few rfl (by norm_num) room
    · obtain ⟨prevAngle, travel, turns, pose, settings, rs, entries, lowest, cap, em, stands, still⟩ := arrival.effects
      exact ⟨prevAngle, travel, turns, pose, settings, rs, entries, lowest, cap, em, stands, arrival.advised, still,
        fun h => absurd h changed⟩
  | failed isFault fails changed taken told em st rs =>
    obtain ⟨ns, tells, told⟩ := told
    refine ⟨fun _ _ room => tells.handed.within told.notice told.few rfl (by norm_num) room, fun h => absurd h isFault,
      fun h => absurd h isFault, fun h => absurd h isFault, fun _ h => absurd h changed, fun _ _ =>
        ⟨fails, ?_, taken.travel, taken.turns, rs, em, st⟩⟩
    rw [taken.prevAngle, fails]
    rfl

/-- The angle of a slew sample (R7). -/
theorem slewAngle_eq (bytes : List Byte) : BitVec.ofInt 16 ((u8 bytes 4 : Int) * 256 + u8 bytes 5) =
    BitVec.ofNat 16 (u8 bytes 4 * 256 + u8 bytes 5) := by
  rw [← BitVec.ofInt_natCast]
  push_cast
  rfl

/-- Settles O20: the sample's reading and the deliveries of a change of health in any order, by what the sample makes of the health. -/
theorem slewSampleAddsTravel : Obligations.SlewSampleAddsTravel := by
  intro char bytes s powered enabled on most collecting eight crc type unit apart c good old new angle seq x after total turned
  have step := exec_frameArrival (char := char) powered enabled collecting eight
  have verdict := judgeFrame_accepted (ch := 3) eight crc type unit apart
  have fault : decide (2 ≤ u8 bytes 3 % 4) = decide ¬good := decide_eq_decide.2 Nat.not_lt.symm
  obtain ⟨settled, sample⟩ := frame_accepted (x := x) eight verdict on most (by
    rw [sampleOf_slew, fault])
  obtain ⟨same, l, perm, runs⟩ := acceptedFrame verdict settled sample
  have outcome := slewOutcome (good := good) (angle := angle) (now := s.lc.time) on rfl (slewAngle_eq bytes) rfl same perm runs
  have touches := slewRuns_touch perm runs
  obtain ⟨apart, computations⟩ := slewRuns_count perm
  have solver := deliveries_requested apart runs
  rw [computations] at solver
  obtain ⟨busy, free⟩ := requested_sample _ solver
  generalize arriveFrame 3 (bytes ++ [char]) s = t at *
  obtain ⟨held, inputs, authority, health⟩ := outcome.lines
  refine ⟨t, step, busy, free, held, inputs, authority, touches.ct rfl, touches.lr rfl, touches.powered.trans powered, ?_, health, ?_⟩
  · cases idle : s.ps.inFlight with
    | none =>
      rw [show t.scu = _ from (free idle).1, fifosEmptied_get, if_neg (by decide)]
      exact congrArg Channel.health (set_self s.scu 3 _)
    | some w =>
      rw [show t.scu = _ from (busy (by rw [idle]; rfl)).1]
      exact congrArg Channel.health (set_self s.scu 3 _)
  · exact outcome.claims

end Sys2Proof.Machine

/-! PROOFS. A sample accepted on the pressure channel (R6 to R8, R10, R12 to R14, R16 to R19, R96, R103 to R105, R111, R115). -/

namespace Sys2Proof.Machine

/-! ## The samples that wait (R10, R96) -/

theorem dropHead_fifo {c : Channel} {x : Sample} {rest : List Sample} (h : c.fifo = x :: rest) : (Channel.dropHead c).fifo = rest := by
  unfold Channel.dropHead Channel.noteHead
  rw [h]
  cases rest <;> rfl

/-- Samples taken in two parts add the flags that they add together (R11). -/
theorem drained_drained {c : Channel} {front rest : List Sample} (h : c.fifo = front ++ rest) :
    drained [] (drained rest c) = drained [] c := by
  induction front generalizing c with
  | nil => rw [drained_self (show c.fifo = rest from h)]
  | cons x front ih =>
    rw [← drained_dropHead rest h (by simp), ← drained_dropHead [] h (by simp)]
    exact ih (dropHead_fifo h)

theorem pressureTaken_suffix (g : Geometry) (ct : Ct) (fifo : List Sample) : (pressureTaken g ct fifo).2 <:+ fifo := by
  induction fifo generalizing ct with
  | nil => exact List.suffix_refl _
  | cons x rest ih =>
    unfold pressureTaken
    split_ifs
    · exact List.suffix_refl _
    · exact (ih _).trans (List.suffix_cons x rest)
    · exact (ih _).trans (List.suffix_cons x rest)

/-- The pressure samples offered to the Cycle Tracker as it stands (R10). -/
def offered (u : State) : State := withPressureTaken u.ct u

theorem offered_self (u : State) : (offered u).scu[(5 : Fin 6)] =
    drained (pressureTaken u.ps.geometry u.ct u.scu[(5 : Fin 6)].fifo).2 u.scu[(5 : Fin 6)] := withPressureTaken_self u.ct u

/-- Samples offered before the rest are taken add the flags that all add together (R11). -/
theorem drained_offered (u : State) : drained [] (offered u).scu[(5 : Fin 6)] = drained [] u.scu[(5 : Fin 6)] := by
  obtain ⟨front, e⟩ := pressureTaken_suffix u.ps.geometry u.ct u.scu[(5 : Fin 6)].fifo
  rw [offered_self]
  exact drained_drained e.symm

/-- With no sample waiting an offer changes nothing. -/
theorem offered_none {u : State} (h : u.scu[(5 : Fin 6)].fifo = []) : offered u = u := by
  rw [offered, withPressureTaken_none (by rw [h]; rfl)]

/-- While the step is BUSY an offer changes nothing (R10). -/
theorem offered_busy {u : State} (h : u.ct.step.isSome = true) : offered u = u := by
  refine withPressureTaken_none ?_
  cases u.scu[(5 : Fin 6)].fifo with
  | nil => rfl
  | cons x rest => rw [pressureTaken, if_pos h]

/-- One sample offered while the step is READY (R10, R96). -/
theorem pressureTaken_single {g : Geometry} {ct : Ct} (x : Sample) (ready : ct.step = none) :
    pressureTaken g ct [x] = (if x.flags.fault then ct else forceTaken (x.a * g.ah - x.b * g.ar) ct, []) := by
  rw [pressureTaken, if_neg (by rw [ready]; exact Bool.false_ne_true)]
  rfl

/-! ## The health delivered, no run ending -/

/-- The health copied, the force absent in FAILED and OFF (R96). -/
def healthTaken (new : Health) (u : State) : State := { u with ct := forceCleared new { u.ct with health := new } }

theorem forceTaken_copied (f : Int) (h : Health) (force : Option Int) (ct : Ct) :
    forceTaken f { ct with health := h, force := force } = { forceTaken f ct with health := h } := by
  unfold forceTaken
  cases ct.window with
  | none => rfl
  | some w =>
    simp only []
    split_ifs <;> rfl

/-- What the Cycle Tracker makes of the samples does not turn on the health copied or the latest force (R96, R103). -/
theorem pressureTaken_health (g : Geometry) (h : Health) (force : Option Int) (ct : Ct) (fifo : List Sample) :
    (pressureTaken g { ct with health := h, force := force } fifo).2 = (pressureTaken g ct fifo).2 := by
  induction fifo generalizing ct force with
  | nil => rfl
  | cons x rest ih =>
    rw [pressureTaken, pressureTaken]
    by_cases busy : ct.step.isSome = true
    · rw [if_pos busy, if_pos busy]
    · rw [if_neg busy, if_neg busy]
      by_cases fault : x.flags.fault = true
      · rw [if_pos fault, if_pos fault]
        exact ih force ct
      · rw [if_neg fault, if_neg fault, forceTaken_copied]
        exact ih (forceTaken _ ct).force (forceTaken _ ct)

theorem offered_healthTaken_scu (new : Health) (u : State) : (offered (healthTaken new u)).scu = (offered u).scu := by
  unfold offered withPressureTaken healthTaken forceCleared
  simp only [pressureTaken_health]

/-! ## The deliveries of a pressure sample -/

/-- States alike but for the notices and the free choices. -/
def Alike (a b : State) : Prop := ∃ lc n, b = { a with lc := lc, choices := n }

theorem Alike.refl (a : State) : Alike a a := ⟨a.lc, a.choices, rfl⟩

theorem Alike.trans {a b c : State} (h : Alike a b) (k : Alike b c) : Alike a c := by
  obtain ⟨lc, n, rfl⟩ := h
  obtain ⟨lc, n, rfl⟩ := k
  exact ⟨lc, n, rfl⟩

theorem Alike.offered {a b : State} (h : Alike a b) : Alike (offered a) (Machine.offered b) := by
  obtain ⟨lc, n, rfl⟩ := h
  exact ⟨lc, n, rfl⟩

section
variable {old new : Health} {x : Sample} {l : List Delivery} {s t : State}

theorem noticeRuns (only : ∀ a ∈ l, a = .notice) (runs : Runs (l.map (deliverChange 5 old new x)) s t) : Alike s t := by
  refine Runs.keeps (P := Alike s) (fun u n h => h.trans ⟨u.lc, n, rfl⟩) runs (fun g m u h => ?_) (.refl s)
  obtain ⟨a, ma, rfl⟩ := List.mem_map.1 m
  rw [only a ma]
  exact h.trans ⟨_, u.choices, rfl⟩

/-- The offer, with notices before and after. -/
theorem offerRuns (only : ∀ a ∈ l, a = .notice ∨ a = .pressureOffer) (once : l.count .pressureOffer ≤ 1)
    (runs : Runs (l.map (deliverChange 5 old new x)) s t) : Alike (if .pressureOffer ∈ l then offered s else s) t := by
  induction l generalizing s with
  | nil => exact noticeRuns (l := []) (by simp) runs
  | cons a l ih =>
    rcases only a List.mem_cons_self with rfl | rfl
    · obtain ⟨n, runs⟩ := runs
      have rest := ih (fun b m => only b (List.mem_cons_of_mem _ m)) (by simpa using once) runs
      have first : Alike s (deliverChange 5 old new x .notice { s with choices := n }) := ⟨_, n, rfl⟩
      simp only [List.mem_cons, reduceCtorEq, false_or]
      split_ifs at rest ⊢
      · exact first.offered.trans rest
      · exact first.trans rest
    · obtain ⟨n, runs⟩ := runs
      rw [List.count_cons_self] at once
      have gone : Delivery.pressureOffer ∉ l := List.count_eq_zero.1 (by omega)
      have rest := noticeRuns (fun b m => (only b (List.mem_cons_of_mem _ m)).resolve_right fun e => gone (e ▸ m)) runs
      rw [if_pos List.mem_cons_self]
      have first : Alike (offered s) (deliverChange 5 old new x .pressureOffer { s with choices := n }) := by
        rw [show deliverChange 5 old new x .pressureOffer { s with choices := n } = offered { s with choices := n } from
          drainPressure_eq _]
        exact Alike.offered ⟨s.lc, n, rfl⟩
      exact first.trans rest

end

/-- The notices of an offer and of a change of health. -/
theorem offerRuns_tell {old new : Health} {x : Sample} {l : List Delivery} {s t : State}
    (only : ∀ a ∈ l, a = .notice ∨ a = .pressureOffer) (runs : Runs (l.map (deliverChange 5 old new x)) s t) :
    Tells (List.replicate (l.count .notice) (.channelHealth 5 old new s.lc.time)) s t := by
  induction l generalizing s with
  | nil =>
    obtain ⟨n, rfl⟩ := runs
    exact .silent rfl (.refl _)
  | cons a l ih =>
    obtain ⟨n, runs⟩ := runs
    have rest := ih (fun b m => only b (List.mem_cons_of_mem _ m)) runs
    rcases only a List.mem_cons_self with rfl | rfl
    · rw [show (deliverChange 5 old new x .notice { s with choices := n }).lc.time = s.lc.time from
        (queueNotice_frame _ _).lc.time] at rest
      rw [List.count_cons_self, List.replicate_succ]
      exact (Tells.after (s := s) (queueNotice_tells _ { s with choices := n }) rfl (.refl _)).trans rest
    · have offers : deliverChange 5 old new x .pressureOffer { s with choices := n } = offered { s with choices := n } :=
        drainPressure_eq _
      rw [offers] at rest
      rw [List.count_cons_of_ne (by decide)]
      exact rest.after rfl (.refl _)

/-- A change of health delivered beside a pressure sample (R8, R10, R18): the health is delivered in a state `u` in which the sample
has been offered or not, and then the sample is offered if it has not been. -/
theorem pressureRuns {old new : Health} {x : Sample} {l : List Delivery} {s t : State}
    (perm : l.Perm [.pressureOffer, .notice, .pressureHealth]) (runs : Runs (l.map (deliverChange 5 old new x)) s t) :
    ∃ u, ((Alike (offered s) u ∧ Alike (deliverHealthToCt new u) t) ∨
      (Alike s u ∧ Alike (offered (deliverHealthToCt new u)) t)) ∧
      ∃ ns ms, Tells ns s u ∧ Tells ms (deliverHealthToCt new u) t ∧ ns ++ ms = [.channelHealth 5 old new s.lc.time] := by
  obtain ⟨l₁, l₂, u, parts, out, first, last⟩ := runs.once (a := .pressureHealth) (by rw [perm.count_eq]; rfl)
  have swapped : ([.pressureOffer, .notice, .pressureHealth] : List Delivery).Perm [.pressureHealth, .pressureOffer, .notice] :=
    List.perm_append_comm (l₁ := [Delivery.pressureOffer, .notice]) (l₂ := [.pressureHealth])
  have rest : (l₁ ++ l₂).Perm [.pressureOffer, .notice] := (List.perm_cons _).1 (parts.symm.trans (perm.trans swapped))
  have only : ∀ a ∈ l₁ ++ l₂, a = .notice ∨ a = .pressureOffer := fun a m => by
    have := rest.mem_iff.1 m
    simp at this
    tauto
  have only₁ := fun a m => only a (List.mem_append_left l₂ m)
  have only₂ := fun a m => only a (List.mem_append_right l₁ m)
  have offers : l₁.count .pressureOffer + l₂.count .pressureOffer = 1 := by
    rw [← List.count_append, rest.count_eq]
    rfl
  have notices : l₁.count .notice + l₂.count .notice = 1 := by
    rw [← List.count_append, rest.count_eq]
    rfl
  have before := offerRuns only₁ (by omega) first
  have after := offerRuns only₂ (by omega) last
  have told₁ := offerRuns_tell only₁ first
  have told₂ := offerRuns_tell only₂ last
  have time : (deliverHealthToCt new u).lc.time = s.lc.time := by
    rw [(deliverHealthToCt_frame new u).lc.time, told₁.1]
    exact (queueNotices_frame _ s).lc.time
  rw [show (deliverChange 5 old new x .pressureHealth u).lc.time = s.lc.time from time] at told₂
  refine ⟨u, ?_, _, _, told₁, told₂, ?_⟩
  · by_cases early : Delivery.pressureOffer ∈ l₁
    · have some' := List.count_pos_iff.2 early
      rw [if_pos early] at before
      rw [if_neg (List.count_eq_zero.1 (by omega))] at after
      exact .inl ⟨before, after⟩
    · have none' := List.count_eq_zero.2 early
      rw [if_neg early] at before
      rw [if_pos (List.count_pos_iff.1 (by omega))] at after
      exact .inr ⟨before, after⟩
  · rw [← List.replicate_add, notices]
    rfl

/-! ## The outcomes -/

/-- An offer before the health or after it leaves the same channel contexts. -/
theorem quiet_outcome {new : Health} {s t u : State} (quiet : ¬EndsRun new s)
    (order : (Alike (offered s) u ∧ Alike (deliverHealthToCt new u) t) ∨ (Alike s u ∧ Alike (offered (deliverHealthToCt new u)) t)) :
    ¬EndsRun new u ∧ t.scu = (offered s).scu ∧ (t.ct = (healthTaken new (offered s)).ct ∨ t.ct = (offered (healthTaken new s)).ct) ∧
      t = { s with scu := t.scu, ct := t.ct, lc := t.lc, choices := t.choices } := by
  have kept : ¬EndsRun new (offered s) := by
    obtain ⟨force, window, step, e⟩ := withPressureTaken_ct s.ct s
    unfold EndsRun offered
    rw [e]
    exact quiet
  rcases order with ⟨⟨lc, n, rfl⟩, after⟩ | ⟨⟨lc, n, rfl⟩, after⟩
  · rw [deliverHealthToCt_quiet (by exact kept)] at after
    obtain ⟨lc, n, rfl⟩ := after
    exact ⟨kept, rfl, .inl rfl, rfl⟩
  · rw [deliverHealthToCt_quiet (by exact quiet)] at after
    obtain ⟨lc, n, rfl⟩ := after
    exact ⟨quiet, offered_healthTaken_scu new s, .inr rfl, rfl⟩

/-- The run ended by the health, from the state `w` (R96, R111, R115, R117, assumption log 22). -/
def EndedFrom (new : Health) (w : State) (ct : Ct) : Prop :=
  ct = forceCleared new (runEnded w { w.ct with health := new }) ∨ ct = runEnded w (forceCleared new { w.ct with health := new })

theorem deliverHealthToCt_whole (new : Health) (u : State) : deliverHealthToCt new u = { u with
    scu := (deliverHealthToCt new u).scu, ct := (deliverHealthToCt new u).ct, lc := (deliverHealthToCt new u).lc
    choices := (deliverHealthToCt new u).choices } := by
  have touches := (deliverHealthToCt_frame new u).touches
  generalize deliverHealthToCt new u = v at touches ⊢
  obtain ⟨powered, pending⟩ := And.intro touches.powered touches.pending
  rw [← touches.mlu rfl, ← touches.ps rfl, ← touches.zt rfl, ← touches.sl rfl, ← touches.lr rfl, ← touches.em rfl, ← touches.st rfl,
    ← touches.rs rfl, ← powered, ← pending]

/-- The health that ends a run, from a state `w` in which the samples have been offered or not: an offer then finds none. -/
theorem lost_outcome {new : Health} {w u t : State} (ends : EndsRun new w) (alike : Alike w u)
    (after : Alike (deliverHealthToCt new u) t ∨ Alike (offered (deliverHealthToCt new u)) t) :
    EndsRun new u ∧ t.scu = w.scu.set 5 (drained [] w.scu[(5 : Fin 6)]) ∧ EndedFrom new w t.ct ∧
      t = { w with scu := t.scu, ct := t.ct, lc := t.lc, choices := t.choices } := by
  obtain ⟨lc, n, rfl⟩ := alike
  generalize hu : ({ w with lc := lc, choices := n } : State) = u at after
  have ends' : EndsRun new u := hu ▸ ends
  obtain ⟨scu, ct, -⟩ := deliverHealthToCt_ends ends'
  have whole := deliverHealthToCt_whole new u
  generalize deliverHealthToCt new u = v at after scu ct whole
  have empty : v.scu[(5 : Fin 6)].fifo = [] := by
    rw [scu]
    exact congrArg Channel.fifo (set_self u.scu 5 (drained [] u.scu[(5 : Fin 6)]))
  rw [offered_none empty, or_self] at after
  obtain ⟨lc', n', rfl⟩ := after
  refine ⟨ends', ?_, ?_, ?_⟩
  · rw [← hu] at scu
    exact scu
  · rw [← hu] at ct
    exact ct.symm
  · rw [whole, ← hu]

theorem ends_outcome {new : Health} {s t u : State} (ends : EndsRun new s)
    (order : (Alike (offered s) u ∧ Alike (deliverHealthToCt new u) t) ∨ (Alike s u ∧ Alike (offered (deliverHealthToCt new u)) t)) :
    EndsRun new u ∧ u.ct.run = s.ct.run ∧ t.scu = s.scu.set 5 (drained [] s.scu[(5 : Fin 6)]) ∧
      (∃ w, (w = s ∨ w = offered s) ∧ EndedFrom new w t.ct) ∧
      t = { s with scu := t.scu, ct := t.ct, lc := t.lc, choices := t.choices } := by
  obtain ⟨force, window, step, e⟩ := withPressureTaken_ct s.ct s
  have ends' : EndsRun new (offered s) := by
    unfold EndsRun offered
    rw [e]
    exact ends
  have run : (offered s).ct.run = s.ct.run := by
    unfold offered
    rw [e]
  rcases order with ⟨alike, after⟩ | ⟨alike, after⟩
  · obtain ⟨endsU, scu, ct, whole⟩ := lost_outcome ends' alike (.inl after)
    obtain ⟨lc, n, rfl⟩ := alike
    refine ⟨endsU, run, ?_, ⟨_, .inr rfl, ct⟩, whole⟩
    rw [scu, drained_offered]
    exact Vector.set_set ..
  · obtain ⟨endsU, scu, ct, whole⟩ := lost_outcome ends alike (.inr after)
    obtain ⟨lc, n, rfl⟩ := alike
    exact ⟨endsU, rfl, scu, ⟨_, .inl rfl, ct⟩, whole⟩

end Sys2Proof.Machine

/-! PROOFS. A sample accepted on the pressure channel, settled (R6 to R8, R10, R12 to R14, R16 to R19, R96, R111, R115). -/

namespace Sys2Proof.Machine

/-- The sample of a frame of the pressure channel (R7). -/
theorem sampleOf_pressure (bytes : List Byte) (gap : Bool) (now : Stamp) : sampleOf 5 bytes gap now =
    { a := max 0 (min 6000 (s16 bytes 4)), b := max 0 (min 6000 (s16 bytes 6)), stamp := now
      flags := { degraded := u8 bytes 3 % 4 == 1, fault := decide ¬u8 bytes 3 % 4 < 2, gap := gap
                 clamped := decide (max 0 (min 6000 (s16 bytes 4)) ≠ s16 bytes 4 ∨ max 0 (min 6000 (s16 bytes 6)) ≠ s16 bytes 6) } } := by
  have fault : decide (2 ≤ frameStatus bytes) = decide ¬u8 bytes 3 % 4 < 2 := decide_eq_decide.2 Nat.not_lt.symm
  have clamped (a b c d : Int) : (a != b || c != d) = decide (a ≠ b ∨ c ≠ d) := by
    rw [Bool.eq_iff_iff]
    simp
  unfold sampleOf
  rw [fault]
  simp only [frameValues, frameStatus, clampInt, clamped]
  rfl

/-! ## One sample taken -/

/-- One sample offered while the step is READY, none waiting before it (R10, R96). -/
theorem offered_single {u : State} {x : Sample} (ready : u.ct.step = none) (one : u.scu[(5 : Fin 6)].fifo = [x]) :
    (offered u).ct = (if x.flags.fault then u.ct else forceTaken (x.a * u.ps.geometry.ah - x.b * u.ps.geometry.ar) u.ct) ∧
      (offered u).scu[(5 : Fin 6)].fifo = [] := by
  rw [offered_self, one, pressureTaken_single x ready]
  refine ⟨?_, rfl⟩
  unfold offered withPressureTaken
  rw [one, pressureTaken_single x ready]

/-- A FAULT sample is passed over at the end of a run (R96, R117). -/
theorem runEnded_passed {w : State} {x : Sample} (ct : Ct) (fault : x.flags.fault = true)
    (waits : w.scu[(5 : Fin 6)].fifo = [x] ∨ w.scu[(5 : Fin 6)].fifo = []) : runEnded w ct = endedRun ct := by
  unfold runEnded withPressureTaken
  rcases waits with h | h <;> rw [h]
  · rw [pressureTaken_single x rfl, if_pos fault]
  · rfl

theorem runEnded_fields (w : State) (ct : Ct) : ∃ force window, runEnded w ct = { endedRun ct with force := force, window := window } := by
  obtain ⟨force, window, h⟩ := pressureTaken_noRun w.ps.geometry (ct := endedRun ct) w.scu[(5 : Fin 6)].fifo rfl rfl
  exact ⟨force, window, congrArg Prod.fst h⟩

/-- The end of a run leaves the tables, and neither run, step nor waiting window (R117). -/
theorem EndedFrom.fields {new : Health} {w : State} {ct : Ct} (h : EndedFrom new w ct) : ct.run = none ∧ ct.step = none ∧
    ct.waiting = [] ∧ ct.health = new ∧ ct.fempty = w.ct.fempty ∧ ct.gain = w.ct.gain := by
  rcases h with rfl | rfl
  · obtain ⟨force, window, e⟩ := runEnded_fields w { w.ct with health := new }
    rw [e]
    exact ⟨rfl, rfl, rfl, rfl, rfl, rfl⟩
  · obtain ⟨force, window, e⟩ := runEnded_fields w (forceCleared new { w.ct with health := new })
    rw [e]
    exact ⟨rfl, rfl, rfl, rfl, rfl, rfl⟩

theorem offered_tables (u : State) : (offered u).ct.fempty = u.ct.fempty ∧ (offered u).ct.gain = u.ct.gain := by
  obtain ⟨force, window, step, e⟩ := withPressureTaken_ct u.ct u
  unfold offered
  rw [e]
  exact ⟨rfl, rfl⟩

/-! ## The channel contexts -/

/-- The contexts once the pressure channel's has taken a sample and the Cycle Tracker has read of it. -/
theorem pressureContext {scu scu' : Vector Channel 6} {settled : Channel} {left : List Sample}
    (h : scu' = (scu.set 5 settled).set 5 (drained left settled)) : (∀ ch : Fin 6, ch ≠ 5 → scu'[ch] = scu[ch]) ∧
      scu'[(5 : Fin 6)] = drained left settled := by
  rw [h, Vector.set_set]
  exact ⟨fun ch other => Vector.getElem_set_ne (by decide) ch.isLt fun e => other (Fin.ext e.symm), set_self scu 5 _⟩

theorem offered_scu {s : State} {settled : Channel} : ∃ left, (offered { s with scu := s.scu.set 5 settled }).scu =
    (s.scu.set 5 settled).set 5 (drained left settled) := by
  have self : (s.scu.set 5 settled)[(5 : Fin 6)] = settled := set_self s.scu 5 settled
  refine ⟨(pressureTaken s.ps.geometry s.ct (s.scu.set 5 settled)[(5 : Fin 6)].fifo).2, ?_⟩
  show (s.scu.set 5 settled).set 5 (drained _ (s.scu.set 5 settled)[(5 : Fin 6)]) = _
  rw [self]

/-- A run that its health ends passes a FAULT sample over (R96, R115, R117). -/
theorem EndedFrom.passed {new : Health} {w : State} {x : Sample} {ct : Ct} (h : EndedFrom new w ct) (down : new.isDown = true)
    (fault : x.flags.fault = true) (waits : w.scu[(5 : Fin 6)].fifo = [x] ∨ w.scu[(5 : Fin 6)].fifo = []) : ct = { w.ct with
      run := none, step := none, waiting := [], health := new, force := none
      window := w.ct.window.map fun w => { w with forRun := false } } := by
  have gone (ct : Ct) : forceCleared new ct = { ct with force := none } := by rw [forceCleared, if_pos down]
  rcases h with rfl | rfl <;> rw [runEnded_passed _ fault waits, gone] <;> rfl

/-- What a pressure sample leaves where its health ends a run (R10, R96, R111, R115, R117). -/
structure PressureEnds (old new : Health) (settled : Channel) (s t : State) : Prop where
  scu   : t.scu = (s.scu.set 5 settled).set 5 (drained [] settled)
  ended : ∃ w, (w = { s with scu := s.scu.set 5 settled } ∨ w = offered { s with scu := s.scu.set 5 settled }) ∧ EndedFrom new w t.ct
  whole : t = { s with scu := t.scu, ct := t.ct, lc := t.lc, choices := t.choices }
  told  : s.lc.notices.length ≤ 30 → noticeHanded (.channelHealth 5 old new s.lc.time) t.lc ∧ ∀ r ∈ s.ct.run,
    noticeHanded (.calibrationResult (RunKind.isGain r.kind) (.failed .hardPressure) r.soft s.lc.time) t.lc

/-- What a pressure sample leaves where its health changes and ends no run (R10, R96). -/
structure PressureTold (old new : Health) (settled : Channel) (s t : State) : Prop where
  scu   : t.scu = (offered { s with scu := s.scu.set 5 settled }).scu
  ct    : t.ct = (healthTaken new (offered { s with scu := s.scu.set 5 settled })).ct ∨
    t.ct = (offered (healthTaken new { s with scu := s.scu.set 5 settled })).ct
  whole : t = { s with scu := t.scu, ct := t.ct, lc := t.lc, choices := t.choices }
  lc    : t.lc = (queueNotice (.channelHealth 5 old new s.lc.time) s).lc

section
variable {old new : Health} {x : Sample} {l : List Delivery} {settled : Channel} {s t : State}
  (perm : l.Perm [.pressureOffer, .notice, .pressureHealth])
  (runs : Runs (l.map (deliverChange 5 old new x)) { s with scu := s.scu.set 5 settled } t)
include perm runs

theorem pressureTold (quiet : ¬EndsRun new s) : PressureTold old new settled s t := by
  obtain ⟨u, order, ns, ms, first, last, alone⟩ := pressureRuns perm runs
  obtain ⟨quiet', scu, ct, whole⟩ := quiet_outcome (s := { s with scu := s.scu.set 5 settled }) quiet order
  have silent : Tells [] u (deliverHealthToCt new u) := by
    rw [deliverHealthToCt_quiet quiet']
    exact .silent rfl (.refl _)
  have all := ((first.trans silent).trans last).after (s := s) rfl (.refl _)
  rw [List.append_nil, alone] at all
  exact ⟨scu, ct, whole, all.1⟩

theorem pressureEnds (ends : EndsRun new s) : PressureEnds old new settled s t := by
  obtain ⟨u, order, ns, ms, first, last, alone⟩ := pressureRuns perm runs
  obtain ⟨endsU, run, scu, ended, whole⟩ := ends_outcome (s := { s with scu := s.scu.set 5 settled }) ends order
  rw [show (s.scu.set 5 settled)[(5 : Fin 6)] = settled from set_self s.scu 5 settled] at scu
  refine ⟨scu, ended, whole, fun room => ?_⟩
  obtain ⟨r, active⟩ := Option.isSome_iff_exists.1 ends.2.2
  have result := (deliverHealthToCt_ends endsU).told r (run.trans active)
  have time : u.lc.time = s.lc.time := by
    rw [first.1]
    exact (queueNotices_frame ns _).lc.time
  rw [time] at result
  have all := ((first.trans result).trans last).after (s := s) rfl (.refl _)
  have few : (ns ++ [Notice.calibrationResult (RunKind.isGain r.kind) (.failed .hardPressure) r.soft s.lc.time] ++ ms).length ≤ 2 := by
    have := congrArg List.length alone
    simp only [List.length_append, List.length_singleton] at this ⊢
    omega
  have noticed : Notice.channelHealth 5 old new s.lc.time ∈ ns ++ ms := by
    rw [alone]
    exact List.mem_singleton_self _
  refine ⟨all.handed.within ?_ few rfl (by norm_num) room, fun r' mr => ?_⟩
  · simp only [List.mem_append] at noticed ⊢
    tauto
  · cases (show some r = some r' from active.symm.trans mr)
    exact all.handed.within (by simp) few rfl (by norm_num) room

end

/-- One sample beside a change of health that ends no run, the step READY (R96, R103). -/
theorem PressureTold.single {old new : Health} {x : Sample} {settled : Channel} {s t : State} (h : PressureTold old new settled s t)
    (ready : s.ct.step = none) (one : settled.fifo = [x]) (up : x.flags.fault = false → new.isDown = false) :
    t.ct = (healthTaken new { s with
      ct := if x.flags.fault then s.ct else forceTaken (x.a * s.ps.geometry.ah - x.b * s.ps.geometry.ar) s.ct }).ct := by
  have waits : (s.scu.set 5 settled)[(5 : Fin 6)].fifo = [x] := by
    rw [show (s.scu.set 5 settled)[(5 : Fin 6)] = settled from set_self s.scu 5 settled, one]
  rcases h.ct with e | e
  · rw [e, healthTaken, (offered_single (u := { s with scu := s.scu.set 5 settled }) ready waits).1]
    rfl
  · rw [e, (offered_single (u := healthTaken new { s with scu := s.scu.set 5 settled }) ready waits).1]
    cases fault : x.flags.fault with
    | true => rfl
    | false =>
      have raised : ¬new.isDown = true := by rw [up fault]; exact Bool.false_ne_true
      simp only [healthTaken, forceCleared_up raised]
      exact forceTaken_copied _ new s.ct.force s.ct

/-- Settles O21: the health delivered before the offer or after it, ending a run or not. -/
theorem pressureSampleFeedsWindow : Obligations.PressureSampleFeedsWindow := by
  intro char bytes s powered enabled on most collecting eight crc type unit apart c good new noticed head rod force seq x settled
    entered offered' copied cleared told ended hard
  have step := exec_frameArrival (char := char) powered enabled collecting eight
  have verdict := judgeFrame_accepted (ch := 5) eight crc type unit apart
  have fault : decide (2 ≤ u8 bytes 3 % 4) = decide ¬good := decide_eq_decide.2 Nat.not_lt.symm
  obtain ⟨becomes, sample⟩ := frame_accepted (x := x) eight verdict on most (by
    rw [sampleOf_pressure, fault])
  obtain ⟨same, l, perm, runs⟩ := acceptedFrame verdict becomes sample
  have at5 : entered.scu[(5 : Fin 6)] = settled := set_self s.scu 5 settled
  have ahead : settled.fifo = if c.fifo.length < 4 then c.fifo ++ [x] else c.fifo.dropLast ++ [x] := rfl
  have single (empty : c.fifo = []) : entered.scu[(5 : Fin 6)].fifo = [x] := by
    rw [at5, ahead, empty]
    rfl
  have passes : x.flags.fault = decide ¬good := rfl
  have taken (ready : s.ct.step = none) (empty : c.fifo = []) :
      (offered entered).ct = (if good then forceTaken force s.ct else s.ct) ∧ (offered entered).scu[(5 : Fin 6)].fifo = [] := by
    obtain ⟨ct, fifo⟩ := offered_single (u := entered) ready (single empty)
    refine ⟨ct.trans ?_, fifo⟩
    rw [passes]
    by_cases isGood : good <;> simp only [isGood] <;> rfl
  by_cases kept : new = c.health
  · have eq : arriveFrame 5 (bytes ++ [char]) s = offered entered := (same kept).trans (drainPressure_eq entered)
    have quiet : ¬hard := fun h => h.1 kept
    obtain ⟨left, scu⟩ := offered_scu (s := s) (settled := settled)
    obtain ⟨others, five⟩ := pressureContext (scu' := (offered entered).scu) scu
    have still (u : State) : told u = u := if_pos kept
    refine ⟨_, step, ?_⟩
    rw [eq]
    refine ⟨others, by rw [five]; rfl, by rw [five]; rfl, rfl, fun _ => rfl, fun _ => ⟨by rw [if_pos kept]; rfl, rfl,
      .inl (congrArg State.ct (still (offered entered)).symm), fun ready empty => ⟨?_, ?_⟩, fun busy => ?_⟩, fun h => absurd h quiet⟩
    · rw [still]
      exact (taken ready empty).1
    · exact (taken ready empty).2
    · rw [still, offered_busy (u := entered) busy]
      exact ⟨rfl, congrArg Channel.fifo at5⟩
  · have deliveries : l.Perm [.pressureOffer, .notice, .pressureHealth] := by
      rw [show healthDeliveries 5 s.scu[(5 : Fin 6)].health (accepted s.scu[(5 : Fin 6)] (u8 bytes 3 / 16) x).health = _ from
        healthDeliveries_pressure (Ne.symm kept)] at perm
      exact perm
    have moved (u : State) : told u = healthTaken new u := if_neg kept
    have up (isGood : good) : new.isDown = false := by
      have stays := healthAfterSample_good (c := c) s.lc.time on
      have asGood : new = healthAfterSample c false s.lc.time := by
        show healthAfterSample c (decide ¬good) s.lc.time = _
        rw [decide_eq_false (not_not.2 isGood)]
      rw [← asGood] at stays
      split_ifs at stays
      · exact absurd stays kept
      · exact stays
    by_cases ends : EndsRun new s
    · obtain ⟨scu, ⟨w, start, finish⟩, whole, handed⟩ := pressureEnds (old := c.health) (new := new) deliveries runs ends
      generalize arriveFrame 5 (bytes ++ [char]) s = t at *
      obtain ⟨others, five⟩ := pressureContext scu
      have table : w.ct.fempty = s.ct.fempty ∧ w.ct.gain = s.ct.gain := by
        rcases start with rfl | rfl
        · exact ⟨rfl, rfl⟩
        · exact offered_tables entered
      obtain ⟨noRun, noStep, noWindow, health, fempty, gain⟩ := finish.fields
      refine ⟨t, step, others, by rw [five]; rfl, by rw [five]; rfl, whole, fun h => absurd h kept, fun h => absurd ⟨kept, ends⟩ h,
        fun _ => ⟨noRun, noStep, noWindow, health, five, fempty.trans table.1, gain.trans table.2, ⟨w, start, finish⟩, handed,
          fun isFault ready empty => ?_⟩⟩
      have fails : new = .failed .sensorFault := by
        have asFault : new = healthAfterSample c true s.lc.time := by
          show healthAfterSample c (decide ¬good) s.lc.time = _
          rw [decide_eq_true isFault]
        rw [asFault] at kept ⊢
        exact healthAfterSample_fault kept
      have stays : w.ct = s.ct ∧ (w.scu[(5 : Fin 6)].fifo = [x] ∨ w.scu[(5 : Fin 6)].fifo = []) := by
        rcases start with rfl | rfl
        · exact ⟨rfl, .inl (single empty)⟩
        · obtain ⟨ct, fifo⟩ := taken ready empty
          rw [if_neg isFault] at ct
          exact ⟨ct, .inr fifo⟩
      rw [finish.passed (by rw [fails]; rfl) (passes.trans (decide_eq_true isFault)) stays.2, stays.1]
    · obtain ⟨scu, ct, whole, lc⟩ := pressureTold (old := c.health) (new := new) deliveries runs ends
      generalize arriveFrame 5 (bytes ++ [char]) s = t at *
      obtain ⟨left, form⟩ := offered_scu (s := s) (settled := settled)
      obtain ⟨others, five⟩ := pressureContext (scu.trans form)
      refine ⟨t, step, others, by rw [five]; rfl, by rw [five]; rfl, whole, fun h => absurd h kept, fun _ => ⟨?_, scu, ?_,
        fun ready empty => ⟨?_, ?_⟩, fun busy => ?_⟩, fun h => absurd h.2 ends⟩
      · rw [if_neg kept]
        exact lc
      · rw [moved, moved]
        exact ct
      · have single' := PressureTold.single ⟨scu, ct, whole, lc⟩ ready (ahead.trans (by rw [empty]; rfl)) fun fault =>
          up (by simpa [passes] using fault)
        rw [moved, single', passes]
        by_cases isGood : good <;> simp only [isGood] <;> rfl
      · rw [scu]
        exact (taken ready empty).2
      · rw [scu, offered_busy (u := entered) busy, moved]
        refine ⟨?_, congrArg Channel.fifo at5⟩
        rw [offered_busy (u := entered) busy, offered_busy (u := healthTaken new entered) busy, or_self] at ct
        exact ct

end Sys2Proof.Machine

/-! PROOFS. What several events hand over together: the room an ENGINE ADVICE takes, the last advice among the notices, the order in
which they stand in the part, and interleavings whose sequences keep their order (R145, R174, R175). -/

namespace Sys2Proof.Machine

/-! ## The room that notices take (R174) -/

/-- The notices that wait, and a place for an ENGINE ADVICE if none waits. -/
def roomTaken (lc : Lc) : Nat := lc.notices.length + if noticesOfKind 0x4A lc = 0 then 1 else 0

/-- A notice that is no ENGINE ADVICE. -/
def notAdvice (n : Notice) : Bool := noticeKind n != 0x4A

theorem enqueue_roomTaken (n : Notice) (lc : Lc) : roomTaken (lc.enqueue n) ≤ roomTaken lc + if notAdvice n then 1 else 0 := by
  by_cases other : noticeKind n = 0x4A
  · have advice : notAdvice n = false := by simp [notAdvice, other]
    have replaces : n.replacesItsKind = true := (replacesItsKind_iff n).2 (.inr other)
    rw [advice]
    by_cases waits : ∃ x ∈ lc.notices, noticeKind x = 0x4A
    · have found : (lc.notices.any fun m => noticeKind m == noticeKind n) = true := by simpa [other] using waits
      obtain ⟨x, hx, kind⟩ := waits
      have before : noticesOfKind 0x4A lc ≠ 0 := fun none' => List.countP_eq_zero.1 none' x hx (by simp [kind])
      unfold Lc.enqueue
      rw [replaces, found, Bool.and_self, if_pos rfl]
      unfold roomTaken
      rw [if_neg before, if_neg]
      · simp
      · exact fun none' => List.countP_eq_zero.1 none' n (List.mem_map.2 ⟨x, hx, by simp [kind, other]⟩) (by simp [other])
    · have apart : ∀ m ∈ lc.notices, noticeKind m ≠ noticeKind n := fun m hm kind => waits ⟨m, hm, kind.trans other⟩
      have before : noticesOfKind 0x4A lc = 0 :=
        List.countP_eq_zero.2 fun m hm kind => waits ⟨m, hm, by simpa using kind⟩
      rw [enqueue_appends (.inr apart), if_neg Bool.false_ne_true]
      split_ifs
      · unfold roomTaken at before ⊢
        rw [if_pos before]
        simp [noticesOfKind, other]
      · exact Nat.le_add_right _ _
  · have kind := enqueue_kind (lc := lc) (kind := 0x4A) other
    have length := enqueue_length n lc
    have plain : notAdvice n = true := by simpa [notAdvice] using other
    unfold roomTaken
    rw [kind, plain]
    simp only [if_true]
    omega

theorem pump_roomTaken (next : Option Nat) (lc : Lc) : roomTaken (lc.pump next) ≤ roomTaken lc := by
  unfold Lc.pump
  split
  · exact le_rfl
  · split
    · exact le_rfl
    · split
      · exact le_rfl
      · split
        · exact le_rfl
        · next i _ n at' =>
          have place : i < lc.notices.length := (List.getElem?_eq_some_iff.1 at').1
          have shorter := List.length_eraseIdx_of_lt place
          unfold roomTaken
          simp only [shorter]
          split_ifs <;> omega

theorem queueNotices_roomTaken (ns : List Notice) (s : State) :
    roomTaken (queueNotices ns s).lc ≤ roomTaken s.lc + ns.countP notAdvice := by
  induction ns generalizing s with
  | nil => exact le_rfl
  | cons n ns ih =>
    have first : roomTaken (queueNotice n s).lc ≤ roomTaken s.lc + if notAdvice n then 1 else 0 :=
      (pump_roomTaken _ _).trans (enqueue_roomTaken n s.lc)
    rw [List.countP_cons]
    exact (ih (queueNotice n s)).trans (by omega)

/-- However many ENGINE ADVICE notices come, they take the place of one (R174). -/
theorem queueNotices_length (ns : List Notice) (s : State) :
    (queueNotices ns s).lc.notices.length ≤ s.lc.notices.length + ns.countP notAdvice + 1 := by
  have taken := queueNotices_roomTaken ns s
  unfold roomTaken at taken
  split_ifs at taken <;> omega

/-- A notice behind others, an ENGINE ADVICE among which takes one place at most, is in the part given room for these. -/
theorem Tells.past {before after : List Notice} {n : Notice} {s t : State} (h : Tells (before ++ n :: after) s t)
    (keeps : n.replacesItsKind = false) {most limit : Nat} (few : before.countP notAdvice ≤ most) (sum : limit + most + 1 < 32)
    (room : s.lc.notices.length ≤ limit) : noticeHanded n t.lc := by
  have length := queueNotices_length before s
  rw [h.1, queueNotices_append]
  generalize queueNotices before s = u at length
  refine (queueNotices_frame after (queueNotice n u)).lc.handed n keeps (pump_handed _ (.inl ?_))
  rw [enqueue_appends (.inl keeps), if_pos (by omega)]
  exact List.mem_append_right _ List.mem_cons_self

/-- A notice in the part stays there while notices of other kinds are handed over (R174). -/
theorem queueNotice_leavesOther {n m : Notice} {s : State} (other : noticeKind n ≠ noticeKind m) (h : noticeHanded n s.lc) :
    noticeHanded n (queueNotice m s).lc := by
  refine pump_handed _ ?_
  unfold Lc.enqueue
  split_ifs
  · exact h.imp_left fun h => List.mem_map.2 ⟨n, h, if_neg other⟩
  · exact h.imp_left (List.mem_append_left _)
  · exact h

/-- A notice with none of its kind behind it is in the part, given room for it and those before (R174). -/
theorem Tells.alone {before after : List Notice} {n : Notice} {s t : State} (h : Tells (before ++ n :: after) s t)
    (other : ∀ m ∈ after, noticeKind n ≠ noticeKind m) {limit : Nat} (sum : limit + before.length < 32)
    (room : s.lc.notices.length ≤ limit) : noticeHanded n t.lc := by
  have length : ∀ (l : List Notice) (u : State), (queueNotices l u).lc.notices.length ≤ u.lc.notices.length + l.length := by
    intro l
    induction l with
    | nil => exact fun u => le_rfl
    | cons m l ih => exact fun u => (ih (queueNotice m u)).trans (by
        have := queueNotice_length m u
        rw [List.length_cons]
        omega)
  have room' := length before s
  rw [h.1, queueNotices_append]
  generalize queueNotices before s = u at room'
  have first : noticeHanded n (queueNotice n u).lc := by
    refine pump_handed _ (.inl ?_)
    rcases enqueue_handed n u.lc with h | full
    · exact h
    · unfold Lc.enqueue at full ⊢
      split_ifs at full ⊢ with replaced
      · simp only [List.length_map] at full
        omega
      · exact List.mem_append_right _ List.mem_cons_self
      · omega
  rw [show queueNotices (n :: after) u = queueNotices after (queueNotice n u) from rfl]
  clear h room'
  generalize queueNotice n u = v at first
  induction after generalizing v with
  | nil => exact first
  | cons m after ih =>
    exact ih (fun x hx => other x (List.mem_cons_of_mem _ hx)) _ (queueNotice_leavesOther (other m List.mem_cons_self) first)

/-- A notice that none replaces is in the part at the end, given room. -/
theorem Tells.plainWithRoom {ns : List Notice} {n : Notice} {s t : State} (h : Tells ns s t) (mem : n ∈ ns)
    (keeps : n.replacesItsKind = false) : handedWithRoom n t.lc := by
  obtain ⟨before, after, rfl⟩ := List.append_of_mem mem
  rw [h.1, queueNotices_append]
  exact ((queueNotices_frame after _).lc.handedOrFull keeps (queueNotice_handedOrFull n (queueNotices before s))).withRoom

/-! ## The order of the notices in the part (R174, R175) -/

/-- Notices stand in the part in their order, or the queue was full when one of them came. -/
def InOrderOrFull (ns : List Notice) (lc : Lc) : Prop :=
  ns.Sublist (noticesIn lc) ∨ 32 ≤ lc.notices.length + (if lc.tx = .free then 0 else 1)

/-- The notice being sent, if any. -/
def beingSent : Transmitter → List Notice
  | .sending (.notice n) => [n]
  | .sending (.reply _) | .free => []

theorem noticesIn_eq (lc : Lc) : noticesIn lc = beingSent lc.tx ++ lc.notices := by
  unfold noticesIn
  cases lc.tx with
  | free => rfl
  | sending f => cases f <;> rfl

theorem map_replaced_plain {n : Notice} {ns : List Notice} (plain : ∀ m ∈ ns, m.replacesItsKind = false)
    (replaces : n.replacesItsKind = true) : ns.map (fun m => if noticeKind m = noticeKind n then n else m) = ns := by
  conv_rhs => rw [← List.map_id ns]
  refine List.map_congr_left fun m hm => if_neg fun same => ?_
  have keeps := plain m hm
  have kinds := (replacesItsKind_iff n).1 replaces
  rw [← same] at kinds
  rw [(replacesItsKind_iff m).2 kinds] at keeps
  cases keeps

theorem enqueue_inOrder {ns : List Notice} {n : Notice} {lc : Lc} (plain : ∀ m ∈ ns, m.replacesItsKind = false)
    (h : ns.Sublist (noticesIn lc)) : ns.Sublist (noticesIn (lc.enqueue n)) := by
  rw [noticesIn_eq] at h ⊢
  unfold Lc.enqueue
  split_ifs with replaced
  · obtain ⟨front, back, rfl, first, last⟩ := List.sublist_append_iff.1 h
    refine first.append ?_
    rw [← map_replaced_plain (fun m hm => plain m (List.mem_append_right front hm)) (by simp_all : n.replacesItsKind = true)]
    exact last.map _
  · exact h.trans (by rw [← List.append_assoc]; exact List.sublist_append_left _ _)
  · exact h

theorem pump_inOrder (lc : Lc) : noticesIn (lc.pump (some 0)) = noticesIn lc := by
  unfold Lc.pump
  split
  · rfl
  · next free =>
    split
    · simp [noticesIn, free]
    · simp only []
      split
      · rfl
      · next n at' =>
        cases e : lc.notices with
        | nil => rw [e] at at'; cases at'
        | cons m rest =>
          rw [e] at at'
          cases at'
          simp [noticesIn, free, e]

section
variable {ms ns : List Notice} {s : State}

theorem queueNotice_inOrder {n : Notice} (running : s.rs.restartPending = false) (plain : ∀ m ∈ ns, m.replacesItsKind = false)
    (h : InOrderOrFull ns s.lc) : InOrderOrFull ns (queueNotice n s).lc := by
  have frame := queueNotice_frame n s
  refine h.imp (fun h => ?_) fun full => full.trans frame.lc.number
  unfold queueNotice pump
  rw [show nextNotice s.rs (s.lc.enqueue n) = some 0 from nextNotice_running running _, pump_inOrder]
  exact enqueue_inOrder plain h

theorem queueNotice_joins {n : Notice} (running : s.rs.restartPending = false)
    (keeps : n.replacesItsKind = false) (h : InOrderOrFull ns s.lc) : InOrderOrFull (ns ++ [n]) (queueNotice n s).lc := by
  have frame := queueNotice_frame n s
  rcases h with h | full
  · by_cases room : s.lc.notices.length < 32
    · refine .inl ?_
      unfold queueNotice pump
      rw [show nextNotice s.rs (s.lc.enqueue n) = some 0 from nextNotice_running running _, pump_inOrder, enqueue_appends (.inl keeps),
        if_pos room]
      rw [noticesIn_eq, ← List.append_assoc]
      rw [noticesIn_eq] at h
      exact h.append (List.Sublist.refl _)
    · refine .inr (le_trans ?_ frame.lc.number)
      omega
  · exact .inr (full.trans frame.lc.number)

/-- Those of the notices handed over that none replaces stand in the part in their order, given room (R174, R175). -/
theorem queueNotices_inOrder (running : s.rs.restartPending = false) {pre : List Notice} (plain : ∀ m ∈ ns, m.replacesItsKind = false)
    (before : ∀ m ∈ pre, m.replacesItsKind = false) (some' : ns.Sublist ms) (h : InOrderOrFull pre s.lc) :
    InOrderOrFull (pre ++ ns) (queueNotices ms s).lc := by
  induction some' generalizing s pre with
  | slnil => rwa [List.append_nil]
  | cons n _ ih => exact ih (s := queueNotice n s) running plain before (queueNotice_inOrder running before h)
  | cons_cons n _ ih =>
    have keeps := plain n List.mem_cons_self
    have joined := ih (s := queueNotice n s) (pre := pre ++ [n]) running (fun m hm => plain m (List.mem_cons_of_mem _ hm))
      (fun m hm => (List.mem_append.1 hm).elim (before m) fun hm => List.mem_singleton.1 hm ▸ keeps)
      (queueNotice_joins running keeps h)
    rwa [List.append_assoc] at joined

end

theorem Tells.inOrder {ms ns : List Notice} {s t : State} (h : Tells ms s t) (some' : ns.Sublist ms)
    (plain : ∀ m ∈ ns, m.replacesItsKind = false) (running : s.rs.restartPending = false) (room : t.lc.notices.length ≤ 30) :
    ns.Sublist (noticesIn t.lc) := by
  have all : InOrderOrFull ([] ++ ns) (queueNotices ms s).lc :=
    queueNotices_inOrder running plain (fun _ hm => absurd hm List.not_mem_nil) some' (.inl (List.nil_sublist _))
  rw [← h.1] at all
  rcases all with all | full
  · exact all
  · split_ifs at full <;> omega

/-! ## The last advice among the notices (R145) -/

/-- The notices handed over end with the last advice as it then is, but for notices that take the place of none; or they are of these
and the last advice stays. -/
def Advises (ns : List Notice) (s t : State) : Prop :=
  (t.em.lastAdvice = s.em.lastAdvice ∧ ∀ n ∈ ns, n.replacesItsKind = false) ∨
    ∃ before after, ns = before ++ .engineAdvice t.em.lastAdvice s.lc.time :: after ∧ ∀ n ∈ after, n.replacesItsKind = false

/-- Notices handed over, none of them a TIP REPORT, and the last advice among them. -/
structure Speaks (ns : List Notice) (s t : State) : Prop where
  told    : Tells ns s t
  advises : Advises ns s t
  tipless : ∀ n ∈ ns, noticeKind n ≠ 0x45

theorem Tells.time {ns : List Notice} {s t : State} (h : Tells ns s t) : t.lc.time = s.lc.time := by
  rw [h.1]
  exact (queueNotices_frame ns s).lc.time

theorem Speaks.trans {ns ms : List Notice} {s t u : State} (h : Speaks ns s t) (k : Speaks ms t u) : Speaks (ns ++ ms) s u := by
  refine ⟨h.told.trans k.told, ?_, List.forall_mem_append.2 ⟨h.tipless, k.tipless⟩⟩
  rcases k.advises with ⟨same, plain⟩ | ⟨before, after, rfl, plain⟩
  · rcases h.advises with ⟨same', plain'⟩ | ⟨before, after, rfl, plain'⟩
    · exact .inl ⟨same.trans same', fun n m => (List.mem_append.1 m).elim (plain' n) (plain n)⟩
    · refine .inr ⟨before, after ++ ms, by rw [same]; simp, fun n m => (List.mem_append.1 m).elim (plain' n) (plain n)⟩
  · exact .inr ⟨ns ++ before, after, by rw [h.told.time]; simp, plain⟩

theorem plain_notTip {n : Notice} (plain : n.replacesItsKind = false) : noticeKind n ≠ 0x45 := fun tip => by
  rw [(replacesItsKind_iff n).2 (.inl tip)] at plain
  cases plain

/-- Plain notices, the Economy Manager's last advice kept. -/
theorem Tells.speaks {ns : List Notice} {s t : State} (h : Tells ns s t) (plain : ∀ n ∈ ns, n.replacesItsKind = false)
    (same : t.em.lastAdvice = s.em.lastAdvice) : Speaks ns s t :=
  ⟨h, .inl ⟨same, plain⟩, fun n m => plain_notTip (plain n m)⟩

theorem Speaks.silent {s t : State} (lc : t.lc = s.lc) (rs : SameRestart t.rs s.rs) (same : t.em.lastAdvice = s.em.lastAdvice) :
    Speaks [] s t := (Tells.silent lc rs).speaks (fun _ m => absurd m List.not_mem_nil) same

theorem Speaks.after {ns : List Notice} {s u t : State} (k : Speaks ns u t) (lc : u.lc = s.lc) (rs : SameRestart u.rs s.rs)
    (same : u.em.lastAdvice = s.em.lastAdvice) : Speaks ns s t := (Speaks.silent lc rs same).trans k

/-- A changed advice is handed over, given room (R145). -/
theorem Speaks.advised {ns : List Notice} {s t : State} (h : Speaks ns s t) : AdviceHanded s t := by
  intro moved
  rcases h.advises with ⟨same, -⟩ | ⟨before, after, rfl, plain⟩
  · exact absurd same moved
  · exact h.told.withRoom plain

/-- Notices handed over before tell of no advice. -/
theorem Speaks.advisedAfter {ns : List Notice} {s u t : State} (h : Speaks ns u t) (last : u.em.lastAdvice = s.em.lastAdvice)
    (time : u.lc.time = s.lc.time) : AdviceHanded s t := by
  have handed := h.advised
  unfold AdviceHanded at handed
  rwa [last, time] at handed

/-- The settling of the advice (R145). -/
theorem settleAdvice_speaks (s : State) : Speaks (adviceNotices s.em.lastAdvice (Em.advice s.em) s.lc.time) s (settleAdvice s) := by
  unfold settleAdvice adviceNotices
  simp only []
  split_ifs with same
  · exact .silent rfl (.refl _) rfl
  · exact ⟨(queueNotice_tells _ _).after rfl (.refl _), .inr ⟨[], [], rfl, fun _ m => absurd m List.not_mem_nil⟩, fun n m => by
      rw [List.mem_singleton.1 m]
      exact (by decide : 0x4A ≠ 0x45)⟩

theorem adviceNotices_notTip (a b : Advice) (time : Stamp) : ∀ n ∈ adviceNotices a b time, noticeKind n ≠ 0x45 := by
  unfold adviceNotices
  split_ifs
  · exact fun _ m => absurd m List.not_mem_nil
  · exact List.forall_mem_singleton.2 (by decide : 0x4A ≠ 0x45)

theorem adviceNotices_countP (a b : Advice) (time : Stamp) : (adviceNotices a b time).countP notAdvice = 0 := by
  unfold adviceNotices
  split_ifs <;> rfl

/-! ## Sequences interleaved, each in its own order -/

theorem runInterleaved_ordered {α : Type} (n : Nat) (qs : List (List α)) (f : α → State → State) (s : State)
    (h : (qs.map List.length).sum ≤ n) : ∃ l : List α, l.Perm qs.flatten ∧ (∀ q ∈ qs, q.Sublist l) ∧
      Runs (l.map f) s (runInterleaved n (qs.map (List.map f)) s) := by
  induction n generalizing qs s with
  | zero =>
    have empty : ∀ q ∈ qs, q = [] := fun q m =>
      List.length_eq_zero_iff.1 (Nat.le_zero.1 ((List.single_le_sum (by simp) _ (List.mem_map_of_mem m)).trans h))
    exact ⟨[], by rw [List.flatten_eq_nil_iff.2 empty], fun q m => by rw [empty q m], s.choices, rfl⟩
  | succ n ih =>
    have flat : (qs.filter fun q => !q.isEmpty).flatten = qs.flatten := List.flatten_filter_not_isEmpty
    have sub (l : List α) (hl : ∀ q ∈ qs.filter (fun q => !q.isEmpty), q.Sublist l) (q) (m : q ∈ qs) : q.Sublist l := by
      cases q with
      | nil => exact List.nil_sublist l
      | cons f q => exact hl _ (List.mem_filter.2 ⟨m, rfl⟩)
    have full : ∀ q ∈ qs.filter (fun q => !q.isEmpty), q ≠ [] := fun q m e => by
      have := (List.mem_filter.1 m).2
      simp [e] at this
    have total : ((qs.filter fun q => !q.isEmpty).map List.length).sum ≤ n + 1 := by
      rw [← List.length_flatten, flat, List.length_flatten]; exact h
    have mapped : (qs.map (List.map f)).filter (fun q => !q.isEmpty) = (qs.filter fun q => !q.isEmpty).map (List.map f) := by
      rw [List.filter_map]
      congr 2
      funext q
      simp
    rw [← flat]
    simp only [runInterleaved, mapped]
    generalize (qs.filter fun q => !q.isEmpty) = live at *
    match live, full, total, sub with
    | [], _, _, sub => exact ⟨[], .refl _, sub _ (by simp), s.choices, rfl⟩
    | [q], _, _, sub => exact ⟨q, by simp, sub _ (by simp), runs_foldl (q.map f) s⟩
    | q :: r :: rest, full, total, sub =>
      generalize hL : q :: r :: rest = live at full total sub
      have some' : 0 < live.length := by rw [← hL]; simp
      obtain ⟨k, hk⟩ : ∃ k, Config.freeChoice s.choices % live.length = k := ⟨_, rfl⟩
      have hlt : k < live.length := hk ▸ Nat.mod_lt _ some'
      obtain ⟨a, tl, at'⟩ := List.exists_cons_of_ne_nil (full _ (List.getElem_mem hlt))
      have perm := flatten_perm_cons_set hlt at'
      have less : ((live.set k tl).map List.length).sum ≤ n := by
        have := perm.length_eq
        rw [List.length_cons] at this
        rw [← List.length_flatten] at total ⊢
        omega
      obtain ⟨l, lperm, lsub, runs⟩ := ih (live.set k tl) (f a { s with choices := s.choices + 1 }) less
      refine ⟨a :: l, (lperm.cons a).trans perm.symm, sub _ fun p m => ?_, s.choices + 1, ?_⟩
      · obtain ⟨j, hj, rfl⟩ := List.getElem_of_mem m
        by_cases hjk : j = k
        · subst hjk
          rw [at']
          exact (lsub tl (List.mem_set hlt tl)).cons_cons a
        · refine (lsub _ ?_).cons a
          rw [← List.getElem_set_ne (Ne.symm hjk) (by simpa using hj)]
          exact List.getElem_mem _
      · have chosen : (live.map (List.map f)).getD k [] = f a :: tl.map f := by
          rw [List.getD_eq_getElem _ _ (by simpa using hlt), List.getElem_map, at', List.map_cons]
        rw [List.map_set] at runs
        subst hL
        simp only [List.map_cons, List.length_cons, List.length_map] at chosen hk runs ⊢
        rw [hk, chosen]
        exact runs

/-- Named actions in sequences, interleaved, run in one order of their names that keeps the order of each sequence. -/
theorem interleave_ordered {α : Type} (qs : List (List α)) (f : α → State → State) (s : State) : ∃ l : List α,
    l.Perm qs.flatten ∧ (∀ q ∈ qs, q.Sublist l) ∧ Runs (l.map f) s (interleave (qs.map (List.map f)) s) := by
  obtain ⟨l, perm, sub, runs⟩ := runInterleaved_ordered (qs.map List.length).sum qs f s le_rfl
  refine ⟨l, perm, sub, ?_⟩
  have lengths : ((qs.map (List.map f)).map List.length).sum = (qs.map List.length).sum := by
    rw [List.map_map]
    congr 2
    funext q
    exact List.length_map f
  unfold interleave
  rwa [lengths]

/-- Of the actions in one order, those of one sequence are that sequence, if the others have none of their kind. -/
theorem filter_of_sublist {α : Type} {p : α → Bool} {q l : List α} (sub : q.Sublist l) (all : ∀ a ∈ q, p a = true)
    (count : l.countP p = q.length) : l.filter p = q := by
  have own : q.filter p = q := List.filter_eq_self.2 all
  refine (List.Sublist.eq_of_length (own ▸ sub.filter p) ?_).symm
  rw [← count, List.countP_eq_length_filter]

/-- What some of the actions change, each in its way, and the others leave, has changed by those in their order. -/
theorem Runs.folds {α β : Type} {P : State → Prop} {l : List α} {f : α → State → State} {s t : State} (runs : Runs (l.map f) s t)
    (choices : ∀ s n, P s → P { s with choices := n }) (p : α → Bool) (x : State → β) (seen : ∀ s n, x { s with choices := n } = x s)
    (g : α → β → β) (acts : ∀ a ∈ l, ∀ u, P u → P (f a u) ∧ x (f a u) = if p a then g a (x u) else x u) (hs : P s) :
    x t = (l.filter p).foldl (fun b a => g a b) (x s) := by
  induction l generalizing s with
  | nil => obtain ⟨n, rfl⟩ := runs; exact seen s n
  | cons a l ih =>
    obtain ⟨n, runs⟩ := runs
    obtain ⟨kept, moved⟩ := acts a List.mem_cons_self _ (choices s n hs)
    rw [ih runs (fun b m => acts b (List.mem_cons_of_mem a m)) kept, moved, seen, List.filter_cons]
    cases p a <;> rfl

end Sys2Proof.Machine

/-! PROOFS. The arrival of a pass at the Load Recorder (R121 to R125, R129): the load, the totals, the service items and the notices. -/

namespace Sys2Proof.Machine

/-- Two states of the Economy Manager that differ in the cap and the last advice at most, which stands if it stood. -/
structure EmBeside (a b : Em) : Prop where
  same   : b = { a with cap := b.cap, lastAdvice := b.lastAdvice }
  stands : AdviceStands a a.lastAdvice → AdviceStands b b.lastAdvice

theorem EmBeside.refl (a : Em) : EmBeside a a := ⟨rfl, id⟩

theorem EmBeside.trans {a b c : Em} (h : EmBeside a b) (k : EmBeside b c) : EmBeside a c :=
  ⟨by rw [k.same, h.same], fun p => k.stands (h.stands p)⟩

theorem emWithCap_beside (cap : Nat) (s : State) : EmBeside s.em (emWithCap cap s) := by
  unfold emWithCap
  split_ifs
  · exact .refl _
  · exact ⟨rfl, fun _ => advice_stands _ _⟩

/-! ## An increment among others -/

theorem attentions_plain (b : Basis) (n : Nat) (l : List (Fin 24)) (s : State) :
    ∀ m ∈ attentions b n l s, m.replacesItsKind = false := by
  intro m hm
  obtain ⟨i, -, hi⟩ := List.mem_flatMap.1 hm
  unfold attentionOf at hi
  split at hi
  · split_ifs at hi
    · rw [List.mem_singleton.1 hi]
      rfl
    · cases hi
  · cases hi

theorem incrementedEntry_zero (b : Basis) (e : Option ServiceEntry) : incrementedEntry b 0 e = e := by
  unfold incrementedEntry
  simp only [ite_self, incremented_zero]

/-- What an increment, of 0 too, leaves of the table and the Economy Manager, and what it hands over (R145, R152 to R154). -/
structure IncrementTaken (b : Basis) (n : Nat) (s t : State) : Prop where
  entries : ∀ i : Fin 24, t.st.entries[i] = incrementedEntry b n s.st.entries[i]
  em      : EmBeside s.em t.em
  rs      : t.rs = s.rs ∨ t.rs = Rs.mark s.rs
  speaks  : ∃ ns, Speaks ns s t

theorem SameRestart.ofMark {a b : Rs} (h : a = b ∨ a = Rs.mark b) : SameRestart a b := by
  rcases h with rfl | rfl
  · exact .refl _
  · exact Rs.mark_sameRestart _

theorem takeIncrement_taken (b : Basis) (n : Nat) (s : State) : IncrementTaken b n s (takeIncrement b n s) := by
  by_cases zero : n = 0
  · subst zero
    have same : takeIncrement b 0 s = s := if_pos rfl
    rw [same]
    exact ⟨fun i => (incrementedEntry_zero b _).symm, .refl _, .inl rfl, [], .silent rfl (.refl _) rfl⟩
  · obtain ⟨entries, -, em, told, rs, -⟩ := takeIncrement_incremented (b := b) zero s
    refine ⟨entries, em ▸ emWithCap_beside _ s, rs, _, told, ?_, List.forall_mem_append.2
      ⟨fun n m => plain_notTip (attentions_plain b _ _ s n m), adviceNotices_notTip _ _ _⟩⟩
    unfold adviceNotices
    split_ifs with same
    · exact .inl ⟨same, by rw [List.append_nil]; exact attentions_plain b n _ s⟩
    · exact .inr ⟨_, [], rfl, fun _ m => absurd m List.not_mem_nil⟩

/-! ## A pass received (R125) -/

/-- What the receipt of a pass does in no order: the load, the count of passes, and the weight. -/
inductive PassPart
  | filed | counted | weighed
  deriving DecidableEq

/-- The part of the receipt of a pass. -/
def receivePart (p : Pass) : PassPart → State → State
  | .filed => handlePass p
  | .counted => takeIncrement .passes 1
  | .weighed => takeIncrement .tonnes (p.payload.getD 0)

/-- The amount a pass brings an item of a basis (R151). -/
def passAmount (p : Pass) (b : Basis) : Nat := if b = .passes then 1 else if b = .tonnes then p.payload.getD 0 else 0

/-- What the parts make of an entry. -/
def partEntry (p : Pass) : PassPart → Option ServiceEntry → Option ServiceEntry
  | .filed => id
  | .counted => incrementedEntry .passes 1
  | .weighed => incrementedEntry .tonnes (p.payload.getD 0)

theorem incremented_basis (n : Nat) (e : ServiceEntry) : (incremented n e).item.definition.basis = e.item.definition.basis := by
  unfold incremented
  split_ifs <;> rfl

theorem incrementedEntry_other {b : Basis} {n : Nat} {e : ServiceEntry} (other : e.item.definition.basis ≠ b) :
    incrementedEntry b n (some e) = some e := by
  rw [incrementedEntry, Option.map_some, if_neg other, incremented, if_pos (.inl rfl)]

theorem incrementedEntry_own (n : Nat) (e : ServiceEntry) :
    incrementedEntry e.item.definition.basis n (some e) = some (incremented n e) := by
  rw [incrementedEntry, Option.map_some, if_pos rfl]

/-- An entry is of one basis, so the increments of the two come to one, whichever is first (R151, R152). -/
theorem partEntry_each (p : Pass) (e : ServiceEntry) :
    (partEntry p .weighed (partEntry p .counted (some e)) = some (incremented (passAmount p e.item.definition.basis) e)) ∧
      (partEntry p .counted (partEntry p .weighed (some e)) = some (incremented (passAmount p e.item.definition.basis) e)) := by
  show (incrementedEntry .tonnes (p.payload.getD 0) (incrementedEntry .passes 1 (some e)) = _) ∧
    incrementedEntry .passes 1 (incrementedEntry .tonnes (p.payload.getD 0) (some e)) = _
  unfold passAmount
  by_cases passes : e.item.definition.basis = .passes
  · have weighs (f : ServiceEntry) (h : f.item.definition.basis = .passes) (n : Nat) : incrementedEntry .tonnes n (some f) = some f :=
      incrementedEntry_other (by rw [h]; decide)
    have counts := incrementedEntry_own 1 e
    rw [passes] at counts
    simp only [passes, if_true]
    exact ⟨by rw [counts, weighs _ ((incremented_basis 1 e).trans passes)], by rw [weighs e passes, counts]⟩
  · have counts (f : ServiceEntry) (h : f.item.definition.basis ≠ .passes) : incrementedEntry .passes 1 (some f) = some f :=
      incrementedEntry_other h
    rw [if_neg passes]
    by_cases tonnes : e.item.definition.basis = .tonnes
    · have weighs := incrementedEntry_own (p.payload.getD 0) e
      rw [tonnes] at weighs
      simp only [tonnes, if_true]
      exact ⟨by rw [counts e passes, weighs], by rw [weighs, counts _ (by rw [incremented_basis]; exact passes)]⟩
    · rw [if_neg tonnes, incremented, if_pos (.inl rfl)]
      exact ⟨by rw [counts e passes, incrementedEntry_other tonnes], by rw [incrementedEntry_other tonnes, counts e passes]⟩

/-- The three parts in an order make of an entry what the pass's amount of its basis makes (R151, R152). -/
theorem partEntries (p : Pass) {l : List PassPart} (perm : l.Perm [.filed, .counted, .weighed]) (e : Option ServiceEntry) :
    l.foldl (fun e a => partEntry p a e) e = e.map fun e => incremented (passAmount p e.item.definition.basis) e := by
  cases e with
  | none =>
    have stays (a : PassPart) : partEntry p a none = none := by cases a <;> rfl
    clear perm
    induction l with
    | nil => rfl
    | cons a l ih => rw [List.foldl_cons, stays, ih]
  | some e =>
    obtain ⟨first, second⟩ := partEntry_each p e
    have orders := List.mem_permutations'.2 perm
    rw [show ([.filed, .counted, .weighed] : List PassPart).permutations' = [[.filed, .counted, .weighed], [.counted, .filed, .weighed],
      [.counted, .weighed, .filed], [.filed, .weighed, .counted], [.weighed, .filed, .counted], [.weighed, .counted, .filed]] from rfl]
      at orders
    simp only [List.mem_cons, List.not_mem_nil, or_false] at orders
    rcases orders with rfl | rfl | rfl | rfl | rfl | rfl
    · exact first
    · exact first
    · exact first
    · exact second
    · exact second
    · exact second

/-- A pass received: the totals and the load, the store marked, the service items, the advice and the notices (R121 to R125). -/
structure PassReceived (p : Pass) (s t : State) : Prop where
  lr      : t.lr = withPassFiled p s.lc.time s.lr
  rs      : t.rs = Rs.mark s.rs
  entries : ∀ i : Fin 24, t.st.entries[i] = s.st.entries[i].map fun e => incremented (passAmount p e.item.definition.basis) e
  em      : EmBeside s.em t.em
  speaks  : ∃ ns ms, Speaks (ns ++ passNotices p s.lc.time s.lr ++ ms) s t

theorem plain_singleton {n : Notice} (h : n.replacesItsKind = false) : ∀ m ∈ [n], m.replacesItsKind = false :=
  List.forall_mem_singleton.2 h

theorem plain_ite {c : Prop} [Decidable c] {n : Notice} (h : n.replacesItsKind = false) :
    ∀ m ∈ (if c then [n] else []), m.replacesItsKind = false := by
  split_ifs
  · exact plain_singleton h
  · exact fun _ m => absurd m List.not_mem_nil

theorem closedNotices_plain (how : LoadState) (now : Stamp) (lr : Lr) : ∀ n ∈ closedNotices how now lr, n.replacesItsKind = false := by
  unfold closedNotices
  split
  · exact fun _ m => absurd m List.not_mem_nil
  · exact plain_singleton rfl

theorem readiedLoad_plain (bay : Fin 16) (now : Stamp) (lr : Lr) : ∀ n ∈ (readiedLoad bay now lr).1, n.replacesItsKind = false := by
  unfold readiedLoad
  simp only []
  split
  · exact plain_singleton rfl
  · split_ifs
    · exact fun _ m => absurd m List.not_mem_nil
    · exact List.forall_mem_append.2 ⟨closedNotices_plain _ _ _, plain_singleton rfl⟩

theorem passNotices_plain (p : Pass) (now : Stamp) (lr : Lr) : ∀ n ∈ passNotices p now lr, n.replacesItsKind = false := by
  unfold passNotices
  split
  · exact plain_singleton rfl
  · simp only [List.forall_mem_append]
    exact ⟨⟨⟨⟨⟨readiedLoad_plain _ _ _, plain_singleton rfl⟩, plain_ite rfl⟩, plain_ite rfl⟩, plain_ite rfl⟩, plain_ite rfl⟩

/-- Plain notices handed over with a change of the Load Recorder. -/
theorem told_speaks {ns : List Notice} (plain : ∀ n ∈ ns, n.replacesItsKind = false) (lr : Lr) (s : State) :
    Speaks ns s (told ns lr s) := by
  have frame := queueNotices_frame ns s
  exact Tells.speaks ⟨rfl, (frame.rs rfl : (told ns lr s).rs = s.rs) ▸ .refl _⟩ plain (congrArg Em.lastAdvice (frame.em rfl))

theorem told_else (ns : List Notice) (lr : Lr) (s : State) : (told ns lr s).em = s.em ∧ (told ns lr s).st = s.st ∧
    (told ns lr s).rs = s.rs := by
  have frame := queueNotices_frame ns s
  exact ⟨frame.em rfl, frame.st rfl, frame.rs rfl⟩

/-- The load's share in a receipt, the totals counted and the store marked before (R121 to R125). -/
theorem handlePass_counted (p : Pass) {s u : State} (lr : u.lr = (countPass p s).lr) (marked : Rs.mark u.rs = u.rs)
    (time : u.lc.time = s.lc.time) :
    handlePass p u = told (passNotices p s.lc.time s.lr) (withPassFiled p s.lc.time s.lr) u := by
  have again : countPass p { u with lr := s.lr } = u := by
    have whole : countPass p { u with lr := s.lr } = { u with lr := (countPass p s).lr, rs := Rs.mark u.rs } := rfl
    rw [whole, ← lr, marked]
  have eq := handlePass_eq p { u with lr := s.lr }
  rw [again, time] at eq
  exact eq

/-- What every part of a receipt keeps: the store marked, and the time. -/
def Receiving (s u : State) : Prop := u.rs = Rs.mark s.rs ∧ u.lc.time = s.lc.time

theorem receivePart_keeps (p : Pass) {s u : State} (a : PassPart) (h : Receiving s u) : Receiving s (receivePart p a u) := by
  obtain ⟨rs, time⟩ := h
  have increment (b : Basis) (n : Nat) : Receiving s (takeIncrement b n u) := by
    refine ⟨?_, (takeIncrement_frame b n u).lc.time.trans time⟩
    rcases (takeIncrement_taken b n u).rs with e | e
    · exact e.trans rs
    · rw [e, rs, mark_mark]
  cases a with
  | filed => exact ⟨((handlePass_frame p u).rs rfl).trans rs, (handlePass_frame p u).lc.time.trans time⟩
  | counted => exact increment _ _
  | weighed => exact increment _ _

/-- The notices of the increments of a receipt, before the load's or behind them. -/
theorem increments_speak {p : Pass} {l : List PassPart} {s t : State} (only : PassPart.filed ∉ l)
    (runs : Runs (l.map (receivePart p)) s t) : EmBeside s.em t.em ∧ t.lr = s.lr ∧ ∃ ns, Speaks ns s t := by
  refine Runs.keeps (P := fun u => EmBeside s.em u.em ∧ u.lr = s.lr ∧ ∃ ns, Speaks ns s u)
    (fun u n ⟨em, lr, ns, speaks⟩ => ⟨em, lr, ns ++ [], speaks.trans (.silent rfl (.refl _) rfl)⟩) runs (fun g m u ⟨em, lr, ns, speaks⟩ => ?_)
    ⟨.refl _, rfl, [], .silent rfl (.refl _) rfl⟩
  obtain ⟨a, ma, rfl⟩ := List.mem_map.1 m
  have increment (b : Basis) (n : Nat) : EmBeside s.em (takeIncrement b n u).em ∧ (takeIncrement b n u).lr = s.lr ∧
      ∃ ns, Speaks ns s (takeIncrement b n u) := by
    obtain ⟨-, beside, -, ms, tells⟩ := takeIncrement_taken b n u
    exact ⟨em.trans beside, ((takeIncrement_frame b n u).lr rfl).trans lr, _, speaks.trans tells⟩
  cases a with
  | filed => exact absurd ma only
  | counted => exact increment _ _
  | weighed => exact increment _ _

theorem receivePass_received (p : Pass) (s : State) : PassReceived p s (receivePass p s) := by
  obtain ⟨l, perm, runs⟩ := anyOrder_keyed [PassPart.filed, .counted, .weighed] (receivePart p) (countPass p s)
  rw [show anyOrder ([PassPart.filed, .counted, .weighed].map (receivePart p)) (countPass p s) = receivePass p s from rfl] at runs
  have started : Receiving s (countPass p s) := ⟨rfl, rfl⟩
  have entries (i : Fin 24) : (receivePass p s).st.entries[i] = l.foldl (fun e a => partEntry p a e) s.st.entries[i] := by
    have folded := Runs.folds (P := fun _ => True) runs (fun _ _ _ => trivial) (fun _ => true) (fun u => u.st.entries[i]) (fun _ _ => rfl)
      (partEntry p) (fun a _ u _ => ⟨trivial, ?_⟩) trivial
    · rw [folded, List.filter_eq_self.2 fun _ _ => rfl]
      rfl
    · cases a with
      | filed => exact congrArg (fun st : St => st.entries[i]) ((handlePass_frame p u).st rfl)
      | counted => exact (takeIncrement_taken .passes 1 u).entries i
      | weighed => exact (takeIncrement_taken .tonnes (p.payload.getD 0) u).entries i
  have kept := Runs.keeps (P := Receiving s) (fun u n h => h) runs (fun g m u h => by
    obtain ⟨a, -, rfl⟩ := List.mem_map.1 m
    exact receivePart_keeps p a h) started
  obtain ⟨l₁, l₂, u, parts, out, first, last⟩ := runs.once (a := .filed) (by rw [perm.count_eq]; rfl)
  have before := Runs.keeps (P := Receiving s) (fun u n h => h) first (fun g m u h => by
    obtain ⟨a, -, rfl⟩ := List.mem_map.1 m
    exact receivePart_keeps p a h) started
  obtain ⟨em₁, lr₁, ns, speaks₁⟩ := increments_speak (fun m => out (List.mem_append_left _ m)) first
  obtain ⟨em₂, lr₂, ms, speaks₂⟩ := increments_speak (fun m => out (List.mem_append_right _ m)) last
  have filed : receivePart p .filed u = told (passNotices p s.lc.time s.lr) (withPassFiled p s.lc.time s.lr) u :=
    handlePass_counted p lr₁ (by rw [before.1, mark_mark]) before.2
  rw [filed] at em₂ lr₂ speaks₂
  have told' := told_speaks (passNotices_plain p s.lc.time s.lr) (withPassFiled p s.lc.time s.lr) u
  rw [(told_else _ _ u).1] at em₂
  refine ⟨lr₂, kept.1, fun i => ?_, em₁.trans em₂, ns, ms, ?_⟩
  · rw [entries i, partEntries p perm]
  · have all := ((speaks₁.trans told').trans speaks₂).after (s := s) rfl (Rs.mark_sameRestart _) rfl
    exact all

/-! ## The arrival of a pass (R129) -/

/-- A pass arrives: it is received as the Load Recorder stands, or, where the reading that waits next accepts TRAVEL, perhaps once the
TRAVEL event has closed the open load (R129, assumption log 27). -/
structure PassArrived (p : Pass) (s t : State) : Prop where
  rs      : t.rs = Rs.mark s.rs
  entries : ∀ i : Fin 24, t.st.entries[i] = s.st.entries[i].map fun e => incremented (passAmount p e.item.definition.basis) e
  em      : EmBeside s.em t.em
  filed   : ∃ lr before ns ms, (lr = s.lr ∧ before = [] ∨ travelComesNext s = true ∧
      lr = { withLoadClosed .closedTravel s.lc.time s.lr with travelTaken := true } ∧ before = closedNotices .closedTravel s.lc.time s.lr) ∧
    t.lr = withPassFiled p s.lc.time lr ∧ Speaks (before ++ (ns ++ passNotices p s.lc.time lr ++ ms)) s t

theorem arrivePass_arrived (p : Pass) (s : State) : PassArrived p s (arrivePass p s) := by
  have alone (n : Nat) : PassArrived p s (receivePass p { s with choices := n }) := by
    obtain ⟨lr, rs, entries, em, ns, ms, speaks⟩ := receivePass_received p { s with choices := n }
    exact ⟨rs, entries, em, s.lr, [], ns, ms, .inl ⟨rfl, rfl⟩, lr, speaks.after (s := s) rfl (.refl _) rfl⟩
  unfold arrivePass
  split_ifs with comes
  · simp only []
    split_ifs
    · have closed : takeTravelFirst { s with choices := s.choices + 1 } = told (closedNotices .closedTravel s.lc.time s.lr)
          { withLoadClosed .closedTravel s.lc.time s.lr with travelTaken := true } { s with choices := s.choices + 1 } := by
        unfold takeTravelFirst
        rw [closeLoad_eq]
        rfl
      rw [closed]
      have first := (told_speaks (closedNotices_plain .closedTravel s.lc.time s.lr)
        { withLoadClosed .closedTravel s.lc.time s.lr with travelTaken := true } { s with choices := s.choices + 1 }).after (s := s) rfl
          (.refl _) rfl
      obtain ⟨em', st', rs'⟩ := told_else (closedNotices .closedTravel s.lc.time s.lr)
        { withLoadClosed .closedTravel s.lc.time s.lr with travelTaken := true } { s with choices := s.choices + 1 }
      obtain ⟨lr, rs, entries, em, ns, ms, speaks⟩ := receivePass_received p (told (closedNotices .closedTravel s.lc.time s.lr)
          { withLoadClosed .closedTravel s.lc.time s.lr with travelTaken := true } { s with choices := s.choices + 1 })
      rw [told_time, told_lr] at lr speaks
      rw [rs'] at rs
      rw [em'] at em
      simp only [st'] at entries
      exact ⟨rs, entries, em, _, _, ns, ms, .inr ⟨comes, rfl, rfl⟩, lr, first.trans speaks⟩
    · exact alone _
  · exact alone s.choices

theorem withLoadClosed_passTotal (how : LoadState) (now : Stamp) (lr : Lr) : (withLoadClosed how now lr).passTotal = lr.passTotal := by
  unfold withLoadClosed
  split <;> rfl

theorem withPassFiled_passTotal (p : Pass) (now : Stamp) (lr : Lr) : (withPassFiled p now lr).passTotal = lr.passTotal + 1 := by
  have opened (bay : Fin 16) (l : Lr) : (withBayOpen bay now l).passTotal = l.passTotal := by
    unfold withBayOpen
    split
    · rfl
    · exact withLoadClosed_passTotal .closedNewBay now l
  unfold withPassFiled
  simp only []
  split
  · rfl
  · split_ifs
    · rw [withLoadClosed_passTotal]
      exact opened _ _
    · exact opened _ _

/-- A pass that arrives is counted once, whatever comes before it (R125). -/
theorem PassArrived.passTotal {p : Pass} {s t : State} (h : PassArrived p s t) : t.lr.passTotal = s.lr.passTotal + 1 := by
  obtain ⟨lr, before, ns, ms, ⟨rfl, -⟩ | ⟨-, rfl, -⟩, filed, -⟩ := h.filed
  · rw [filed, withPassFiled_passTotal]
  · rw [filed, withPassFiled_passTotal, withLoadClosed_passTotal]

end Sys2Proof.Machine

/-! PROOFS. What an activity and a change of phase make of the Economy Manager (R139 to R142, R144, R145). -/

namespace Sys2Proof.Machine

/-! ## The events on the Economy Manager's record -/

/-- An activity on the record, before the advice is settled (R140). -/
def activityTaken (now : Stamp) (em : Em) : Em :=
  match em.mode with
  | .stopped => em
  | .work | .eco => { em with idleTimer := some now }
  | .autoIdle | .shutdownPending | .shutdownAdvised => Em.setMode now .work em

/-- A change of phase on the record, before the advice is settled (R141). -/
def phaseTaken (now : Stamp) (new : Phase) (em : Em) : Em :=
  match em.mode with
  | .work => if Phase.isUnloaded new && em.settings.ecoEnable then Em.setMode now .eco em else em
  | .eco => if Phase.isUnloaded new then em else Em.setMode now .work em
  | _ => em

theorem takeActivity_eq (s : State) : takeActivity s = settleAdvice (onEm (activityTaken s.lc.time) s) := rfl

theorem takePhaseChange_eq (new : Phase) (s : State) : takePhaseChange new s = settleAdvice (onEm (phaseTaken s.lc.time new) s) := rfl

/-- A record with the cap and the last advice of another. -/
def Em.capped (a em : Em) : Em := { em with cap := a.cap, lastAdvice := a.lastAdvice }

theorem Em.capped_self (em : Em) : Em.capped em em = em := rfl

theorem EmBeside.capped {a b : Em} (h : EmBeside a b) (c : Em) : Em.capped c b = Em.capped c a := by
  rw [h.same]
  rfl

/-- A record's operation that neither reads nor changes the cap and the last advice. -/
def CapApart (f : Em → Em) : Prop := ∀ a em, Em.capped a (f em) = f (Em.capped a em)

theorem setMode_capApart (now : Stamp) (m : EngineMode) : CapApart (Em.setMode now m) := by
  intro a em
  unfold Em.setMode Em.capped
  simp only []
  split_ifs <;> rfl

theorem activityTaken_capApart (now : Stamp) : CapApart (activityTaken now) := by
  intro a em
  have same : (Em.capped a em).mode = em.mode := rfl
  have woken := setMode_capApart now .work a em
  unfold activityTaken
  rw [same]
  cases em.mode with
  | stopped => rfl
  | work => rfl
  | eco => rfl
  | autoIdle => exact woken
  | shutdownPending => exact woken
  | shutdownAdvised => exact woken

theorem phaseTaken_capApart (now : Stamp) (new : Phase) : CapApart (phaseTaken now new) := by
  intro a em
  have same : (Em.capped a em).mode = em.mode ∧ (Em.capped a em).settings = em.settings := ⟨rfl, rfl⟩
  have eco := setMode_capApart now .eco a em
  have work := setMode_capApart now .work a em
  unfold phaseTaken
  rw [same.1, same.2]
  cases em.mode with
  | work =>
    simp only []
    split_ifs
    · exact eco
    · rfl
  | eco =>
    simp only []
    split_ifs
    · rfl
    · exact work
  | stopped => rfl
  | autoIdle => rfl
  | shutdownPending => rfl
  | shutdownAdvised => rfl

theorem CapApart.lastAdvice {f : Em → Em} (h : CapApart f) (em : Em) : (f em).lastAdvice = em.lastAdvice := by
  have eq := h em em
  rw [Em.capped_self] at eq
  rw [← eq]
  rfl

/-- An event of the Economy Manager: the record moved, its advice settled, and the notice of a changed one (R145). -/
theorem settledOn {f : Em → Em} (apart : CapApart f) (s : State) : (∀ a, Em.capped a (settleAdvice (onEm f s)).em = f (Em.capped a s.em)) ∧
    AdviceStands (settleAdvice (onEm f s)).em (settleAdvice (onEm f s)).em.lastAdvice ∧
    ∃ ns, Speaks ns s (settleAdvice (onEm f s)) ∧ ns.countP notAdvice = 0 := by
  refine ⟨fun a => ?_, ?_, _, (settleAdvice_speaks (onEm f s)).after rfl (.refl _) (apart.lastAdvice s.em), adviceNotices_countP _ _ _⟩
  · rw [settleAdvice_eq, ← apart]
    rfl
  · rw [settleAdvice_eq]
    exact advice_stands _ _

/-! ## An activity and a change of phase, one after the other (R140, R141) -/

/-- The record after an activity, if any, and then a change of phase, if any. -/
def poseMoved (now : Stamp) (active changes : Bool) (new : Phase) (em : Em) : Em :=
  let woken := if active then activityTaken now em else em
  if changes then phaseTaken now new woken else woken

/-- The mode after an activity. -/
def wokenMode (active : Bool) (m : EngineMode) : EngineMode :=
  if active = true ∧ (m = .autoIdle ∨ m = .shutdownPending ∨ m = .shutdownAdvised) then .work else m

/-- The mode after an activity and a change of phase. -/
def movedMode (active changes eco : Bool) (new : Phase) (m : EngineMode) : EngineMode :=
  let woken := wokenMode active m
  if changes = false then woken
  else if woken = .work ∧ (new = .dumping ∨ new = .returning) ∧ eco = true then .eco
  else if woken = .eco ∧ ¬(new = .dumping ∨ new = .returning) then .work
  else woken

/-- What a change of mode, or its absence, leaves of the timers and the marks (R139, R142 to R144). -/
structure EmMoved (now : Stamp) (active : Bool) (m : EngineMode) (a b : Em) : Prop where
  mode  : b.mode = m
  idle  : b.idleTimer = if active = true ∧ a.mode ≠ .stopped then some now else a.idleTimer
  stays : m = a.mode → b.shutdownTimer = a.shutdownTimer ∧ b.deferred = a.deferred ∧ b.wait = a.wait ∧ b.cancel = a.cancel ∧
    b.failed = a.failed
  moves : m ≠ a.mode → b.shutdownTimer = .stopped ∧ b.deferred = false ∧ b.wait = .none ∧
    b.cancel = decide (a.mode = .shutdownAdvised ∧ m = .work) ∧ b.failed = (decide (a.mode ≠ .shutdownAdvised) && a.failed)
  settings : b.settings = a.settings
  copy  : b.copy = a.copy

theorem isUnloaded_iff (p : Phase) : Phase.isUnloaded p = true ↔ p = .dumping ∨ p = .returning := by
  cases p <;> simp [Phase.isUnloaded]

theorem activityTaken_moved (now : Stamp) (active : Bool) (em : Em) :
    EmMoved now active (wokenMode active em.mode) em (if active then activityTaken now em else em) := by
  cases active with
  | false => exact ⟨rfl, rfl, fun _ => ⟨rfl, rfl, rfl, rfl, rfl⟩, fun h => absurd rfl h, rfl, rfl⟩
  | true =>
    unfold activityTaken Em.setMode wokenMode
    cases mode : em.mode <;> constructor <;> simp_all [EngineMode.isWorking]

theorem phaseTaken_mode (now : Stamp) (new : Phase) (em : Em) : (phaseTaken now new em).mode =
    if em.mode = .work ∧ (new = .dumping ∨ new = .returning) ∧ em.settings.ecoEnable = true then .eco
    else if em.mode = .eco ∧ ¬(new = .dumping ∨ new = .returning) then .work
    else em.mode := by
  simp only [← isUnloaded_iff]
  unfold phaseTaken Em.setMode
  cases mode : em.mode with
  | work => cases Phase.isUnloaded new <;> cases em.settings.ecoEnable <;> simp [mode]
  | eco => cases Phase.isUnloaded new <;> simp [mode]
  | stopped | autoIdle | shutdownPending | shutdownAdvised => simp [mode]

/-- A change of phase moves WORK and ECO alone, and then keeps the idle timer (R139, R141). -/
theorem phaseTaken_rest (now : Stamp) (new : Phase) (em : Em) : (phaseTaken now new em).idleTimer = em.idleTimer ∧
    (phaseTaken now new em).settings = em.settings ∧ (phaseTaken now new em).copy = em.copy ∧
    ((phaseTaken now new em).mode = em.mode → phaseTaken now new em = em) ∧
    ((phaseTaken now new em).mode ≠ em.mode → (em.mode = .work ∨ em.mode = .eco) ∧
      ((phaseTaken now new em).mode = .work ∨ (phaseTaken now new em).mode = .eco) ∧ (phaseTaken now new em).shutdownTimer = .stopped ∧ (phaseTaken now new em).deferred = false ∧
      (phaseTaken now new em).wait = .none ∧ (phaseTaken now new em).cancel = false ∧ (phaseTaken now new em).failed = em.failed) := by
  unfold phaseTaken Em.setMode
  cases mode : em.mode with
  | work => cases Phase.isUnloaded new <;> cases em.settings.ecoEnable <;> simp [mode, EngineMode.isWorking]
  | eco => cases Phase.isUnloaded new <;> simp [mode, EngineMode.isWorking]
  | stopped | autoIdle | shutdownPending | shutdownAdvised => simp [mode]

theorem poseMoved_moved (now : Stamp) (active changes : Bool) (new : Phase) (em : Em) :
    EmMoved now active (movedMode active changes em.settings.ecoEnable new em.mode) em (poseMoved now active changes new em) := by
  have woken := activityTaken_moved now active em
  unfold movedMode poseMoved
  generalize (if active = true then activityTaken now em else em) = b at woken
  cases changes with
  | false => exact woken
  | true =>
    obtain ⟨mode, idle, stays, moves, settings, copy⟩ := woken
    obtain ⟨idle', settings', copy', same, differs⟩ := phaseTaken_rest now new b
    have mode' := phaseTaken_mode now new b
    rw [settings, mode] at mode'
    simp only [if_true, Bool.true_eq_false, if_false]
    rw [← mode']
    have asleep : b.mode = em.mode ∨ (em.mode ≠ .work ∧ em.mode ≠ .eco ∧ b.mode = .work) := by
      rw [mode, wokenMode]
      split_ifs with h
      · refine .inr ⟨?_, ?_, rfl⟩ <;> rintro e <;> simp [e] at h
      · exact .inl rfl
    rw [← mode] at stays moves
    refine ⟨rfl, idle'.trans idle, fun h => ?_, fun h => ?_, settings'.trans settings, copy'.trans copy⟩
    · by_cases kept : (phaseTaken now new b).mode = b.mode
      · rw [same kept] at h ⊢
        exact stays h
      · obtain ⟨-, working, -⟩ := differs kept
        rcases asleep with e | ⟨notWork, notEco, -⟩
        · exact absurd (h.trans e.symm) kept
        · rw [h] at working
          exact absurd working (not_or.2 ⟨notWork, notEco⟩)
    · by_cases kept : (phaseTaken now new b).mode = b.mode
      · rw [same kept] at h ⊢
        exact moves h
      · obtain ⟨working, -, timer, deferred, wait, cancel, failed⟩ := differs kept
        refine ⟨timer, deferred, wait, ?_, ?_⟩
        · rw [cancel, eq_comm, decide_eq_false_iff_not]
          rintro ⟨advised, work⟩
          rcases asleep with e | ⟨-, -, e⟩
          · rw [e, advised] at working
            simp at working
          · exact kept (work.trans e.symm)
        · rw [failed]
          rcases asleep with e | ⟨notWork, -, e⟩
          · rw [(stays e).2.2.2.2]
            rw [e] at working
            rcases working with w | w <;> rw [w] <;> rfl
          · exact (moves (e.trans_ne (Ne.symm notWork))).2.2.2.2

end Sys2Proof.Machine

/-! PROOFS. The completion of a computation up to its deliveries: the pose, the over-dig state, the tip report, and the Cycle Tracker's
record (R43 to R53, R98 to R103, R106, R111). -/

namespace Sys2Proof.Machine

/-! ## The pose (R43 to R47, R50) -/

theorem differs_or (a b c d : Int) : (a != b || c != d) = decide (a ≠ b ∨ c ≠ d) := by
  rw [Bool.eq_iff_iff]
  simp

/-- A pose has a grade error exactly with the grade ON (R50). -/
theorem assemblePose_gradeError (ps : Ps) (c : Computation) (now : Stamp) (off : ps.grade.on = false) :
    (assemblePose ps c now).gradeError = none := by
  show gradeErrorOf ps.grade _ _ = none
  unfold gradeErrorOf
  rw [off]
  rfl

/-! ## The over-dig state and the tip report (R51, R53) -/

/-- The GRADE EVENT of a completion, if the over-dig state changes (R51). -/
def overdigNotices (p : Pose) (ps : Ps) : List Notice :=
  if overdigging ps.grade p = ps.overdig then []
  else [.gradeEvent (if overdigging ps.grade p then none else some (overdigEnd ps.grade p)) p.reach p.height p.gradeError p.quality
    p.count p.stamp]

/-- The machine lines and inputs that a completion leaves, but for the driven alarm. -/
structure LinesKept (a b : Mlu) : Prop where
  inputs      : b.inputs = a.inputs
  authority   : b.authority = a.authority
  nextReading : b.nextReading = a.nextReading

theorem settleOverdig_eq (p : Pose) (s : State) : ∃ m, settleOverdig p s = { s with
      ps := { s.ps with overdig := overdigging s.ps.grade p }, mlu := m, lc := (queueNotices (overdigNotices p s.ps) s).lc } ∧
    LinesKept s.mlu m ∧ m.slots.ps = (if overdigging s.ps.grade p = s.ps.overdig then s.mlu.slots.ps
      else if overdigging s.ps.grade p then .pulse else .off) := by
  have asked (a : AlarmPattern) (u : State) (mlu : u.mlu = s.mlu) : ∃ m, requestPsAlarm a u = { u with mlu := m } ∧ LinesKept s.mlu m ∧
      m.slots.ps = a := by
    obtain ⟨inputs, authority, -, -, slots, next⟩ := redrive_fields u.now { u.mlu with slots := { u.mlu.slots with ps := a } }
    refine ⟨_, rfl, ⟨?_, ?_, ?_⟩, ?_⟩
    · rw [inputs, mlu]
    · rw [authority, mlu]
    · rw [next, mlu]
    · rw [slots]
  unfold settleOverdig overdigNotices
  cases digs : overdigging s.ps.grade p <;> cases dug : s.ps.overdig <;>
    simp only [Bool.and_true, Bool.and_false, Bool.not_true, Bool.not_false, Bool.false_eq_true, if_true, if_false,
      reduceCtorEq]
  · refine ⟨s.mlu, ?_, ⟨rfl, rfl, rfl⟩, rfl⟩
    rw [← dug]
    rfl
  · obtain ⟨m, eq, kept, slot⟩ := asked .off _ (((queueNotice_frame (.gradeEvent (some (overdigEnd s.ps.grade p)) p.reach p.height
      p.gradeError p.quality p.count p.stamp) (onPs (fun ps => { ps with overdig := false }) s)).mlu rfl))
    exact ⟨m, eq, kept, slot⟩
  · obtain ⟨m, eq, kept, slot⟩ := asked .pulse _ (((queueNotice_frame (.gradeEvent none p.reach p.height
      p.gradeError p.quality p.count p.stamp) (onPs (fun ps => { ps with overdig := true }) s)).mlu rfl))
    exact ⟨m, eq, kept, slot⟩
  · refine ⟨s.mlu, ?_, ⟨rfl, rfl, rfl⟩, rfl⟩
    rw [← dug]
    rfl

/-- The TIP REPORT of a completion, if it is due (R53). -/
def tipNotices (p : Pose) (ps : Ps) : List Notice :=
  if tipReportDue ps p.stamp then [.tipReport p.reach p.height p.slewAngle p.gradeError p.quality p.count] else []

theorem serveTip_eq (p : Pose) (s : State) : serveTip p s = { s with
    ps := { s.ps with tipLast := if tipReportDue s.ps p.stamp then some p.stamp else s.ps.tipLast }
    lc := (queueNotices (tipNotices p s.ps) s).lc } := by
  unfold serveTip tipNotices
  split_ifs <;> rfl

theorem tipReportDue_iff (ps : Ps) (now : Stamp) : tipReportDue ps now = true ↔ ps.tipInterval ≠ 0 ∧
    ps.tipLast.all (fun l => decide (ps.tipInterval ≤ (now - l).toNat)) = true := by
  unfold tipReportDue
  cases ps.tipLast with
  | none => simp
  | some l =>
    rw [Bool.and_eq_true, bne_iff_ne]
    exact Iff.rfl

/-- What a completion leaves of the Pose Solver, a pending start aside (R40, R48, R51, R53). -/
def posedPs (p : Pose) (ps : Ps) : Ps := { ps with
  pose := p, inFlight := none, overdig := overdigging ps.grade p
  tipLast := if tipReportDue ps p.stamp then some p.stamp else ps.tipLast }

/-- A completion up to its deliveries. -/
def posed (p : Pose) (s : State) : State := serveTip p (settleOverdig p (onPs (fun ps => { ps with pose := p, inFlight := none }) s))

theorem posed_eq (p : Pose) (s : State) : ∃ m, posed p s = { s with
      ps := posedPs p s.ps, mlu := m, lc := (queueNotices (overdigNotices p s.ps ++ tipNotices p s.ps) s).lc } ∧
    LinesKept s.mlu m ∧ m.slots.ps = (if overdigging s.ps.grade p = s.ps.overdig then s.mlu.slots.ps
      else if overdigging s.ps.grade p then .pulse else .off) := by
  obtain ⟨m, eq, kept, slot⟩ := settleOverdig_eq p (onPs (fun ps => { ps with pose := p, inFlight := none }) s)
  refine ⟨m, ?_, kept, slot⟩
  have told := queueNotices_congr (tipNotices p s.ps) (u := settleOverdig p (onPs (fun ps => { ps with pose := p, inFlight := none }) s))
    (v := queueNotices (overdigNotices p s.ps) s) (by
      rw [eq]
      exact queueNotices_congr _ rfl (.refl _)) (by
      rw [eq, queueNotices_rs]
      exact .refl _)
  rw [← queueNotices_append] at told
  unfold posed
  rw [serveTip_eq, show tipNotices p (settleOverdig p (onPs (fun ps => { ps with pose := p, inFlight := none }) s)).ps =
    tipNotices p s.ps by rw [eq]; rfl, told, eq]
  rfl

/-! ## The Cycle Tracker's record (R98 to R103, R106, R111) -/

/-- The window that a dump during a run hands to the step, if any: the OPEN one of that run, closed (R103, R111). -/
def handedWindow (dumps : Bool) (ct : Ct) : Option Window :=
  ct.window.bind fun w =>
    if dumps = true ∧ ct.run.isSome ∧ w.forRun = true ∧ w.result = none then
      some { w with result := some (weighedBy ct.fempty ct.gain w) }
    else none

/-- The record once a pose is taken. -/
def posedCt (p : Pose) (s : State) : Ct := { s.ct with
  pose := some p, phase := nextPhase s p
  window := if nextPhase s p = .unknown ∨ isDump s p = true then none
    else if nextPhase s p = .swingLoaded ∧ s.ct.phase = .loaded then some (newWindow s p) else s.ct.window
  step := s.ct.step.or (handedWindow (isDump s p) s.ct)
  waiting := if s.ct.step.isSome then s.ct.waiting ++ (handedWindow (isDump s p) s.ct).toList else s.ct.waiting }

/-- With no window handed the step and the waiting list stay. -/
theorem handedWindow_none {ct : Ct} {dumps : Bool} (h : handedWindow dumps ct = none) :
    ct.step.or (handedWindow dumps ct) = ct.step ∧
      (if ct.step.isSome then ct.waiting ++ (handedWindow dumps ct).toList else ct.waiting) = ct.waiting := by
  rw [h]
  cases ct.step <;> simp

theorem handedWindow_still (ct : Ct) : handedWindow false ct = none := by
  unfold handedWindow
  cases ct.window <;> simp

/-- The window closed at a dump, the step perhaps taking it (R103, R106, R111). -/
theorem closeAtDump_ct (s : State) : ∃ window, (closeAtDump s).ct = { s.ct with
    window := window
    step := s.ct.step.or (handedWindow true s.ct)
    waiting := if s.ct.step.isSome then s.ct.waiting ++ (handedWindow true s.ct).toList else s.ct.waiting } := by
  unfold closeAtDump
  cases open' : s.ct.window with
  | none =>
    obtain ⟨step, waiting⟩ := handedWindow_none (ct := s.ct) (dumps := true) (by rw [handedWindow, open']; rfl)
    exact ⟨s.ct.window, by simp only [step, waiting]⟩
  | some w =>
    simp only []
    cases result : w.result with
    | some r =>
      obtain ⟨step, waiting⟩ := handedWindow_none (ct := s.ct) (dumps := true) (by rw [handedWindow, open']; simp [result])
      exact ⟨s.ct.window, by simp only [step, waiting]; rfl⟩
    | none =>
      rw [Option.isNone_none, if_pos rfl]
      show ∃ window, Ct.complete w s.ct = _
      unfold Ct.complete
      simp only [weigh_eq]
      by_cases hands : s.ct.run.isSome = true ∧ w.forRun = true
      · have handed : handedWindow true s.ct = some { w with result := some (weighedBy s.ct.fempty s.ct.gain w) } := by
          rw [handedWindow, open', Option.bind_some, if_pos ⟨rfl, hands.1, hands.2, result⟩]
        rw [if_pos (by rw [hands.1, hands.2]; rfl), handed]
        unfold Ct.hand
        cases busy : s.ct.step with
        | none => exact ⟨some { w with result := some (weighedBy s.ct.fempty s.ct.gain w) }, by simp⟩
        | some x => exact ⟨some { w with result := some (weighedBy s.ct.fempty s.ct.gain w) }, by simp⟩
      · obtain ⟨step, waiting⟩ := handedWindow_none (ct := s.ct) (dumps := true) (by
          rw [handedWindow, open', Option.bind_some, if_neg (fun h => hands ⟨h.2.1, h.2.2.1⟩)])
        rw [if_neg (by simpa using hands)]
        exact ⟨some { w with result := some (weighedBy s.ct.fempty s.ct.gain w) }, by simp only [step, waiting]⟩

theorem isDump_iff (s : State) (p : Pose) : isDump s p = true ↔ nextPhase s p = .dumping ∧ s.ct.phase ≠ .dumping := by
  unfold isDump
  cases nextPhase s p <;> cases s.ct.phase <;> simp

/-- The window moved, the step perhaps taking the one that a dump closes (R98, R102, R103, R106, R111). -/
theorem moveWindow_ct (p : Pose) (s : State) : (moveWindow p s).ct = { posedCt p s with pose := s.ct.pose, phase := s.ct.phase } := by
  have still (h : isDump s p = false) := handedWindow_none (ct := s.ct) (dumps := isDump s p) (by rw [h, handedWindow_still])
  have quiet (h : nextPhase s p ≠ .dumping) : isDump s p = false := Bool.eq_false_iff.2 fun d => h ((isDump_iff s p).1 d).1
  unfold moveWindow posedCt
  cases next : nextPhase s p with
  | unknown =>
    obtain ⟨step, waiting⟩ := still (quiet (by rw [next]; decide))
    simp only [step, waiting, true_or, if_true]
    rfl
  | swingLoaded =>
    have none' := quiet (by rw [next]; decide)
    obtain ⟨step, waiting⟩ := still none'
    rw [none'] at step waiting
    simp only [step, waiting, none', reduceCtorEq, Bool.false_eq_true, or_false, if_false, true_and]
    split_ifs <;> rfl
  | dumping =>
    cases dumps : isDump s p with
    | false =>
      rw [dumps] at still
      obtain ⟨step, waiting⟩ := still rfl
      simp only [step, waiting, reduceCtorEq, Bool.false_eq_true, or_false, if_false, false_and]
    | true =>
      obtain ⟨window, closed⟩ := closeAtDump_ct s
      simp only [if_true, or_true]
      show { (closeAtDump s).ct with window := none } = _
      rw [closed]
  | digging | loaded | returning =>
    have none' := quiet (by rw [next]; decide)
    obtain ⟨step, waiting⟩ := still none'
    rw [none'] at step waiting
    simp only [step, waiting, none', reduceCtorEq, Bool.false_eq_true, or_false, if_false, false_and]

theorem takePoseAtCt_eq (p : Pose) (s : State) : takePoseAtCt p s = { s with ct := posedCt p s } := by
  have frame := moveWindow_frame p s
  have lc : (moveWindow p s).lc = s.lc := by
    unfold moveWindow closeAtDump
    repeat' split
    all_goals rfl
  have ct := moveWindow_ct p s
  unfold takePoseAtCt onCt
  rw [ct, lc, frame.scu rfl, frame.mlu rfl, frame.ps rfl, frame.zt rfl, frame.sl rfl, frame.lr rfl, frame.em rfl, frame.st rfl,
    frame.rs rfl, frame.choices rfl, frame.powered, frame.pending]
  rfl

end Sys2Proof.Machine

/-! PROOFS. The deliveries of a completed pose, in their free order (R48, R98, R101, R107, R115, R140, R141). -/

namespace Sys2Proof.Machine

/-! ## The parts -/

/-- What a completed pose delivers: to the Slew Limiter; of the Cycle Tracker, the end of a run or a pass; to the Economy Manager, an
activity and then a change of phase. -/
inductive PosePart
  | slew | runEnds | pass | activity | phase
  deriving DecidableEq

/-- The delivery of a pose `p` completed at `s`. -/
def posePart (p : Pose) (s : State) : PosePart → State → State
  | .slew => deliverPoseToSl p
  | .runEnds => hardFail .hardPose
  | .pass => arrivePass (dumpPass s p)
  | .activity => takeActivity
  | .phase => takePhaseChange (nextPhase s p)

/-- An INVALID pose ends a run (R115). -/
def poseEnds (p : Pose) (s : State) : Bool := decide (p.quality = .invalid) && s.ct.run.isSome

/-- A dump outside a run hands over a pass (R107). -/
def posePasses (p : Pose) (s : State) : Bool := isDump s p && s.ct.run.isNone

/-- A pose changes the phase. -/
def poseChanges (p : Pose) (s : State) : Bool := decide (nextPhase s p ≠ s.ct.phase)

/-- The deliveries to the Economy Manager, in their order. -/
def emParts (p : Pose) (s : State) : List PosePart :=
  (if poseActive s p then [.activity] else []) ++ if poseChanges p s then [.phase] else []

/-- The deliveries, in their sequences. -/
def poseParts (p : Pose) (s : State) : List (List PosePart) :=
  [[.slew], (if poseEnds p s then [.runEnds] else []) ++ (if posePasses p s then [.pass] else []), emParts p s]

theorem deliverPose_eq (p : Pose) (s : State) :
    deliverPose p s = interleave ((poseParts p s).map (List.map (posePart p s))) { s with ct := posedCt p s } := by
  have tracker : poseDeliveries s p = ((if poseEnds p s then [PosePart.runEnds] else []) ++
      if posePasses p s then [PosePart.pass] else []).map (posePart p s) := by
    unfold poseDeliveries poseEnds posePasses
    rw [List.map_append]
    congr 1
    · by_cases ends : p.quality = .invalid ∧ s.ct.run.isSome = true
      · rw [if_pos ends, if_pos (by rw [decide_eq_true ends.1, ends.2]; rfl)]
        rfl
      · rw [if_neg ends, if_neg (by simpa using ends)]
        rfl
    · split_ifs <;> rfl
  have engine : emDeliveries s p = (emParts p s).map (posePart p s) := by
    unfold emDeliveries phaseDelivery emParts poseChanges
    rw [List.map_append]
    congr 1
    · split_ifs <;> rfl
    · by_cases same : nextPhase s p = s.ct.phase
      · rw [if_pos same, if_neg (by simp [same])]
        rfl
      · rw [if_neg same, if_pos (decide_eq_true same)]
        rfl
  unfold deliverPose poseParts
  rw [takePoseAtCt_eq, tracker, engine]
  rfl

/-- How often each delivery comes. -/
theorem poseParts_count (p : Pose) (s : State) {l : List PosePart} (perm : l.Perm (poseParts p s).flatten) :
    l.count .slew = 1 ∧ l.count .runEnds = (if poseEnds p s then 1 else 0) ∧ l.count .pass = (if posePasses p s then 1 else 0) ∧
      l.countP (fun a => a == .activity || a == .phase) = (emParts p s).length := by
  rw [perm.count_eq, perm.count_eq, perm.count_eq, perm.countP_eq]
  unfold poseParts emParts
  cases poseEnds p s <;> cases posePasses p s <;> cases poseActive s p <;> cases poseChanges p s <;> exact ⟨rfl, rfl, rfl, rfl⟩

/-! ## The lines and the pose in use (R48) -/

theorem evaluateSlew_lines (s : State) : LinesKept s.mlu (evaluateSlew s).mlu ∧ (evaluateSlew s).mlu.slots.ps = s.mlu.slots.ps := by
  have zones := evaluateSlew_sameZones s
  cases pose : s.sl.pose with
  | none =>
    rw [evaluateSlew_none pose]
    exact ⟨⟨rfl, rfl, rfl⟩, rfl⟩
  | some p =>
    refine ⟨⟨zones.inputs, zones.authority, ?_⟩, ?_⟩
    · rw [evaluateSlew_some pose, (evaluateOn_from_cutsTaken p s).mlu rfl]
      have kept := (settleIntrusions_frame (slewInputs s.sl p) (outcomesOn p s) s).mlu rfl
      simp only [cutsTaken, requestSlAlarm, onMlu_mlu, onSl_mlu, kept]
      obtain ⟨-, -, -, -, -, next⟩ := redrive_fields (onMlu (Mlu.takeCutSet (cutSetOf (causesOn p s)))
        (onSl (fun sl => { sl with marks := marksOf (outcomesOn p s), state := stateOn p s, cutSet := cutSetOf (causesOn p s)
                                   causes := causesOn p s }) (settleIntrusions (slewInputs s.sl p) (outcomesOn p s) s))).now
        { Mlu.takeCutSet (cutSetOf (causesOn p s)) s.mlu with
          slots := { (Mlu.takeCutSet (cutSetOf (causesOn p s)) s.mlu).slots with sl := SlewState.alarm (stateOn p s) } }
      exact next
    · rw [evaluateSlew_some pose, (evaluateOn_mlu p s).2.2]

/-- What the deliveries leave of the pose in use, the zones held and the lines, the first of them begun or not. -/
structure PoseLines (s t : State) : Prop where
  held  : ∀ k : Fin 16, t.zt.zones[k].held = s.zt.zones[k].held
  lines : LinesKept s.mlu t.mlu
  slot  : t.mlu.slots.ps = s.mlu.slots.ps

theorem PoseLines.refl (s : State) : PoseLines s s := ⟨fun _ => rfl, ⟨rfl, rfl, rfl⟩, rfl⟩

theorem PoseLines.trans {s t u : State} (h : PoseLines s t) (k : PoseLines t u) : PoseLines s u :=
  ⟨fun i => (k.held i).trans (h.held i), ⟨k.lines.inputs.trans h.lines.inputs, k.lines.authority.trans h.lines.authority,
    k.lines.nextReading.trans h.lines.nextReading⟩, k.slot.trans h.slot⟩

theorem Frame.poseLines {b : Blocks} {s t : State} (h : Frame b s t) (mlu : b.mlu = false) (zt : b.zt = false) : PoseLines s t := by
  refine ⟨fun k => by rw [h.zt zt], ⟨?_, ?_, ?_⟩, ?_⟩ <;> rw [h.mlu mlu]

theorem deliverPoseToSl_lines (p : Pose) (s : State) : PoseLines s (deliverPoseToSl p s) ∧ (deliverPoseToSl p s).sl.pose = some p := by
  have zones := evaluateSlew_sameZones (onSl (fun sl => { sl with pose := some p }) s)
  obtain ⟨lines, slot⟩ := evaluateSlew_lines (onSl (fun sl => { sl with pose := some p }) s)
  have sl := evaluateSlew_sl (onSl (fun sl => { sl with pose := some p }) s)
  refine ⟨⟨zones.held, lines, slot⟩, ?_⟩
  unfold deliverPoseToSl
  rw [sl]
  rfl

section
variable {p : Pose} {s w t : State} {l : List PosePart} (runs : Runs (l.map (posePart p s)) w t)
include runs

theorem poseRuns_lines : PoseLines w t := by
  refine Runs.keeps (P := PoseLines w) (fun u n h => ⟨h.held, h.lines, h.slot⟩) runs (fun g m u h => ?_) (.refl w)
  obtain ⟨a, -, rfl⟩ := List.mem_map.1 m
  cases a with
  | slew => exact h.trans (deliverPoseToSl_lines p u).1
  | runEnds => exact h.trans ((hardFail_frame _ u).poseLines rfl rfl)
  | pass => exact h.trans ((arrivePass_frame _ u).poseLines rfl rfl)
  | activity => exact h.trans ((takeActivity_frame u).poseLines rfl rfl)
  | phase => exact h.trans ((takePhaseChange_frame _ u).poseLines rfl rfl)

theorem poseRuns_pose (slew : PosePart.slew ∈ l) : t.sl.pose = some p := by
  refine (runs.establishes (P := fun _ => True) (Q := fun u => u.sl.pose = some p) (fun _ _ _ => trivial) (fun _ _ h => h)
    (fun _ _ _ _ => trivial) (fun g m u _ h => ?_) (.inr ⟨_, List.mem_map_of_mem slew, fun u _ => (deliverPoseToSl_lines p u).2⟩)
    trivial).2
  obtain ⟨a, -, rfl⟩ := List.mem_map.1 m
  cases a with
  | slew => exact (deliverPoseToSl_lines p u).2
  | runEnds => rw [show (posePart p s .runEnds u).sl = u.sl from (hardFail_frame _ u).sl rfl]; exact h
  | pass => rw [show (posePart p s .pass u).sl = u.sl from (arrivePass_frame _ u).sl rfl]; exact h
  | activity => exact ((takeActivity_frame u).sl rfl : (posePart p s .activity u).sl = u.sl) ▸ h
  | phase => exact ((takePhaseChange_frame _ u).sl rfl : (posePart p s .phase u).sl = u.sl) ▸ h

/-! ## The blocks that some deliveries alone change -/

/-- Without the end of a run the contexts and the Cycle Tracker stay. -/
theorem poseRuns_tracker (still : PosePart.runEnds ∉ l) : t.scu = w.scu ∧ t.ct = w.ct ∧ t.ps = w.ps := by
  have touches : Touches { mlu := true, zt := true, sl := true, lr := true, em := true, st := true, rs := true, choices := true } w t := by
    refine runs.touches fun a m u => ?_
    cases a with
    | slew => exact (deliverPoseToSl_frame p u).touchesWithin rfl
    | runEnds => exact absurd m still
    | pass => exact (arrivePass_frame _ u).touchesWithin rfl
    | activity => exact (takeActivity_frame u).touchesWithin rfl
    | phase => exact (takePhaseChange_frame _ u).touchesWithin rfl
  exact ⟨touches.scu rfl, touches.ct rfl, touches.ps rfl⟩

/-- Without a pass the loads, the service items and the store stay. -/
theorem poseRuns_loads (still : PosePart.pass ∉ l) : t.lr = w.lr ∧ t.st = w.st ∧ t.rs = w.rs := by
  have touches : Touches { scu := true, ct := true, mlu := true, zt := true, sl := true, em := true, choices := true } w t := by
    refine runs.touches fun a m u => ?_
    cases a with
    | slew => exact (deliverPoseToSl_frame p u).touchesWithin rfl
    | runEnds => exact (hardFail_frame _ u).touchesWithin rfl
    | pass => exact absurd m still
    | activity => exact (takeActivity_frame u).touchesWithin rfl
    | phase => exact (takePhaseChange_frame _ u).touchesWithin rfl
  exact ⟨touches.lr rfl, touches.st rfl, touches.rs rfl⟩

/-- The notices of the deliveries beside the end of a run and a pass. -/
theorem poseRuns_speak (still : PosePart.runEnds ∉ l) (still' : PosePart.pass ∉ l) :
    ∃ ns, Speaks ns w t ∧ ns.countP notAdvice ≤ 17 * l.count .slew := by
  induction l generalizing w with
  | nil =>
    obtain ⟨n, rfl⟩ := runs
    exact ⟨[], .silent rfl (.refl _) rfl, Nat.zero_le _⟩
  | cons a l ih =>
    obtain ⟨n, runs⟩ := runs
    obtain ⟨ms, speaks, few⟩ := ih runs (fun m => still (List.mem_cons_of_mem _ m)) fun m => still' (List.mem_cons_of_mem _ m)
    have first : ∃ ns, Speaks ns w (posePart p s a { w with choices := n }) ∧
        ns.countP notAdvice ≤ 17 * (if a = .slew then 1 else 0) := by
      have engine {f : Em → Em} (apart : CapApart f) : ∃ ns, Speaks ns w (settleAdvice (onEm f { w with choices := n })) ∧
          ns.countP notAdvice ≤ 0 := by
        obtain ⟨-, -, ns, speaks, none'⟩ := settledOn apart { w with choices := n }
        exact ⟨ns, speaks.after rfl (.refl _) rfl, none'.le⟩
      cases a with
      | slew =>
        obtain ⟨ns, tells, few, mem⟩ := evaluateSlew_tells (onSl (fun sl => { sl with pose := some p }) { w with choices := n })
        have plain : ∀ m ∈ ns, m.replacesItsKind = false := fun m hm => evaluation_plain ((mem m).1 hm)
        exact ⟨ns, Tells.speaks (s := w) (tells.after rfl (.refl _)) plain (congrArg Em.lastAdvice ((deliverPoseToSl_frame p _).em rfl)),
          List.countP_le_length.trans few⟩
      | runEnds => exact absurd List.mem_cons_self still
      | pass => exact absurd List.mem_cons_self still'
      | activity => exact engine (activityTaken_capApart _)
      | phase => exact engine (phaseTaken_capApart _ _)
    obtain ⟨ns, speaks₁, few₁⟩ := first
    refine ⟨ns ++ ms, speaks₁.trans speaks, ?_⟩
    rw [List.countP_append, List.count_cons]
    simp only [beq_iff_eq]
    omega

/-! ## The Economy Manager (R140, R141, R145) -/

theorem poseRuns_stands (stands : AdviceStands w.em w.em.lastAdvice) : AdviceStands t.em t.em.lastAdvice := by
  refine Runs.keeps (P := fun u => AdviceStands u.em u.em.lastAdvice) (fun _ _ h => h) runs (fun g m u h => ?_) stands
  obtain ⟨a, -, rfl⟩ := List.mem_map.1 m
  cases a with
  | slew => rw [show (posePart p s .slew u).em = u.em from (deliverPoseToSl_frame p u).em rfl]; exact h
  | runEnds => rw [show (posePart p s .runEnds u).em = u.em from (hardFail_frame _ u).em rfl]; exact h
  | pass => exact (arrivePass_arrived _ u).em.stands h
  | activity => exact (settledOn (activityTaken_capApart u.lc.time) u).2.1
  | phase => exact (settledOn (phaseTaken_capApart u.lc.time _) u).2.1

theorem poseRuns_em (order : l.filter (fun a => a == .activity || a == .phase) = emParts p s) :
    Em.capped w.em t.em = poseMoved w.lc.time (poseActive s p) (poseChanges p s) (nextPhase s p) w.em := by
  have folded := runs.folds (P := fun u => u.lc.time = w.lc.time) (fun _ _ h => h) (fun a => a == .activity || a == .phase)
    (fun u => Em.capped w.em u.em) (fun _ _ => rfl)
    (fun a => if a = .activity then activityTaken w.lc.time else phaseTaken w.lc.time (nextPhase s p)) (fun a _ u time => ?_) rfl
  · rw [folded, order]
    unfold emParts poseMoved
    cases poseActive s p <;> cases poseChanges p s <;> rfl
  · cases a with
    | slew =>
      have frame := deliverPoseToSl_frame p u
      exact ⟨frame.lc.time.trans time, congrArg (Em.capped w.em) (frame.em rfl)⟩
    | runEnds =>
      have frame := hardFail_frame .hardPose u
      exact ⟨frame.lc.time.trans time, congrArg (Em.capped w.em) (frame.em rfl)⟩
    | pass => exact ⟨(arrivePass_frame _ u).lc.time.trans time, (arrivePass_arrived _ u).em.capped w.em⟩
    | activity =>
      refine ⟨(takeActivity_frame u).lc.time.trans time, ?_⟩
      have moved := (settledOn (activityTaken_capApart u.lc.time) u).1 w.em
      refine moved.trans ?_
      rw [time]
      rfl
    | phase =>
      refine ⟨(takePhaseChange_frame _ u).lc.time.trans time, ?_⟩
      have moved := (settledOn (phaseTaken_capApart u.lc.time (nextPhase s p)) u).1 w.em
      refine moved.trans ?_
      rw [time]
      rfl

end

end Sys2Proof.Machine

/-! PROOFS. What the deliveries of a completed pose leave, and the notices they hand over (R48, R101, R107, R115, R117, R140, R141). -/

namespace Sys2Proof.Machine

/-! ## The end of a run and a pass, among the other deliveries -/

/-- A run ended by a hard error, from where it stands (R111, R115, R117). -/
structure RunFailed (cause : RunFailure) (r : Run) (s t : State) : Prop where
  scu    : t.scu = s.scu.set 5 (drained [] s.scu[(5 : Fin 6)])
  ct     : t.ct = runEnded s s.ct
  speaks : Speaks [.calibrationResult (RunKind.isGain r.kind) (.failed cause) r.soft s.lc.time] s t

theorem hardFail_failed {cause : RunFailure} {r : Run} {s : State} (run : s.ct.run = some r) :
    RunFailed cause r s (hardFail cause s) := by
  obtain ⟨scu, ct, tells⟩ := hardFail_from (cause := cause) (c := s.ct) (s := s) run ⟨s.choices, rfl⟩
  exact ⟨scu, ct, tells.speaks (plain_singleton rfl) (congrArg Em.lastAdvice ((hardFail_frame cause s).em rfl))⟩

theorem runEnded_congr {u v : State} (ct : Ct) (scu : u.scu = v.scu) (geometry : u.ps.geometry = v.ps.geometry) :
    runEnded u ct = runEnded v ct := by
  unfold runEnded withPressureTaken
  rw [scu, geometry]

/-- A pass among the deliveries: what arrives before it, and behind it. -/
structure PassDelivered (p : Pose) (s t : State) : Prop where
  parts : ∃ u v us ws, (u.lr = s.lr ∧ u.st = s.st ∧ u.rs = s.rs ∧ travelComesNext u = travelComesNext s) ∧
    PassArrived (dumpPass s p) u v ∧ (t.lr = v.lr ∧ t.st = v.st ∧ t.rs = v.rs) ∧ Speaks us s u ∧ Speaks ws v t

theorem travelComesNext_congr {u s : State} (pending : u.pending = s.pending) (powered : u.powered = s.powered)
    (time : u.lc.time = s.lc.time) (lines : LinesKept s.mlu u.mlu) : travelComesNext u = travelComesNext s := by
  have due : readingDue u = readingDue s := by
    show (u.powered && _) = (s.powered && _)
    rw [powered, show u.now = s.now from time, lines.nextReading]
  unfold travelComesNext
  rw [pending, due, lines.inputs]

/-- What every delivery leaves of the part. -/
theorem poseRuns_part {p : Pose} {s w t : State} {l : List PosePart} (runs : Runs (l.map (posePart p s)) w t) :
    t.pending = w.pending ∧ t.powered = w.powered ∧ t.lc.time = w.lc.time := by
  refine Runs.keeps (P := fun u => u.pending = w.pending ∧ u.powered = w.powered ∧ u.lc.time = w.lc.time) (fun _ _ h => h) runs
    (fun g m u ⟨pending, powered, time⟩ => ?_) ⟨rfl, rfl, rfl⟩
  obtain ⟨a, -, rfl⟩ := List.mem_map.1 m
  have kept {b : Blocks} {v : State} (h : Frame b u v) : v.pending = w.pending ∧ v.powered = w.powered ∧ v.lc.time = w.lc.time :=
    ⟨h.pending.trans pending, h.powered.trans powered, h.lc.time.trans time⟩
  cases a with
  | slew => exact kept (deliverPoseToSl_frame p u)
  | runEnds => exact kept (hardFail_frame _ u)
  | pass => exact kept (arrivePass_frame _ u)
  | activity => exact kept (takeActivity_frame u)
  | phase => exact kept (takePhaseChange_frame _ u)

/-! ## The deliveries together -/

/-- What the deliveries of a pose `p` leave of the state `s` in which it is completed. -/
structure PoseDelivered (p : Pose) (s t : State) : Prop where
  pose   : t.sl.pose = some p
  lines  : PoseLines s t
  ps     : t.ps = s.ps
  ended  : poseEnds p s = true → t.scu = s.scu.set 5 (drained [] s.scu[(5 : Fin 6)]) ∧ t.ct = runEnded s (posedCt p s)
  kept   : poseEnds p s = false → t.scu = s.scu ∧ t.ct = posedCt p s
  em     : Em.capped s.em t.em = poseMoved s.lc.time (poseActive s p) (poseChanges p s) (nextPhase s p) s.em
  stands : AdviceStands s.em s.em.lastAdvice → AdviceStands t.em t.em.lastAdvice
  still  : posePasses p s = false → t.lr = s.lr ∧ t.st = s.st ∧ t.rs = s.rs
  passed : posePasses p s = true → PassDelivered p s t
  told   : ∃ ns, Speaks ns s t
  result : poseEnds p s = true → ∀ r ∈ s.ct.run, ∃ us ws, us.countP notAdvice ≤ 17 ∧
    Speaks (us ++ .calibrationResult (RunKind.isGain r.kind) (.failed .hardPose) r.soft s.lc.time :: ws) s t

section
variable {p : Pose} {s t : State} {l : List PosePart} (runs : Runs (l.map (posePart p s)) { s with ct := posedCt p s } t)
include runs

/-- The end of a run among the deliveries (R115). -/
theorem poseRuns_ends (once : l.count .runEnds = 1) (slew : l.count .slew = 1) (noPass : PosePart.pass ∉ l) {r : Run}
    (run : s.ct.run = some r) : (t.scu = s.scu.set 5 (drained [] s.scu[(5 : Fin 6)]) ∧ t.ct = runEnded s (posedCt p s)) ∧
      ∃ us ws, us.countP notAdvice ≤ 17 ∧
        Speaks (us ++ .calibrationResult (RunKind.isGain r.kind) (.failed .hardPose) r.soft s.lc.time :: ws) s t := by
  obtain ⟨l₁, l₂, u, parts, out, first, last⟩ := runs.once once
  have mem (a : PosePart) (m : a ∈ l₁ ++ l₂) : a ∈ l := parts.mem_iff.2 (List.mem_cons_of_mem _ m)
  have out₁ : PosePart.runEnds ∉ l₁ := fun m => out (List.mem_append_left _ m)
  have out₂ : PosePart.runEnds ∉ l₂ := fun m => out (List.mem_append_right _ m)
  obtain ⟨scu, ct, ps⟩ := poseRuns_tracker first out₁
  obtain ⟨us, before, few⟩ := poseRuns_speak first out₁ fun m => noPass (mem _ (List.mem_append_left _ m))
  obtain ⟨ws, after, -⟩ := poseRuns_speak last out₂ fun m => noPass (mem _ (List.mem_append_right _ m))
  obtain ⟨scu', ct', -⟩ := poseRuns_tracker last out₂
  obtain ⟨failedScu, failedCt, speaks⟩ := hardFail_failed (cause := .hardPose) (s := u) (r := r) (by rw [ct]; exact run)
  have time : u.lc.time = s.lc.time := (poseRuns_part first).2.2
  rw [time] at speaks
  have few' : us.countP notAdvice ≤ 17 := by
    have := parts.count_eq PosePart.slew
    rw [slew, List.count_cons_of_ne (by decide), List.count_append] at this
    omega
  refine ⟨⟨?_, ?_⟩, us, ws, few', ?_⟩
  · rw [scu', show (posePart p s .runEnds u).scu = _ from failedScu, scu]
  · rw [ct', show (posePart p s .runEnds u).ct = _ from failedCt, ct]
    exact runEnded_congr _ scu (congrArg Ps.geometry ps)
  · have all := ((before.trans speaks).trans after).after (s := s) rfl (.refl _) rfl
    rw [List.append_assoc] at all
    exact all

/-- A pass among the deliveries (R107). -/
theorem poseRuns_pass (once : l.count .pass = 1) (noEnd : PosePart.runEnds ∉ l) : PassDelivered p s t := by
  obtain ⟨l₁, l₂, u, parts, out, first, last⟩ := runs.once once
  have mem (a : PosePart) (m : a ∈ l₁ ++ l₂) : a ∈ l := parts.mem_iff.2 (List.mem_cons_of_mem _ m)
  have out₁ : PosePart.pass ∉ l₁ := fun m => out (List.mem_append_left _ m)
  have out₂ : PosePart.pass ∉ l₂ := fun m => out (List.mem_append_right _ m)
  obtain ⟨us, before, -⟩ := poseRuns_speak first (fun m => noEnd (mem _ (List.mem_append_left _ m))) out₁
  obtain ⟨ws, after, -⟩ := poseRuns_speak last (fun m => noEnd (mem _ (List.mem_append_right _ m))) out₂
  obtain ⟨lr, st, rs⟩ := poseRuns_loads first out₁
  obtain ⟨pending, powered, time⟩ := poseRuns_part first
  have lines := (poseRuns_lines first).lines
  exact ⟨u, arrivePass (dumpPass s p) u, us, ws, ⟨lr, st, rs, travelComesNext_congr pending powered time lines⟩, arrivePass_arrived _ u,
    poseRuns_loads last out₂, before.after (s := s) rfl (.refl _) rfl, after⟩

end

theorem deliverPose_delivered (p : Pose) (s : State) : PoseDelivered p s (deliverPose p s) := by
  obtain ⟨l, perm, sub, runs⟩ := interleave_ordered (poseParts p s) (posePart p s) { s with ct := posedCt p s }
  rw [← deliverPose_eq] at runs
  obtain ⟨slew, ends, passes, engine⟩ := poseParts_count p s perm
  have order := filter_of_sublist (sub (emParts p s) (by simp [poseParts])) (fun a m => by
    unfold emParts at m
    rcases List.mem_append.1 m with m | m
    · rw [(mem_ite_singleton m).2]
      rfl
    · rw [(mem_ite_singleton m).2]
      rfl) engine
  have apart : ¬(poseEnds p s = true ∧ posePasses p s = true) := by
    unfold poseEnds posePasses
    cases s.ct.run <;> simp
  have lines := poseRuns_lines runs
  have stands := poseRuns_stands runs
  have em := poseRuns_em runs order
  have pose := poseRuns_pose runs (List.count_pos_iff.1 (by omega))
  have ps : (deliverPose p s).ps = s.ps := (deliverPose_frame p s).ps rfl
  have noEnd (h : poseEnds p s = false) : PosePart.runEnds ∉ l := List.count_eq_zero.1 (by rw [ends, h]; rfl)
  have noPass (h : posePasses p s = false) : PosePart.pass ∉ l := List.count_eq_zero.1 (by rw [passes, h]; rfl)
  have ending (h : poseEnds p s = true) (r : Run) (run : s.ct.run = some r) := poseRuns_ends runs (by rw [ends, if_pos h]) slew
    (noPass (Bool.eq_false_iff.2 fun q => apart ⟨h, q⟩)) run
  have passing (h : posePasses p s = true) := poseRuns_pass runs (by rw [passes, if_pos h])
    (noEnd (Bool.eq_false_iff.2 fun q => apart ⟨q, h⟩))
  have active (h : poseEnds p s = true) : ∃ r, s.ct.run = some r := Option.isSome_iff_exists.1 (by
    unfold poseEnds at h
    rw [Bool.and_eq_true] at h
    exact h.2)
  refine ⟨pose, ⟨lines.held, lines.lines, lines.slot⟩, ps, fun h => ?_, fun h => ?_, em, stands, fun h => ?_, passing, ?_,
    fun h r m => (ending h r m).2⟩
  · obtain ⟨r, run⟩ := active h
    exact (ending h r run).1
  · obtain ⟨scu, ct, -⟩ := poseRuns_tracker runs (noEnd h)
    exact ⟨scu, ct⟩
  · exact poseRuns_loads (w := { s with ct := posedCt p s }) runs (noPass h)
  · cases endsRun : poseEnds p s with
    | true =>
      obtain ⟨r, run⟩ := active endsRun
      obtain ⟨-, us, ws, -, speaks⟩ := ending endsRun r run
      exact ⟨_, speaks⟩
    | false =>
      cases passesOn : posePasses p s with
      | true =>
        obtain ⟨u, v, us, ws, -, arrived, -, before, after⟩ := (passing passesOn).parts
        obtain ⟨_, _, _, _, -, -, speaks⟩ := arrived.filed
        exact ⟨_, (before.trans speaks).trans after⟩
      | false =>
        obtain ⟨ns, speaks, -⟩ := poseRuns_speak runs (noEnd endsRun) (noPass passesOn)
        exact ⟨ns, speaks.after (s := s) rfl (.refl _) rfl⟩

end Sys2Proof.Machine

/-! PROOFS. The completion of a computation, settled (R40, R46 to R48, R50, R51, R53, R98 to R104, R107, R111, R115, R139 to R142). -/

namespace Sys2Proof.Machine

/-! ## What the phase, the window and the pass are worked out from -/

/-- Two states alike in what a completed pose is judged by. -/
structure PoseReadAlike (s u : State) : Prop where
  ct       : u.ct = s.ct
  sl       : u.sl = s.sl
  geometry : u.ps.geometry = s.ps.geometry
  inputs   : u.mlu.inputs = s.mlu.inputs
  zt       : u.zt = s.zt

section
variable {s u : State} (h : PoseReadAlike s u) (p : Pose)
include h

theorem PoseReadAlike.nextPhase : nextPhase u p = Machine.nextPhase s p := by
  unfold Machine.nextPhase loadTest swinging travelActive
  simp only [h.ct, h.sl, h.geometry, h.inputs]

theorem PoseReadAlike.isDump : isDump u p = Machine.isDump s p := by
  unfold Machine.isDump
  rw [h.nextPhase, h.ct]

theorem PoseReadAlike.poseActive : poseActive u p = Machine.poseActive s p := by
  unfold Machine.poseActive swinging
  rw [h.sl]

theorem PoseReadAlike.poseEnds : poseEnds p u = Machine.poseEnds p s := by
  unfold Machine.poseEnds
  rw [h.ct]

theorem PoseReadAlike.posePasses : posePasses p u = Machine.posePasses p s := by
  unfold Machine.posePasses
  rw [h.isDump, h.ct]

theorem PoseReadAlike.poseChanges : poseChanges p u = Machine.poseChanges p s := by
  unfold Machine.poseChanges
  rw [h.nextPhase, h.ct]

theorem PoseReadAlike.posedCt : posedCt p u = Machine.posedCt p s := by
  unfold Machine.posedCt newWindow
  rw [h.nextPhase, h.isDump, h.ct, h.geometry]

end

theorem overdigging_eq {g : Grade} {p : Pose} (off : g.on = false → p.gradeError = none) :
    overdigging g p = decide (p.quality ≠ .invalid ∧ ∃ e ∈ p.gradeError, e < -(g.tolerance : Int)) := by
  unfold overdigging
  rw [Bool.eq_iff_iff, decide_eq_true_iff]
  cases on : g.on with
  | false =>
    rw [off on]
    simp
  | true => cases p.gradeError <;> simp

theorem startPending_eq (s : State) : startPending s = if s.ps.pendingStart then
    { s with scu := fifosEmptied s.scu, ps := begun s.scu { s.ps with pendingStart := false } } else s := by
  unfold startPending
  rw [startComputation_eq]
  rfl

/-- With no window open, the samples taken change the latest force alone (R96). -/
theorem pressureTaken_noWindow (g : Geometry) {ct : Ct} (fifo : List Sample) (none' : ct.window = none) :
    ∃ force, (pressureTaken g ct fifo).1 = { ct with force := force } := by
  induction fifo generalizing ct with
  | nil => exact ⟨ct.force, rfl⟩
  | cons x rest ih =>
    unfold pressureTaken
    split_ifs
    · exact ⟨ct.force, rfl⟩
    · exact ih none'
    · have taken : forceTaken (x.a * g.ah - x.b * g.ar) ct = { ct with force := some (x.a * g.ah - x.b * g.ar) } := by
        unfold forceTaken
        rw [none']
      rw [taken]
      exact ih (ct := { ct with force := some (x.a * g.ah - x.b * g.ar) }) none'

/-! ## The completion -/

/-- What a completion leaves once the pose `p` is delivered, a pending start aside (R46 to R53). -/
structure PoseHanded (p : Pose) (s t : State) : Prop where
  ps      : t.ps = posedPs p s.ps
  others  : ∀ ch : Fin 6, ch ≠ 5 → t.scu[ch] = s.scu[ch]
  pose    : t.sl.pose = some p
  held    : ∀ k : Fin 16, t.zt.zones[k].held = s.zt.zones[k].held
  lines   : LinesKept s.mlu t.mlu
  slot    : t.mlu.slots.ps = if overdigging s.ps.grade p = s.ps.overdig then s.mlu.slots.ps
    else if overdigging s.ps.grade p then .pulse else .off
  ended   : poseEnds p s = true → t.scu[(5 : Fin 6)] = drained [] s.scu[(5 : Fin 6)] ∧ t.ct = runEnded s (posedCt p s)
  kept    : poseEnds p s = false → t.scu[(5 : Fin 6)] = s.scu[(5 : Fin 6)] ∧ t.ct = posedCt p s
  em      : Em.capped s.em t.em = poseMoved s.lc.time (poseActive s p) (poseChanges p s) (nextPhase s p) s.em
  stands  : AdviceStands s.em s.em.lastAdvice → AdviceStands t.em t.em.lastAdvice
  still   : posePasses p s = false → t.lr = s.lr
  passed  : posePasses p s = true → ∃ u, PoseReadAlike s u ∧ (u.lr = s.lr ∧ u.st = s.st ∧ u.rs = s.rs) ∧
    travelComesNext u = travelComesNext s ∧ Tells (overdigNotices p s.ps ++ tipNotices p s.ps) s u ∧ PassDelivered p u t
  told    : ∃ ns, Tells (overdigNotices p s.ps ++ (tipNotices p s.ps ++ ns)) s t ∧ ∀ n ∈ ns, noticeKind n ≠ 0x45
  advised : AdviceHanded s t
  result  : poseEnds p s = true → ∀ r ∈ s.ct.run, ∃ us ws, us.countP notAdvice ≤ 19 ∧
    Tells (us ++ .calibrationResult (RunKind.isGain r.kind) (.failed .hardPose) r.soft s.lc.time :: ws) s t
  part    : t.pending = s.pending ∧ t.powered = s.powered

theorem overdigNotices_length (p : Pose) (ps : Ps) : (overdigNotices p ps).length ≤ 1 := by
  unfold overdigNotices
  split <;> simp

theorem tipNotices_length (p : Pose) (ps : Ps) : (tipNotices p ps).length ≤ 1 := by
  unfold tipNotices
  split <;> simp

theorem posed_alike (p : Pose) (s : State) : PoseReadAlike s (posed p s) := by
  obtain ⟨m, eq, lines, -⟩ := posed_eq p s
  rw [eq]
  exact ⟨rfl, rfl, rfl, lines.inputs, rfl⟩

theorem deliverPose_handed (p : Pose) (s : State) : PoseHanded p s (deliverPose p (posed p s)) := by
  have alike := posed_alike p s
  obtain ⟨m, eq, lines, slot⟩ := posed_eq p s
  have delivered := deliverPose_delivered p (posed p s)
  have frame := deliverPose_frame p (posed p s)
  generalize deliverPose p (posed p s) = v at delivered frame
  have first : Tells (overdigNotices p s.ps ++ tipNotices p s.ps) s (posed p s) := by
    rw [eq]
    exact ⟨rfl, .refl _⟩
  generalize posed p s = u at eq delivered alike frame first
  have same : u.scu = s.scu ∧ u.ps = posedPs p s.ps ∧ u.em = s.em ∧ u.lr = s.lr ∧ u.st = s.st ∧ u.rs = s.rs := by
    rw [eq]
    exact ⟨rfl, rfl, rfl, rfl, rfl, rfl⟩
  have mlu : u.mlu = m := by rw [eq]
  have part : u.pending = s.pending ∧ u.powered = s.powered := by
    rw [eq]
    exact ⟨rfl, rfl⟩
  clear eq
  subst mlu
  obtain ⟨scu, ps, em, lr, st, rs⟩ := same
  obtain ⟨inUse, left, psKept, ended, kept, moved, stands, still, passed, ⟨ns, speaks⟩, result⟩ := delivered
  rw [alike.poseEnds, alike.posedCt, scu] at ended kept
  rw [alike.poseEnds, alike.ct, first.time] at result
  rw [alike.posePasses] at still passed
  rw [alike.poseActive, alike.poseChanges, alike.nextPhase, em, first.time] at moved
  rw [em] at stands
  have comes := travelComesNext_congr part.1 part.2 first.time lines
  refine ⟨psKept.trans ps, fun ch h => ?_, inUse, fun k => by rw [left.held, alike.zt], ?_, left.slot.trans slot, fun ends => ?_,
    fun ends => ?_, moved, stands, fun h => (still h).1.trans lr, fun h => ⟨u, alike, ⟨lr, st, rs⟩, comes, first, passed h⟩,
    ⟨ns, ?_, speaks.tipless⟩, speaks.advisedAfter (congrArg Em.lastAdvice em) first.time, fun ends r m => ?_,
    frame.pending.trans part.1, frame.powered.trans part.2⟩
  · cases ends : poseEnds p s with
    | true =>
      rw [(ended ends).1]
      exact Vector.getElem_set_ne (by decide) ch.isLt fun e => h (Fin.ext e.symm)
    | false => rw [(kept ends).1]
  · exact ⟨left.lines.inputs.trans lines.inputs, left.lines.authority.trans lines.authority,
      left.lines.nextReading.trans lines.nextReading⟩
  · obtain ⟨contexts, ct⟩ := ended ends
    refine ⟨?_, ct.trans (runEnded_congr _ scu alike.geometry)⟩
    rw [contexts]
    exact set_self s.scu 5 _
  · obtain ⟨contexts, ct⟩ := kept ends
    exact ⟨by rw [contexts], ct⟩
  · rw [← List.append_assoc]
    exact first.trans speaks.told
  · obtain ⟨us, ws, few, spoken⟩ := result ends r m
    refine ⟨overdigNotices p s.ps ++ tipNotices p s.ps ++ us, ws, ?_, ?_⟩
    · have grade := (List.countP_le_length (p := notAdvice)).trans (overdigNotices_length p s.ps)
      have tip := (List.countP_le_length (p := notAdvice)).trans (tipNotices_length p s.ps)
      rw [List.countP_append, List.countP_append]
      omega
    · rw [List.append_assoc]
      exact first.trans spoken.told

end Sys2Proof.Machine

/-! PROOFS. POSE_COMPLETION, settled (R40, R46 to R48, R50, R51, R53, R98 to R104, R107, R111, R115, R139 to R142). -/

namespace Sys2Proof.Machine

theorem exec_poseCompletion {c : Computation} {s : State} (powered : s.powered = true) (computing : s.ps.inFlight = some c) :
    exec .poseCompletion s = .next (startPending (deliverPose (assemblePose s.ps c s.lc.time) (posed (assemblePose s.ps c s.lc.time) s))) := by
  change execPoseCompletion s = _
  unfold execPoseCompletion
  rw [computing]
  exact whenDue_of_due powered

/-- The phase after a pose, by its tests as the statements say them (R98 to R100). -/
theorem nextPhase_eq (s : State) (p : Pose) {loaded swings : Prop} [Decidable loaded] [Decidable swings]
    (loads : loadTest s p = true ↔ loaded) (swinging' : swinging s p = true ↔ swings) :
    nextPhase s p = if p.quality = .invalid ∨ s.mlu.inputs.travel.level = true then .unknown
      else match s.ct.phase with
        | .unknown => .digging
        | .digging => if loaded then .loaded else .digging
        | .loaded => if p.curl ≤ s.ct.settings.curlOpen then .dumping else if swings then .swingLoaded else .loaded
        | .swingLoaded => if p.curl ≤ s.ct.settings.curlOpen then .dumping else .swingLoaded
        | .dumping => if p.height < s.ct.settings.digHeight then .digging else if swings then .returning else .dumping
        | .returning => if p.height < s.ct.settings.digHeight then .digging else .returning := by
  unfold nextPhase travelActive
  simp only []
  split
  · rfl
  · cases s.ct.phase with
    | unknown => rfl
    | digging => simp only [loads]
    | loaded => simp only [swinging']
    | swingLoaded => rfl
    | dumping => simp only [swinging']
    | returning => rfl

section
variable {p : Pose} {s v : State} (h : PoseHanded p s v)
include h

/-- The pending start, if any, of a completion (R40 to R42). -/
theorem PoseHanded.started : startPending v = if s.ps.pendingStart then
    { v with scu := fifosEmptied v.scu, ps := begun s.scu { posedPs p s.ps with pendingStart := false } } else v := by
  rw [startPending_eq, h.ps, begun_congr h.others]
  rfl

theorem PoseHanded.beside : ∃ scu ps, startPending v = { v with scu := scu, ps := ps } := by
  rw [h.started]
  split_ifs
  · exact ⟨_, _, rfl⟩
  · exact ⟨v.scu, v.ps, rfl⟩

theorem PoseHanded.solver : (startPending v).ps =
    if s.ps.pendingStart then begun s.scu { posedPs p s.ps with pendingStart := false }
    else { posedPs p s.ps with pendingStart := false } := by
  rw [h.started]
  split_ifs with pending
  · rfl
  · have off : (posedPs p s.ps).pendingStart = false := Bool.eq_false_iff.2 pending
    rw [h.ps, ← off]

theorem PoseHanded.contexts (ch : Fin 6) : (startPending v).scu[ch] =
    if ch ≠ 5 ∧ s.ps.pendingStart = true then emptied s.scu[ch] else v.scu[ch] := by
  rw [h.started]
  by_cases pending : s.ps.pendingStart = true
  · rw [if_pos pending]
    by_cases five : ch = 5
    · rw [if_neg (fun e => e.1 five)]
      exact (fifosEmptied_get v.scu ch).trans (if_pos five)
    · rw [if_pos ⟨five, pending⟩, ← h.others ch five]
      exact (fifosEmptied_get v.scu ch).trans (if_neg five)
  · rw [if_neg pending, if_neg fun e => pending e.2]

theorem PoseHanded.five : (startPending v).scu[(5 : Fin 6)] = v.scu[(5 : Fin 6)] :=
  (h.contexts 5).trans (if_neg fun e => e.1 rfl)

/-- No context changes its health or its settings. -/
theorem PoseHanded.healths (ch : Fin 6) : (startPending v).scu[ch].health = s.scu[ch].health ∧
    (startPending v).scu[ch].settings = s.scu[ch].settings := by
  rw [h.contexts]
  split_ifs with other
  · exact ⟨rfl, rfl⟩
  · by_cases five : ch = 5
    · subst five
      cases ends : poseEnds p s with
      | true => rw [(h.ended ends).1]; exact ⟨rfl, rfl⟩
      | false => rw [(h.kept ends).1]; exact ⟨rfl, rfl⟩
    · rw [h.others ch five]
      exact ⟨rfl, rfl⟩

/-- A pass is counted once, and none without a dump outside a run (R107, R125). -/
theorem PoseHanded.passTotal : v.lr.passTotal = s.lr.passTotal + if posePasses p s then 1 else 0 := by
  cases passes : posePasses p s with
  | false =>
    rw [h.still passes]
    simp
  | true =>
    obtain ⟨u, -, ⟨lr, -, -⟩, -, -, ⟨w, x, _, _, ⟨lr', -, -⟩, arrived, ⟨lr'', -, -⟩, -, -⟩⟩ := h.passed passes
    rw [lr'', arrived.passTotal, lr', lr]
    rfl

end

/-- The Cycle Tracker at the end of a run by an INVALID pose, by the record as the statements say it (R98, R111, R115, R117). -/
theorem runEnded_posed {p : Pose} {s : State} (invalid : p.quality = .invalid) :
    nextPhase s p = .unknown ∧ ∀ w : Option Window, w = none →
      runEnded s (posedCt p s) = runEnded s { s.ct with pose := some p, phase := nextPhase s p, window := w } := by
  have unknown : nextPhase s p = .unknown := if_pos (.inl invalid)
  refine ⟨unknown, fun w none' => ?_⟩
  have window : (posedCt p s).window = none := if_pos (.inl unknown)
  subst none'
  unfold runEnded endedRun
  rw [window]
  rfl

theorem runEnded_noWindow (s : State) {ct : Ct} (none' : ct.window = none) : (runEnded s ct).window = none ∧
    (runEnded s ct).run = none ∧ (runEnded s ct).step = none ∧ (runEnded s ct).waiting = [] ∧ (runEnded s ct).phase = ct.phase ∧
      (runEnded s ct).pose = ct.pose := by
  obtain ⟨force, taken⟩ := pressureTaken_noWindow s.ps.geometry (ct := endedRun ct) s.scu[(5 : Fin 6)].fifo (by
    unfold endedRun
    rw [none']
    rfl)
  have whole : runEnded s ct = { endedRun ct with force := force } := taken
  rw [whole]
  exact ⟨by unfold endedRun; rw [none']; rfl, rfl, rfl, rfl, rfl, rfl⟩

/-- The notices of a completion: the GRADE EVENT, the TIP REPORT and the result of a run ended (R51, R53, R115, R117). -/
theorem PoseHanded.noticed {p : Pose} {s v : State} (h : PoseHanded p s v) (stamp : p.stamp = s.lc.time) :
    (overdigging s.ps.grade p ≠ s.ps.overdig → s.lc.notices.length ≤ 31 →
      noticeHanded (.gradeEvent (if overdigging s.ps.grade p then none else some (overdigEnd s.ps.grade p)) p.reach p.height
        p.gradeError p.quality p.count p.stamp) v.lc) ∧
    (tipReportDue s.ps s.lc.time = true → s.lc.notices.length ≤ 30 →
      noticeHanded (.tipReport p.reach p.height p.slewAngle p.gradeError p.quality p.count) v.lc) ∧
    (poseEnds p s = true → s.lc.notices.length ≤ 11 → ∀ r ∈ s.ct.run,
      noticeHanded (.calibrationResult (RunKind.isGain r.kind) (.failed .hardPose) r.soft s.lc.time) v.lc) := by
  obtain ⟨ns, told, tipless⟩ := h.told
  refine ⟨fun moved room => ?_, fun due room => ?_, fun ends room r m => ?_⟩
  · rw [overdigNotices, if_neg moved] at told
    exact told.handed.first (List.mem_singleton_self _) (le_refl 1) rfl (by norm_num) room
  · rw [tipNotices, stamp, if_pos due] at told
    refine told.alone (fun m hm same => tipless m hm same.symm) (limit := 30) ?_ room
    have := overdigNotices_length p s.ps
    omega
  · obtain ⟨us, ws, few, spoken⟩ := h.result ends r m
    exact spoken.past rfl few (by norm_num) room

/-- The Cycle Tracker's phase, pose in use and window after a completion, whether a run ends or not (R98, R102, R103, R106). -/
theorem PoseHanded.tracker {p : Pose} {s v : State} (h : PoseHanded p s v) : v.ct.pose = some p ∧ v.ct.phase = nextPhase s p ∧
    v.ct.window = (posedCt p s).window := by
  cases ends : poseEnds p s with
  | false =>
    rw [(h.kept ends).2]
    exact ⟨rfl, rfl, rfl⟩
  | true =>
    have invalid : p.quality = .invalid := by
      unfold poseEnds at ends
      rw [Bool.and_eq_true, decide_eq_true_iff] at ends
      exact ends.1
    have none' : (posedCt p s).window = none := if_pos (.inl (if_pos (.inl invalid)))
    obtain ⟨window, -, -, -, phase, pose⟩ := runEnded_noWindow s none'
    rw [(h.ended ends).2, none']
    exact ⟨pose, phase, window⟩

/-- The Economy Manager after a completion (R139 to R144). -/
theorem PoseHanded.engine {p : Pose} {s v : State} (h : PoseHanded p s v) : EmMoved s.lc.time (poseActive s p)
    (movedMode (poseActive s p) (poseChanges p s) s.em.settings.ecoEnable (nextPhase s p) s.em.mode) s.em v.em := by
  have moved := poseMoved_moved s.lc.time (poseActive s p) (poseChanges p s) (nextPhase s p) s.em
  rw [← h.em] at moved
  exact ⟨moved.mode, moved.idle, moved.stays, moved.moves, moved.settings, moved.copy⟩

/-- Settles O31: the pose, the deliveries in their free order, and the start of a computation that pends. -/
theorem poseCompletionHandsPose : Obligations.PoseCompletionHandsPose := by
  intro c s powered computing pitch roll tilt tip clamped g target p overdigs ended tipDue set loaded swings phase active woken unloads
    mode idle
  have assembled : assemblePose s.ps c s.lc.time = p := by
    unfold assemblePose
    simp only [differs_or]
    rfl
  have off : g.on = false → p.gradeError = none := fun h => assembled ▸ assemblePose_gradeError s.ps c s.lc.time h
  have stamp : p.stamp = s.lc.time := rfl
  have step := exec_poseCompletion powered computing
  rw [assembled] at step
  have handed := deliverPose_handed p s
  generalize deliverPose p (posed p s) = v at handed step
  have digs : overdigging s.ps.grade p = overdigs := overdigging_eq off
  have tips : tipReportDue s.ps p.stamp = true ↔ tipDue := tipReportDue_iff s.ps s.lc.time
  have moves : nextPhase s p = phase := nextPhase_eq s p (loadTest_iff s p) decide_eq_true_iff
  have acts : poseActive s p = true ↔ active := by
    unfold poseActive swinging
    rw [Bool.or_eq_true, decide_eq_true_iff, decide_eq_true_iff]
  have dumps : isDump s p = true ↔ phase = .dumping ∧ s.ct.phase ≠ .dumping := moves ▸ isDump_iff s p
  have solver : (startPending v).ps = if s.ps.pendingStart then begun s.scu idle else idle := by
    have settled : { posedPs p s.ps with pendingStart := false } = idle := by
      unfold posedPs
      rw [digs]
      simp only [tips]
      rfl
    rw [handed.solver, settled]
  have ended' : (if overdigs then none else some (overdigEnd s.ps.grade p)) = ended := by
    unfold overdigEnd
    rw [apply_ite some, apply_ite some]
  have ends : poseEnds p s = true ↔ p.quality = .invalid ∧ s.ct.run.isSome := by
    unfold poseEnds
    rw [Bool.and_eq_true, decide_eq_true_iff]
  have passes : posePasses p s = true ↔ phase = .dumping ∧ s.ct.phase ≠ .dumping ∧ s.ct.run = none := by
    unfold posePasses
    rw [Bool.and_eq_true, dumps, Option.isNone_iff_eq_none, and_assoc]
  have window : (posedCt p s).window = if phase = .unknown ∨ (phase = .dumping ∧ s.ct.phase ≠ .dumping) then none
      else if phase = .swingLoaded ∧ s.ct.phase = .loaded then some (newWindow s p) else s.ct.window := by
    unfold posedCt
    simp only [moves, dumps]
  have mode' : movedMode (poseActive s p) (poseChanges p s) s.em.settings.ecoEnable (nextPhase s p) s.em.mode = mode := by
    have woken' : wokenMode (poseActive s p) s.em.mode = woken := by
      unfold wokenMode
      simp only [acts]
      rfl
    unfold movedMode poseChanges
    rw [woken', moves]
    by_cases same : phase = s.ct.phase
    · rw [if_pos (by simp [same])]
      exact (if_pos same).symm
    · rw [if_neg (by simp [same])]
      exact (if_neg same).symm
  have total := handed.passTotal
  have noticed := handed.noticed stamp
  obtain ⟨inUse, phased, windowed⟩ := handed.tracker
  have engine := handed.engine
  have five := handed.five
  have healths := handed.healths
  have contexts := handed.contexts
  obtain ⟨scu', ps', beside⟩ := handed.beside
  rw [digs, ended'] at noticed
  rw [mode'] at engine
  refine ⟨_, step, ?_⟩
  rw [beside] at solver five healths contexts ⊢
  refine ⟨solver, fun ch other => ?_, handed.pose, inUse, ?_, noticed.1, fun due => noticed.2.1 (tips.2 due), phased.trans moves,
    windowed.trans window, ?_, ?_⟩
  · rw [contexts ch]
    by_cases pending : s.ps.pendingStart = true
    · rw [if_pos ⟨other, pending⟩, if_pos pending]
    · rw [if_neg fun e => pending e.2, if_neg pending, handed.others ch other]
  · rw [← digs]
    exact handed.slot
  · refine ⟨fun h => ?_, fun h => ?_, fun h room => noticed.2.2 (ends.2 h) room⟩
    · obtain ⟨contexts5, ct⟩ := handed.ended (ends.2 h)
      obtain ⟨unknown, same⟩ := runEnded_posed (s := s) h.1
      have none' : v.ct.window = none := by
        rw [windowed]
        exact if_pos (.inl unknown)
      have ct' := ct.trans (same v.ct.window none')
      rw [moves] at ct'
      obtain ⟨-, run, step', waiting, -⟩ := runEnded_noWindow s
        (ct := { s.ct with pose := some p, phase := phase, window := v.ct.window }) none'
      rw [← ct'] at run step' waiting
      have drains := five.trans contexts5
      refine ⟨ct', run, step', waiting, drains.trans ?_, congrArg Channel.fifo drains⟩
      exact ((congrArg (fun scu : Vector Channel 6 => scu[(5 : Fin 6)]) (withPressureTaken_endedRun_scu _ s)).trans
        (set_self s.scu 5 _)).symm
    · obtain ⟨contexts5, ct⟩ := handed.kept (Bool.eq_false_iff.2 fun e => h (ends.1 e))
      refine ⟨?_, five.trans contexts5⟩
      have given : handedWindow (isDump s p) s.ct = s.ct.window.bind fun w =>
          if phase = .dumping ∧ s.ct.phase ≠ .dumping ∧ s.ct.run.isSome ∧ w.forRun = true ∧ w.result = none then
            some { w with result := some (weighedBy s.ct.fempty s.ct.gain w) }
          else none := by
        unfold handedWindow
        simp only [dumps, and_assoc]
      have whole : posedCt p s = { s.ct with
          pose := some p, phase := phase, window := v.ct.window
          step := s.ct.step.or (handedWindow (isDump s p) s.ct)
          waiting := if s.ct.step.isSome then s.ct.waiting ++ (handedWindow (isDump s p) s.ct).toList else s.ct.waiting } := by
        rw [windowed, ← moves]
        rfl
      rw [given] at whole
      exact ct.trans whole
  · refine ⟨?_, engine.mode, ?_, engine.stays, engine.moves, engine.settings, engine.copy, handed.stands, handed.advised,
      handed.lines.inputs, handed.lines.authority, healths, handed.held⟩
    · simp only [passes] at total
      exact total
    · have idle' := engine.idle
      simp only [acts] at idle'
      exact idle'

end Sys2Proof.Machine

/-! PROOFS. A dump outside a calibration run, settled (R104 to R107, R121 to R125, R129). -/

namespace Sys2Proof.Machine

/-! ## The pass (R103 to R107) -/

/-- The weighed result of a dump outside a run: that of the window, weighed now if it is still OPEN, or none (R103 to R106). -/
theorem dumpResult_eq {s : State} (p : Pose) (noRun : s.ct.run = none) : dumpResult (closeAtDump s) p = match s.ct.window with
    | none => { band := reachBand s.ps.geometry p.reach, count := 0, mean := none, spread := none, lifted := none, payload := none
                quality := .noWeight }
    | some w => match w.result with
      | some r => r
      | none => weighedBy s.ct.fempty s.ct.gain w := by
  unfold closeAtDump
  cases window : s.ct.window with
  | none =>
    unfold dumpResult
    rw [window]
    rfl
  | some w =>
    simp only []
    cases result : w.result with
    | some r =>
      rw [Option.isNone_some, if_neg Bool.false_ne_true]
      obtain ⟨band, length, steadiness, sum, count, least, most, forRun, _⟩ := w
      cases result
      unfold dumpResult
      rw [window]
    | none =>
      rw [Option.isNone_none, if_pos rfl]
      unfold dumpResult onCt Ct.complete
      simp only [noRun, Option.isSome_none, Bool.false_and, Bool.false_eq_true, if_false, weigh_eq]

/-- The bay of a dump, by the test the statements make of each entry (R106). -/
theorem bayOf_eq {zt : Zt} {p : Pose} {holds : Fin 16 → Bool} {valid : Prop} [Decidable valid] (slew : p.slewValid = true ↔ valid)
    (each : ∀ k : Fin 16, holds k = match zt.zones[k].held with
      | none => false
      | some z => decide (z.state = .armed ∧ z.record.kind = .truckBay ∧ z.record.inSector p.slewAngle = true ∧
          z.record.inReachBand p.reach = true)) :
    bayOf zt p = if valid then (List.finRange 16).find? holds else none := by
  unfold bayOf
  simp only [slew]
  congr 2
  funext k
  rw [each]
  cases zt.zones[k].held with
  | none => rfl
  | some z =>
    simp only []
    rw [Bool.eq_iff_iff]
    simp [and_assoc]

theorem PoseReadAlike.dumpPass {s u : State} (h : PoseReadAlike s u) (noRun : s.ct.run = none) (p : Pose) :
    dumpPass u p = Machine.dumpPass s p := by
  unfold Machine.dumpPass passOf
  rw [dumpResult_eq p noRun, dumpResult_eq p (h.ct ▸ noRun), h.ct, h.zt, h.geometry]

/-- The reading that waits next accepts TRAVEL, as the statements say it (R24, R27, assumption log 27). -/
theorem travelComesNext_iff {s : State} (powered : s.powered = true) (still : s.mlu.inputs.travel.level = false) :
    travelComesNext s = true ↔ ∃ x ∈ s.pending.head?, ∃ samples, x = Instr.inputLevelChange samples ∧ samples.travel = true ∧
      s.mlu.inputs.travel.last = some true ∧ (s.lc.time - s.mlu.nextReading).toNat < 2147483648 := by
  unfold travelComesNext
  split
  · next samples head =>
    have due : readingDue s = true ↔ (s.lc.time - s.mlu.nextReading).toNat < 2147483648 := by
      show (s.powered && decide _) = true ↔ _
      rw [powered, Bool.true_and, decide_eq_true_iff]
      rfl
    have accepts : Debouncer.accepts s.mlu.inputs.travel samples.travel = true ↔
        s.mlu.inputs.travel.last = some samples.travel ∧ samples.travel = true := by
      unfold Debouncer.accepts
      rw [still]
      simp
    rw [Bool.and_eq_true, Bool.and_eq_true, due, accepts]
    constructor
    · rintro ⟨⟨early, last, rises⟩, -⟩
      exact ⟨_, head, samples, rfl, rises, rises ▸ last, early⟩
    · rintro ⟨x, mx, other, rfl, rises, last, early⟩
      cases head.symm.trans mx
      exact ⟨⟨early, by rw [rises]; exact last, rises⟩, rises⟩
  · next other =>
    refine ⟨fun h => absurd h Bool.false_ne_true, ?_⟩
    rintro ⟨x, mx, samples, rfl, -⟩
    exact absurd mx (other samples)

/-! ## The dump -/

/-- A load event notice and a PASS RECORDED take the place of none, so those of a pass are in the part in order, given room. -/
theorem passEvents_handed {all events : List Notice} {s t : State} (told : Tells all s t) (some' : events.Sublist all)
    (plain : ∀ n ∈ events, n.replacesItsKind = false) : (∀ n ∈ events, handedWithRoom n t.lc) ∧
      (s.rs.restartPending = false → t.lc.notices.length ≤ 30 → events.Sublist (noticesIn t.lc)) :=
  ⟨fun n m => told.plainWithRoom (some'.subset m) (plain n m), fun running room => told.inOrder some' plain running room⟩

/-- What a completed pose that dumps outside a run leaves of the loads, the service items and the notices (R107, R121 to R125, R129). -/
structure DumpFiled (pass : Pass) (s t : State) : Prop where
  rs      : t.rs = Rs.mark s.rs
  entries : ∀ i : Fin 24, t.st.entries[i] = s.st.entries[i].map fun e => incremented (passAmount pass e.item.definition.basis) e
  filed   : ∃ lr before all, (lr = s.lr ∧ before = [] ∨ travelComesNext s = true ∧
      lr = { withLoadClosed .closedTravel s.lc.time s.lr with travelTaken := true } ∧ before = closedNotices .closedTravel s.lc.time s.lr) ∧
    t.lr = withPassFiled pass s.lc.time lr ∧ Tells all s t ∧ (before ++ passNotices pass s.lc.time lr).Sublist all

theorem PoseHanded.filed {p : Pose} {s v : State} (h : PoseHanded p s v) (passes : posePasses p s = true) (noRun : s.ct.run = none) :
    DumpFiled (dumpPass s p) s v := by
  obtain ⟨u, alike, ⟨lr, st, rs⟩, comes, first, ⟨x, w, us, ws, ⟨lr₁, st₁, rs₁, comes₁⟩, arrived, ⟨lr₂, st₂, rs₂⟩, before, after⟩⟩ :=
    h.passed passes
  obtain ⟨rs', entries, -, closed, events, ns, ms, order, filed, speaks⟩ := arrived
  have time : x.lc.time = s.lc.time := before.told.time.trans first.time
  rw [alike.dumpPass noRun p, time] at filed speaks
  rw [alike.dumpPass noRun p] at entries
  rw [lr₁.trans lr, comes₁.trans comes, time] at order
  refine ⟨by rw [rs₂, rs', rs₁, rs], fun i => ?_, closed, events, _, order, lr₂.trans filed,
    ((first.trans before.told).trans speaks.told).trans after.told, ?_⟩
  · rw [st₂, entries i, st₁, st]
  · have inner : (events ++ passNotices (Machine.dumpPass s p) s.lc.time closed).Sublist
        (events ++ (ns ++ passNotices (Machine.dumpPass s p) s.lc.time closed ++ ms)) :=
      (List.Sublist.refl events).append ((List.sublist_append_right ns _).trans (List.sublist_append_left _ ms))
    exact (inner.trans (List.sublist_append_right _ _)).trans (List.sublist_append_left _ ws)

/-- Settles O46: the pass arrives among the deliveries of the pose, before the TRAVEL event of the reading that waits or behind it. -/
theorem passFiledInLoad : Obligations.PassFiledInLoad := by
  intro c s powered computing live₀ live₁ live₂ still noRun phase opens tip holds weighed pass travelNext closed events eventsAfterTravel
  have step := exec_poseCompletion powered computing
  generalize assembled : assemblePose s.ps c s.lc.time = p at step
  have quality : p.quality ≠ .invalid := by
    rw [← assembled]
    show qualityOf c _ ≠ _
    unfold qualityOf
    rw [if_neg (by simp [live₀, live₁, live₂])]
    split_ifs <;> decide
  have curl : p.curl ≤ s.ct.settings.curlOpen := by
    rw [← assembled]
    exact opens
  have dumps : nextPhase s p = .dumping := by
    rw [nextPhase_eq s p Iff.rfl Iff.rfl, if_neg (by simp [quality, still])]
    rcases phase with e | e <;> rw [e] <;> exact if_pos curl
  have dump : isDump s p = true := (isDump_iff s p).2 ⟨dumps, by rcases phase with e | e <;> rw [e] <;> decide⟩
  have passes : posePasses p s = true := by rw [posePasses, dump, noRun]; rfl
  have handed := deliverPose_handed p s
  generalize deliverPose p (posed p s) = v at handed step
  have isPass : dumpPass s p = pass := by
    have bay : bayOf s.zt p = if c.health[3] = .live then (List.finRange 16).find? holds else none := by
      refine bayOf_eq (by rw [← assembled]; exact beq_iff_eq) fun k => ?_
      rw [← assembled]
      rfl
    unfold dumpPass passOf
    rw [dumpResult_eq p noRun, bay, ← assembled]
    rfl
  have filed := handed.filed passes noRun
  rw [isPass] at filed
  have comes := travelComesNext_iff powered still
  obtain ⟨scu', ps', beside⟩ := handed.beside
  have healths := handed.healths
  rw [beside] at healths step
  obtain ⟨rs, entries, lr, before, all, order, loads, told, some'⟩ := filed
  refine ⟨_, step, handed.tracker.2.1.trans dumps, rs, ⟨fun none' => ?_, fun next => ?_⟩, entries, fun ch => (healths ch).symm, handed.held,
    handed.lines.inputs, handed.part.1⟩
  · rcases order with ⟨rfl, rfl⟩ | ⟨next, -⟩
    · exact ⟨loads, passEvents_handed told some' (passNotices_plain _ _ _)⟩
    · exact absurd (comes.1 next) none'
  · rcases order with ⟨rfl, rfl⟩ | ⟨-, rfl, rfl⟩
    · exact .inl ⟨loads, passEvents_handed told some' (passNotices_plain _ _ _)⟩
    · exact .inr ⟨loads, passEvents_handed told some' (List.forall_mem_append.2 ⟨closedNotices_plain _ _ _, passNotices_plain _ _ _⟩)⟩

end Sys2Proof.Machine

/-! PROOFS. The events of a reading as a list of names, and what each does to the phase and the Economy Manager (R24 to R29, R139 to
R141). -/

namespace Sys2Proof.Machine

/-! ## The events of a reading -/

/-- The events of a reading that accepts a level change (R26 to R28). -/
inductive ReadingEvent
  | activity | seat | zones | phase | loads | ended | authority
  deriving DecidableEq

/-- The effect of an event. -/
def runEvent : ReadingEvent → State → State
  | .activity => takeActivity
  | .seat => takeSeatChange
  | .zones => travelZones
  | .phase => toUnknown
  | .loads => travelLoads
  | .ended => travelEndedAtCt
  | .authority => settleAuthority

/-- The event of an activity input. -/
def activityEvent (changed level : Bool) : List ReadingEvent := if changed && level then [.activity] else []

/-- The events of TRAVEL. -/
def travelEventNames (changed level : Bool) : List ReadingEvent :=
  if changed then if level then [.activity, .zones, .phase, .loads] else [.ended] else []

/-- The events of a reading, from the changes it accepts and the levels after it. -/
def readingEvents (changed : PerInput Bool) (inputs : PerInput Debouncer) : List ReadingEvent :=
  activityEvent changed.pilotEnable inputs.pilotEnable.level ++ (if changed.seat then [.seat] else []) ++
    activityEvent changed.joyLeft inputs.joyLeft.level ++ activityEvent changed.joyRight inputs.joyRight.level ++
    travelEventNames changed.travel inputs.travel.level ++
    if changed.supervisorKey || changed.servicePlug then [.authority] else []

theorem activityEvents_eq (changed level : Bool) :
    activityEvents changed level = ((activityEvent changed level).map fun e => [e]).map (List.map runEvent) := by
  unfold activityEvents activityEvent
  split_ifs <;> rfl

theorem travelEvents_eq (changed level : Bool) :
    travelEvents changed level = ((travelEventNames changed level).map fun e => [e]).map (List.map runEvent) := by
  unfold travelEvents travelEventNames
  split_ifs <;> rfl

theorem inputEvents_eq (changed : PerInput Bool) (inputs : PerInput Debouncer) :
    inputEvents changed inputs = ((readingEvents changed inputs).map fun e => [e]).map (List.map runEvent) := by
  unfold inputEvents readingEvents
  simp only [List.map_append, activityEvents_eq, travelEvents_eq]
  congr 2
  · congr 3
    split_ifs <;> rfl
  · split_ifs <;> rfl

/-- A reading takes its samples and then runs its events one after another, in some order (R24, assumption log 7). -/
theorem readInputs_runs (x : InputSamples) (s : State) :
    ∃ l : List ReadingEvent, l.Perm (readingEvents (changesAt s.mlu x) (PerInput.map₂ Debouncer.take s.mlu.inputs x)) ∧
      Runs (l.map runEvent) (takeReading x s) (readInputs x s) := by
  unfold readInputs
  simp only [inputEvents_eq]
  obtain ⟨l, perm, runs⟩ := interleave_keyed ((readingEvents (changesAt s.mlu x) (takeReading x s).mlu.inputs).map fun e => [e])
    runEvent (takeReading x s)
  rw [← List.flatMap_def, List.flatMap_singleton'] at perm
  exact ⟨l, perm, runs⟩

/-! ## Which events a reading has -/

/-- The input is accepted as ACTIVE (R24). -/
def Rises (d : Debouncer) (v : Bool) : Prop := v = true ∧ d.last = some true ∧ d.level = false

theorem rises_iff (d : Debouncer) (v : Bool) : (Debouncer.accepts d v && (Debouncer.take d v).level) = true ↔ Rises d v := by
  unfold Rises Debouncer.take Debouncer.accepts
  cases v <;> cases d.level <;> rcases d.last with _ | ⟨_ | _⟩ <;> simp

theorem accepts_iff (d : Debouncer) (v : Bool) : Debouncer.accepts d v = true ↔ d.last = some v ∧ v ≠ d.level := by
  simp [Debouncer.accepts]

theorem mem_activityEvent (changed level : Bool) (e : ReadingEvent) :
    e ∈ activityEvent changed level ↔ (changed && level) = true ∧ e = .activity := by
  unfold activityEvent
  split_ifs with h <;> simp [h]

theorem mem_travelEventNames (changed level : Bool) (e : ReadingEvent) : e ∈ travelEventNames changed level ↔
    (changed && level) = true ∧ (e = .activity ∨ e = .zones ∨ e = .phase ∨ e = .loads) ∨ (changed && !level) = true ∧ e = .ended := by
  unfold travelEventNames
  cases changed <;> cases level <;> simp

section
variable {x : InputSamples} {i : PerInput Debouncer} {l : List ReadingEvent}
  (perm : l.Perm (readingEvents (PerInput.map₂ Debouncer.accepts i x) (PerInput.map₂ Debouncer.take i x)))
include perm

theorem mem_reading (e : ReadingEvent) : e ∈ l ↔
    Rises i.pilotEnable x.pilotEnable ∧ e = .activity ∨ (Debouncer.accepts i.seat x.seat = true) ∧ e = .seat ∨
    Rises i.joyLeft x.joyLeft ∧ e = .activity ∨ Rises i.joyRight x.joyRight ∧ e = .activity ∨
    (Rises i.travel x.travel ∧ (e = .activity ∨ e = .zones ∨ e = .phase ∨ e = .loads) ∨
      (Debouncer.accepts i.travel x.travel && !(Debouncer.take i.travel x.travel).level) = true ∧ e = .ended) ∨
    (Debouncer.accepts i.supervisorKey x.supervisorKey || Debouncer.accepts i.servicePlug x.servicePlug) = true ∧ e = .authority := by
  have single (b : Bool) (a : ReadingEvent) : (e ∈ if b then [a] else []) ↔ b = true ∧ e = a := by cases b <;> simp
  rw [perm.mem_iff]
  simp only [readingEvents, List.mem_append, mem_activityEvent, mem_travelEventNames, single]
  simp only [PerInput.map₂, rises_iff, or_assoc]

theorem activity_mem : ReadingEvent.activity ∈ l ↔ Rises i.pilotEnable x.pilotEnable ∨ Rises i.joyLeft x.joyLeft ∨
    Rises i.joyRight x.joyRight ∨ Rises i.travel x.travel := by
  simp [mem_reading perm]

theorem seat_mem : ReadingEvent.seat ∈ l ↔ i.seat.last = some x.seat ∧ x.seat ≠ i.seat.level := by
  simp [mem_reading perm, accepts_iff]

theorem zones_mem : ReadingEvent.zones ∈ l ↔ Rises i.travel x.travel := by
  simp [mem_reading perm]

theorem phase_mem : ReadingEvent.phase ∈ l ↔ Rises i.travel x.travel := by
  simp [mem_reading perm]

theorem ended_not_mem (rises : Rises i.travel x.travel) : ReadingEvent.ended ∉ l := by
  have level := (rises_iff _ _).2 rises
  rw [Bool.and_eq_true] at level
  simp [mem_reading perm, level.2]

theorem authority_mem : ReadingEvent.authority ∈ l ↔
    (Debouncer.accepts i.supervisorKey x.supervisorKey || Debouncer.accepts i.servicePlug x.servicePlug) = true := by
  simp [mem_reading perm]

/-- Every event but an activity comes once at most. -/
theorem reading_count {e : ReadingEvent} (other : e ≠ .activity) : l.count e ≤ 1 := by
  have activities (b c : Bool) : (activityEvent b c).count e = 0 := by
    unfold activityEvent
    split_ifs <;> simp [Ne.symm other]
  rw [perm.count_eq]
  unfold readingEvents
  simp only [List.count_append, activities, Nat.zero_add, Nat.add_zero]
  generalize (PerInput.map₂ Debouncer.accepts i x).seat = seat
  generalize ((PerInput.map₂ Debouncer.accepts i x).supervisorKey || (PerInput.map₂ Debouncer.accepts i x).servicePlug) = keys
  unfold travelEventNames
  cases e <;> split_ifs <;> simp_all

end

/-! ## The phase and the Economy Manager -/

/-- The idle timer has run the delay of a level of SEAT, in a mode where it runs (R139). -/
abbrev IdleRunOut (seat : Bool) (now : Stamp) (em : Em) : Prop := (em.mode = .work ∨ em.mode = .eco) ∧
  ¬(seat = true ∧ em.settings.idleDelay = 0) ∧ ∃ start ∈ em.idleTimer,
    (if seat then em.settings.idleDelay else em.settings.seatDelay) * 1000 ≤ (now - start).toNat

/-- A change of SEAT on the record, before the advice is settled (R139). -/
def seatTaken (seat : Bool) (now : Stamp) (em : Em) : Em := if IdleRunOut seat now em then Em.setMode now .autoIdle em else em

theorem takeSeatChange_eq (s : State) :
    takeSeatChange s = settleAdvice (onEm (seatTaken s.mlu.inputs.seat.level s.lc.time) s) := by
  have expired : idleExpired s = true ↔ IdleRunOut s.mlu.inputs.seat.level s.lc.time s.em := idleExpired_iff s
  unfold takeSeatChange reworkIdle seatTaken expireIdle
  by_cases out : IdleRunOut s.mlu.inputs.seat.level s.lc.time s.em
  · rw [if_pos (expired.2 out)]
    exact congrArg (fun em => settleAdvice { s with em := em }) (if_pos out).symm
  · rw [if_neg (expired.not.2 out)]
    exact congrArg (fun em => settleAdvice { s with em := em }) (if_neg out).symm

theorem seatTaken_capApart (seat : Bool) (now : Stamp) : CapApart (seatTaken seat now) := by
  intro a em
  unfold seatTaken
  by_cases out : IdleRunOut seat now em
  · rw [if_pos out, if_pos (show IdleRunOut seat now (Em.capped a em) from out)]
    exact setMode_capApart now .autoIdle a em
  · rw [if_neg out, if_neg (show ¬IdleRunOut seat now (Em.capped a em) from out)]

/-- The phase and the Economy Manager at an event. -/
structure Working where
  phase : Phase
  em    : Em

/-- A change of phase, if it is one (R101). -/
def Working.turn (now : Stamp) (new : Phase) (w : Working) : Working :=
  if new = w.phase then w else ⟨new, phaseTaken now new w.em⟩

/-- What an event makes of the phase and the Economy Manager, the advice apart (R98, R139 to R141). -/
def Working.after (now : Stamp) (seat : Bool) (pose : Option Pose) : ReadingEvent → Working → Working
  | .activity, w => { w with em := activityTaken now w.em }
  | .seat, w => { w with em := seatTaken seat now w.em }
  | .phase, w => w.turn now .unknown
  | .ended, w => if w.phase = .unknown ∧ ∃ p ∈ pose, p.quality ≠ .invalid then w.turn now .digging else w
  | .zones, w | .loads, w | .authority, w => w

/-- The phase and the Economy Manager of a state, with the cap and the last advice of another record. -/
def workingOf (a : Em) (s : State) : Working := ⟨s.ct.phase, Em.capped a s.em⟩

/-- What an event hands over of advice: nothing when the last one stays. -/
def AdviceAlone (s t : State) (ns : List Notice) : Prop :=
  (∀ n ∈ ns, noticeKind n = 0x4A) ∧ (t.em.lastAdvice = s.em.lastAdvice → ns = [])

/-- An event of the Economy Manager, on its record and with its notice. -/
structure EmTaken (s t : State) : Prop where
  cap    : t.em.cap = s.em.cap
  stands : AdviceStands s.em s.em.lastAdvice → AdviceStands t.em t.em.lastAdvice
  speaks : ∃ ns, Speaks ns s t ∧ AdviceAlone s t ns

theorem settledOn_taken {f : Em → Em} (apart : CapApart f) {s u : State} (em : u.em = s.em) (lc : u.lc = s.lc) (rs : u.rs = s.rs) :
    EmTaken s (settleAdvice (onEm f u)) ∧ ∀ a, Em.capped a (settleAdvice (onEm f u)).em = f (Em.capped a s.em) := by
  obtain ⟨eq, stands, -⟩ := settledOn apart u
  have last : (settleAdvice (onEm f u)).em.lastAdvice = Em.advice (f u.em) := by rw [settleAdvice_eq]; rfl
  have speaks := (settleAdvice_speaks (onEm f u)).after (s := s) lc (rs ▸ .refl _) ((apart.lastAdvice u.em).trans (congrArg _ em))
  refine ⟨⟨?_, fun _ => stands, _, speaks, fun n m => ?_, fun same => ?_⟩, fun a => em ▸ eq a⟩
  · have own := apart u.em u.em
    rw [Em.capped_self] at own
    rw [settleAdvice_eq, ← em]
    show (f u.em).cap = _
    rw [← own]
    rfl
  · unfold adviceNotices at m
    split_ifs at m
    · cases m
    · rw [List.mem_singleton.1 m]
      rfl
  · rw [last, ← em] at same
    exact if_pos (same.trans (apart.lastAdvice u.em).symm)

theorem EmTaken.quiet {s t : State} (em : t.em = s.em) (speaks : ∃ ns, Speaks ns s t ∧ AdviceAlone s t ns) : EmTaken s t :=
  ⟨by rw [em], fun h => by rw [em]; exact h, speaks⟩

theorem AdviceAlone.none (s t : State) : AdviceAlone s t [] := ⟨fun _ m => absurd m List.not_mem_nil, fun _ => rfl⟩

theorem EmTaken.refl (s : State) : EmTaken s s := .quiet rfl ⟨[], .silent rfl (.refl _) rfl, .none s s⟩

theorem Em.capped_lift {f : Em → Em} {p : Phase} {s t : State} (phase : t.ct.phase = p)
    (em : ∀ a, Em.capped a t.em = f (Em.capped a s.em)) (a : Em) : workingOf a t = ⟨p, f (workingOf a s).em⟩ := by
  unfold workingOf
  rw [phase, em]

/-- A change of phase (R101), on a state with the record and the notices of another. -/
theorem setPhase_taken (new : Phase) {s u : State} (phase : u.ct.phase = s.ct.phase) (em : u.em = s.em) (lc : u.lc = s.lc) (rs : u.rs = s.rs) :
    EmTaken s (setPhase new u) ∧ ∀ a, workingOf a (setPhase new u) = (workingOf a s).turn s.lc.time new := by
  unfold setPhase Working.turn
  by_cases same : new = u.ct.phase
  · rw [if_pos same]
    refine ⟨.quiet em ⟨[], .silent lc (rs ▸ .refl _) (by rw [em]), .none s u⟩, fun a => ?_⟩
    rw [if_pos (show new = (workingOf a s).phase from same.trans phase)]
    unfold workingOf
    rw [phase, em]
  · rw [if_neg same, takePhaseChange_eq]
    obtain ⟨taken, eq⟩ := settledOn_taken (phaseTaken_capApart s.lc.time new) (s := s)
      (u := onCt (fun ct => { ct with phase := new }) u) em lc rs
    have time : (onCt (fun ct => { ct with phase := new }) u).lc.time = s.lc.time := congrArg Lc.time lc
    rw [time]
    refine ⟨taken, fun a => ?_⟩
    rw [if_neg (show ¬new = (workingOf a s).phase from fun e => same (e.trans phase.symm))]
    exact Em.capped_lift (by rw [settleAdvice_eq]; rfl) eq a

/-- What the events of the Economy Manager do (R98, R139 to R141, R145). -/
theorem runEvent_em {e : ReadingEvent} (m : e ∈ [ReadingEvent.activity, .seat, .phase, .ended]) (s : State) :
    EmTaken s (runEvent e s) ∧
      ∀ a, workingOf a (runEvent e s) = (workingOf a s).after s.lc.time s.mlu.inputs.seat.level s.ct.pose e := by
  simp only [List.mem_cons, List.not_mem_nil, or_false] at m
  rcases m with rfl | rfl | rfl | rfl
  · obtain ⟨taken, eq⟩ := settledOn_taken (activityTaken_capApart s.lc.time) (s := s) (u := s) rfl rfl rfl
    exact ⟨taken, Em.capped_lift ((takeActivity_frame s).ct rfl ▸ rfl) eq⟩
  · obtain ⟨taken, eq⟩ := settledOn_taken (seatTaken_capApart s.mlu.inputs.seat.level s.lc.time) (s := s) (u := s) rfl rfl rfl
    have run : runEvent .seat s = _ := takeSeatChange_eq s
    rw [run]
    exact ⟨taken, Em.capped_lift (by rw [settleAdvice_eq]; rfl) eq⟩
  · exact setPhase_taken .unknown rfl rfl rfl rfl
  · show EmTaken s (travelEndedAtCt s) ∧ ∀ a, workingOf a (travelEndedAtCt s) = if (workingOf a s).phase = .unknown ∧ _ then _ else _
    unfold travelEndedAtCt
    split
    · next p unknown pose =>
      split
      · next invalid =>
        refine ⟨.refl s, fun a => (if_neg ?_).symm⟩
        rintro ⟨-, q, mq, valid⟩
        cases pose.symm.trans mq
        exact valid invalid
      · next valid =>
        obtain ⟨taken, turned⟩ := setPhase_taken .digging (s := s) (u := s) rfl rfl rfl rfl
        exact ⟨taken, fun a => (turned a).trans (if_pos ⟨unknown, p, pose, valid⟩).symm⟩
    · next other =>
      refine ⟨.refl s, fun a => (if_neg ?_).symm⟩
      rintro ⟨unknown, p, pose, -⟩
      exact other p unknown pose

end Sys2Proof.Machine

/-! PROOFS. What every event of a reading keeps, and the Economy Manager through a run of them (R139 to R145). -/

namespace Sys2Proof.Machine

/-! ## What every event keeps -/

/-- What the events of a reading read and all of them keep. -/
structure EventKept (s t : State) : Prop where
  inputs      : t.mlu.inputs = s.mlu.inputs
  nextReading : t.mlu.nextReading = s.mlu.nextReading
  time        : t.lc.time = s.lc.time
  pose        : t.ct.pose = s.ct.pose
  run         : t.ct.run = s.ct.run

theorem EventKept.refl (s : State) : EventKept s s := ⟨rfl, rfl, rfl, rfl, rfl⟩

theorem EventKept.trans {s t u : State} (h : EventKept s t) (k : EventKept t u) : EventKept s u :=
  ⟨k.inputs.trans h.inputs, k.nextReading.trans h.nextReading, k.time.trans h.time, k.pose.trans h.pose, k.run.trans h.run⟩

theorem Frame.eventKept {b : Blocks} {s t : State} (h : Frame b s t) (mlu : b.mlu = false) (ct : b.ct = false) : EventKept s t := by
  refine ⟨?_, ?_, h.lc.time, ?_, ?_⟩
  · rw [h.mlu mlu]
  · rw [h.mlu mlu]
  · rw [h.ct ct]
  · rw [h.ct ct]

theorem evaluateSlew_kept (s : State) : EventKept s (evaluateSlew s) := by
  have frame := evaluateSlew_frame s
  obtain ⟨lines, -⟩ := evaluateSlew_lines s
  exact ⟨lines.inputs, lines.nextReading, frame.lc.time, by rw [frame.ct rfl], by rw [frame.ct rfl]⟩

theorem settleUnanchored_kept (s : State) : EventKept s (settleUnanchored s) := by
  have frame := settleUnanchored_frame s
  refine ⟨(settleUnanchored_fields s).2.1, ?_, frame.lc.time, by rw [frame.ct rfl], by rw [frame.ct rfl]⟩
  unfold settleUnanchored
  simp only []
  split
  · rfl
  · exact (redrive_fields _ _).2.2.2.2.2

/-- The state in which the entries are travelled, before their notices (R65). -/
def zonesTravelled (s : State) : State := { s with zt := { s.zt with zones := s.zt.zones.map ZoneEntry.travelled } }

/-- A TRAVEL event that unanchors some zone (R65, R68, R69). -/
theorem travelZones_eq {s : State} (some' : (s.zt.zones.toList.any fun e => (unanchors e).isSome) = true) :
    travelZones s = evaluateSlew (settleUnanchored
      (zoneNotices (fun k => (unanchors s.zt.zones[k]).map ZoneEvent.unanchored) (zonesTravelled s))) := if_pos some'

theorem travelZones_kept (s : State) : EventKept s (travelZones s) := by
  by_cases some' : (s.zt.zones.toList.any fun e => (unanchors e).isSome) = true
  · rw [travelZones_eq some']
    have notices := (zoneNotices_frame (fun k => (unanchors s.zt.zones[k]).map ZoneEvent.unanchored) (zonesTravelled s)).eventKept rfl rfl
    have travelled : EventKept s (zonesTravelled s) := ⟨rfl, rfl, rfl, rfl, rfl⟩
    exact ((travelled.trans notices).trans (settleUnanchored_kept _)).trans (evaluateSlew_kept _)
  · rw [show travelZones s = s from if_neg some']
    exact .refl s

theorem rearmZones_kept (a : Authority) (s : State) : EventKept s (rearmZones a s) := by
  unfold rearmZones
  simp only []
  generalize hv : ({ s with zt := _ } : State) = v
  have kept : EventKept s v := by
    rw [← hv]
    exact ⟨rfl, rfl, rfl, rfl, rfl⟩
  exact (kept.trans ((zoneNotices_frame _ v).eventKept rfl rfl)).trans (evaluateSlew_kept _)

/-- The authority changed, with its notice, before the zones follow (R28, R29). -/
def authorityTaken (s : State) : State :=
  queueNotice (.authority s.mlu.authority (authorityOf s.mlu.inputs) s.lc.time)
    (onMlu (fun m => { m with authority := authorityOf s.mlu.inputs }) s)

theorem settleAuthority_same {s : State} (same : authorityOf s.mlu.inputs = s.mlu.authority) : settleAuthority s = s := if_pos same

theorem settleAuthority_moved {s : State} (moved : authorityOf s.mlu.inputs ≠ s.mlu.authority) :
    settleAuthority s = rearmZones (authorityOf s.mlu.inputs) (authorityTaken s) := if_neg moved

theorem settleAuthority_kept (s : State) : EventKept s (settleAuthority s) := by
  by_cases same : authorityOf s.mlu.inputs = s.mlu.authority
  · rw [settleAuthority_same same]
    exact .refl s
  · rw [settleAuthority_moved same]
    refine .trans (t := authorityTaken s) ?_ (rearmZones_kept _ _)
    have frame := (queueNotice_frame (.authority s.mlu.authority (authorityOf s.mlu.inputs) s.lc.time)
      (onMlu (fun m => { m with authority := authorityOf s.mlu.inputs }) s)).eventKept rfl rfl
    exact ⟨frame.inputs, frame.nextReading, frame.time, frame.pose, frame.run⟩

theorem setPhase_kept (new : Phase) (s : State) : EventKept s (setPhase new s) := by
  unfold setPhase
  split
  · exact .refl s
  · have frame := (takePhaseChange_frame new (onCt (fun ct => { ct with phase := new }) s)).eventKept rfl rfl
    exact ⟨frame.inputs, frame.nextReading, frame.time, frame.pose, frame.run⟩

theorem runEvent_kept (e : ReadingEvent) (s : State) : EventKept s (runEvent e s) := by
  cases e with
  | activity => exact (takeActivity_frame s).eventKept rfl rfl
  | seat => exact (takeSeatChange_frame s).eventKept rfl rfl
  | zones => exact travelZones_kept s
  | loads => exact (travelLoads_frame s).eventKept rfl rfl
  | authority => exact settleAuthority_kept s
  | phase =>
    have kept := setPhase_kept .unknown (onCt (fun ct => { ct with window := none }) s)
    exact ⟨kept.inputs, kept.nextReading, kept.time, kept.pose, kept.run⟩
  | ended =>
    show EventKept s (travelEndedAtCt s)
    unfold travelEndedAtCt
    split
    · split
      · exact .refl s
      · exact setPhase_kept .digging s
    · exact .refl s

theorem eventRuns_kept {l : List ReadingEvent} {s t : State} (runs : Runs (l.map runEvent) s t) : EventKept s t := by
  refine Runs.keeps (P := EventKept s) (fun u n h => ⟨h.inputs, h.nextReading, h.time, h.pose, h.run⟩) runs (fun g m u h => ?_) (.refl s)
  obtain ⟨e, -, rfl⟩ := List.mem_map.1 m
  exact h.trans (runEvent_kept e u)

/-! ## The Economy Manager at each event -/

/-- The events of the zones, the loads and the authority leave the phase and the Economy Manager. -/
theorem runEvent_em_other {e : ReadingEvent} (m : e ∈ [ReadingEvent.zones, .loads, .authority]) (s : State) :
    (runEvent e s).em = s.em ∧ (runEvent e s).ct = s.ct := by
  simp only [List.mem_cons, List.not_mem_nil, or_false] at m
  rcases m with rfl | rfl | rfl
  · exact ⟨(travelZones_frame s).em rfl, (travelZones_frame s).ct rfl⟩
  · exact ⟨(travelLoads_frame s).em rfl, (travelLoads_frame s).ct rfl⟩
  · exact ⟨(settleAuthority_frame s).em rfl, (settleAuthority_frame s).ct rfl⟩

/-- Each event on the phase and the Economy Manager. -/
theorem runEvent_working (a : Em) (e : ReadingEvent) (s : State) :
    workingOf a (runEvent e s) = (workingOf a s).after s.lc.time s.mlu.inputs.seat.level s.ct.pose e := by
  have other (m : e ∈ [ReadingEvent.zones, .loads, .authority]) : workingOf a (runEvent e s) = workingOf a s := by
    obtain ⟨em, ct⟩ := runEvent_em_other m s
    unfold workingOf
    rw [em, ct]
  cases e with
  | activity => exact (runEvent_em (by simp) s).2 a
  | seat => exact (runEvent_em (by simp) s).2 a
  | phase => exact (runEvent_em (by simp) s).2 a
  | ended => exact (runEvent_em (by simp) s).2 a
  | zones => exact other (by simp)
  | loads => exact other (by simp)
  | authority => exact other (by simp)

section
variable {a : Em} {l : List ReadingEvent} {s t : State} (runs : Runs (l.map runEvent) s t)
include runs

/-- What every event keeps of the phase and the Economy Manager, and one establishes. -/
theorem eventRuns_establish {P Q : Working → Prop} (start : P (workingOf a s))
    (keepsP : ∀ e ∈ l, ∀ w, P w → P (w.after s.lc.time s.mlu.inputs.seat.level s.ct.pose e))
    (keepsQ : ∀ e ∈ l, ∀ w, P w → Q w → Q (w.after s.lc.time s.mlu.inputs.seat.level s.ct.pose e))
    (est : Q (workingOf a s) ∨ ∃ e ∈ l, ∀ w, P w → Q (w.after s.lc.time s.mlu.inputs.seat.level s.ct.pose e)) :
    P (workingOf a t) ∧ Q (workingOf a t) := by
  have step (e : ReadingEvent) {u : State} (k : EventKept s u) : workingOf a (runEvent e u) =
      (workingOf a u).after s.lc.time s.mlu.inputs.seat.level s.ct.pose e := by
    rw [runEvent_working, k.time, k.inputs, k.pose]
  obtain ⟨⟨-, p⟩, q⟩ := Runs.establishes (P := fun u => EventKept s u ∧ P (workingOf a u)) (Q := fun u => Q (workingOf a u))
    (fun u n h => ⟨⟨h.1.inputs, h.1.nextReading, h.1.time, h.1.pose, h.1.run⟩, h.2⟩) (fun u n h => h) runs (fun g m u h => by
      obtain ⟨e, me, rfl⟩ := List.mem_map.1 m
      exact ⟨h.1.trans (runEvent_kept e u), step e h.1 ▸ keepsP e me _ h.2⟩) (fun g m u h q => by
      obtain ⟨e, me, rfl⟩ := List.mem_map.1 m
      exact step e h.1 ▸ keepsQ e me _ h.2 q) (est.imp_right fun ⟨e, me, h⟩ =>
      ⟨_, List.mem_map_of_mem me, fun u k => step e k.1 ▸ h _ k.2⟩) ⟨.refl s, start⟩
  exact ⟨p, q⟩

theorem eventRuns_keep {P : Working → Prop} (start : P (workingOf a s))
    (keeps : ∀ e ∈ l, ∀ w, P w → P (w.after s.lc.time s.mlu.inputs.seat.level s.ct.pose e)) : P (workingOf a t) :=
  (eventRuns_establish (Q := fun _ => True) runs start keeps (fun _ _ _ _ _ => trivial) (.inl trivial)).1

end

end Sys2Proof.Machine

/-! PROOFS. The Economy Manager through a reading, mode by mode (R139 to R142, R144). -/

namespace Sys2Proof.Machine

/-! ## One event on the record -/

/-- A change of phase to UNKNOWN or DIGGING takes ECO to WORK, and leaves every other mode (R141). -/
theorem phaseTaken_loaded {now : Stamp} {new : Phase} (loaded : Phase.isUnloaded new = false) (em : Em) :
    phaseTaken now new em = if em.mode = .eco then Em.setMode now .work em else em := by
  unfold phaseTaken
  rw [loaded]
  cases mode : em.mode <;> simp

/-- A mode that runs the idle timer (R139). -/
def Em.works (em : Em) : Prop := em.mode = .work ∨ em.mode = .eco

/-- A mode from which an activity makes WORK (R140). -/
def Em.sleeps (em : Em) : Prop := em.mode = .autoIdle ∨ em.mode = .shutdownPending ∨ em.mode = .shutdownAdvised

theorem Em.modes (em : Em) : em.mode = .stopped ∨ Em.sleeps em ∨ Em.works em := by
  unfold Em.sleeps Em.works
  cases em.mode <;> simp

theorem Em.sleeps.not_works {em : Em} (h : Em.sleeps em) : ¬Em.works em := by
  unfold Em.works
  rcases h with e | e | e <;> simp [e]

/-- The record that an activity wakes (R139, R140, R142, R144). -/
def Em.woken (now : Stamp) (em : Em) : Em := { em with
  mode := .work, idleTimer := some now, shutdownTimer := .stopped, deferred := false, wait := .none
  cancel := decide (em.mode = .shutdownAdvised), failed := decide (em.mode ≠ .shutdownAdvised) && em.failed }

/-- The record taken from ECO to WORK (R141). -/
def Em.carriedOn (em : Em) : Em := { em with
  mode := .work, shutdownTimer := .stopped, deferred := false, wait := .none, cancel := false }

/-- The record whose idle timer has run out (R139, R142). -/
def Em.idled (now : Stamp) (em : Em) : Em := { em with
  mode := .autoIdle, idleTimer := none, shutdownTimer := .running now, deferred := false, cancel := false, wait := .none }

theorem activityTaken_stopped {now : Stamp} {em : Em} (h : em.mode = .stopped) : activityTaken now em = em := by
  unfold activityTaken
  rw [h]

theorem activityTaken_sleeps {now : Stamp} {em : Em} (h : Em.sleeps em) : activityTaken now em = Em.woken now em := by
  unfold activityTaken Em.setMode Em.woken
  rcases h with e | e | e <;> simp [e, EngineMode.isWorking]

theorem activityTaken_works {now : Stamp} {em : Em} (h : Em.works em) : activityTaken now em = { em with idleTimer := some now } := by
  unfold activityTaken
  rcases h with e | e <;> simp [e]

theorem seatTaken_stays {seat : Bool} {now : Stamp} {em : Em} (h : ¬IdleRunOut seat now em) : seatTaken seat now em = em := if_neg h

theorem seatTaken_idles {seat : Bool} {now : Stamp} {em : Em} (h : IdleRunOut seat now em) : seatTaken seat now em = Em.idled now em :=
  (if_pos h).trans (setMode_autoIdle h.1)

theorem phaseTaken_eco {now : Stamp} {new : Phase} (loaded : Phase.isUnloaded new = false) {em : Em} (h : em.mode = .eco) :
    phaseTaken now new em = Em.carriedOn em := by
  rw [phaseTaken_loaded loaded, if_pos h]
  unfold Em.setMode Em.carriedOn
  simp [h, EngineMode.isWorking]

theorem phaseTaken_stays {now : Stamp} {new : Phase} (loaded : Phase.isUnloaded new = false) {em : Em} (h : em.mode ≠ .eco) :
    phaseTaken now new em = em := by
  rw [phaseTaken_loaded loaded, if_neg h]

/-- The phase that an event of a reading may make. -/
def ReadingEvent.target : ReadingEvent → Option Phase
  | .phase => some .unknown
  | .ended => some .digging
  | _ => none

theorem ReadingEvent.target_eq {e : ReadingEvent} {new : Phase} (h : e.target = some new) :
    e = .phase ∧ new = .unknown ∨ e = .ended ∧ new = .digging := by
  cases e <;> cases h
  · exact .inl ⟨rfl, rfl⟩
  · exact .inr ⟨rfl, rfl⟩

theorem ReadingEvent.target_loaded {e : ReadingEvent} {new : Phase} (h : e.target = some new) : Phase.isUnloaded new = false := by
  cases e <;> cases h <;> rfl

/-- What an event does to the phase and the Economy Manager: an activity, a change of SEAT, a change of phase, or nothing. -/
theorem after_cases (now : Stamp) (seat : Bool) (pose : Option Pose) (e : ReadingEvent) (w : Working) :
    (e = .activity ∧ w.after now seat pose e = { w with em := activityTaken now w.em }) ∨
    (e = .seat ∧ w.after now seat pose e = { w with em := seatTaken seat now w.em }) ∨
    (∃ new, e.target = some new ∧ new ≠ w.phase ∧ w.after now seat pose e = ⟨new, phaseTaken now new w.em⟩) ∨
    w.after now seat pose e = w := by
  have turn (new : Phase) (is : e.target = some new) (eq : w.after now seat pose e = w.turn now new) :
      (∃ new, e.target = some new ∧ new ≠ w.phase ∧ w.after now seat pose e = ⟨new, phaseTaken now new w.em⟩) ∨ w.after now seat pose e = w := by
    by_cases same : new = w.phase
    · exact .inr (eq.trans (if_pos same))
    · exact .inl ⟨new, is, same, eq.trans (if_neg same)⟩
  cases e with
  | activity => exact .inl ⟨rfl, rfl⟩
  | seat => exact .inr (.inl ⟨rfl, rfl⟩)
  | phase => exact .inr (.inr (turn .unknown rfl rfl))
  | ended =>
    by_cases digs : w.phase = .unknown ∧ ∃ p ∈ pose, p.quality ≠ .invalid
    · exact .inr (.inr (turn .digging rfl (if_pos digs)))
    · exact .inr (.inr (.inr (if_neg digs)))
  | zones => exact .inr (.inr (.inr rfl))
  | loads => exact .inr (.inr (.inr rfl))
  | authority => exact .inr (.inr (.inr rfl))

/-- An idle timer that starts now has not run out, given a seat-empty delay (R137, R139). -/
theorem not_idleRunOut_now {seat : Bool} {now : Stamp} {em : Em} (timer : em.idleTimer = some now) (delay : em.settings.seatDelay ≠ 0) :
    ¬IdleRunOut seat now em := by
  rintro ⟨-, other, start, at', ran⟩
  rw [timer] at at'
  cases at'
  rw [BitVec.sub_self] at ran
  cases seat
  · simp only [Bool.false_eq_true, if_false] at ran
    exact delay (by simpa using ran)
  · simp only [if_true] at ran
    exact other ⟨rfl, by simpa using ran⟩

/-- Whether the idle timer has run out is a matter of the timer and the settings, in WORK and ECO. -/
theorem IdleRunOut.congr {seat : Bool} {now : Stamp} {a b : Em} (h : IdleRunOut seat now b) (works : Em.works a)
    (timer : b.idleTimer = a.idleTimer) (settings : b.settings = a.settings) : IdleRunOut seat now a := by
  obtain ⟨-, other, ran⟩ := h
  rw [timer, settings] at ran
  rw [settings] at other
  exact ⟨works, other, ran⟩

/-- No event moves a record just woken (R139 to R141). -/
theorem after_woken {now : Stamp} {em : Em} (delay : em.settings.seatDelay ≠ 0) (seat : Bool) (pose : Option Pose) (e : ReadingEvent)
    {w : Working} (same : w.em = Em.woken now em) : (w.after now seat pose e).em = Em.woken now em := by
  have mode : (Em.woken now em).mode = .work := rfl
  rcases after_cases now seat pose e w with ⟨rfl, eq⟩ | ⟨rfl, eq⟩ | ⟨new, is, -, eq⟩ | eq <;> rw [eq]
  · rw [same]
    exact activityTaken_works (.inl mode)
  · rw [same]
    exact seatTaken_stays (not_idleRunOut_now rfl delay)
  · rw [same]
    exact phaseTaken_stays (ReadingEvent.target_loaded is) (by rw [mode]; decide)
  · exact same

/-- An activity alone moves a record that is asleep (R139 to R141). -/
theorem after_sleeping {now : Stamp} {em : Em} (sleeps : Em.sleeps em) (seat : Bool) (pose : Option Pose) (e : ReadingEvent)
    {w : Working} (same : w.em = em) : (w.after now seat pose e).em = if e = .activity then Em.woken now em else em := by
  rcases after_cases now seat pose e w with ⟨rfl, eq⟩ | ⟨rfl, eq⟩ | ⟨new, is, -, eq⟩ | eq
  · rw [eq, if_pos rfl, same]
    exact activityTaken_sleeps sleeps
  · rw [eq, if_neg (by decide), same]
    exact seatTaken_stays fun out => sleeps.not_works out.1
  · rw [eq, if_neg (by rintro rfl; cases is), same]
    exact phaseTaken_stays (ReadingEvent.target_loaded is) fun eco => sleeps.not_works (.inr eco)
  · by_cases active : e = .activity
    · subst active
      rw [if_pos rfl]
      show activityTaken now w.em = _
      rw [same]
      exact activityTaken_sleeps sleeps
    · rw [eq, if_neg active, same]

/-- No event moves a record that is STOPPED (R138 to R141). -/
theorem after_stopped {now : Stamp} {em : Em} (stopped : em.mode = .stopped) (seat : Bool) (pose : Option Pose) (e : ReadingEvent)
    {w : Working} (same : w.em = em) : (w.after now seat pose e).em = em := by
  rcases after_cases now seat pose e w with ⟨rfl, eq⟩ | ⟨rfl, eq⟩ | ⟨new, is, -, eq⟩ | eq <;> rw [eq]
  · rw [same]
    exact activityTaken_stopped stopped
  · rw [same]
    refine seatTaken_stays fun out => ?_
    rcases out.1 with e | e <;> rw [stopped] at e <;> cases e
  · rw [same]
    exact phaseTaken_stays (ReadingEvent.target_loaded is) (by rw [stopped]; decide)
  · exact same

theorem after_settings (now : Stamp) (seat : Bool) (pose : Option Pose) (e : ReadingEvent) (w : Working) :
    (w.after now seat pose e).em.settings = w.em.settings := by
  rcases after_cases now seat pose e w with ⟨rfl, eq⟩ | ⟨rfl, eq⟩ | ⟨new, is, -, eq⟩ | eq <;> rw [eq]
  · rcases Em.modes w.em with h | h | h
    · rw [activityTaken_stopped h]
    · rw [activityTaken_sleeps h]
      rfl
    · rw [activityTaken_works h]
  · by_cases out : IdleRunOut seat now w.em
    · rw [seatTaken_idles out]
      rfl
    · rw [seatTaken_stays out]
  · exact (phaseTaken_rest now new w.em).2.1

/-- A change of phase in a reading leaves WORK, and makes WORK of ECO, with the idle timer kept (R141). -/
theorem phaseTaken_works {now : Stamp} {new : Phase} (loaded : Phase.isUnloaded new = false) {em : Em} (works : Em.works em) :
    (phaseTaken now new em).mode = .work ∧ (phaseTaken now new em).idleTimer = em.idleTimer := by
  rcases works with work | eco
  · rw [phaseTaken_stays loaded (by rw [work]; decide)]
    exact ⟨work, rfl⟩
  · rw [phaseTaken_eco loaded eco]
    exact ⟨rfl, rfl⟩

/-! ## The record through a run of events -/

section
variable {a : Em} {l : List ReadingEvent} {s t : State} (runs : Runs (l.map runEvent) s t)
include runs

theorem eventRuns_stopped (stopped : s.em.mode = .stopped) : Em.capped a t.em = Em.capped a s.em :=
  eventRuns_keep (P := fun w => w.em = Em.capped a s.em) runs rfl fun e _ _ same =>
    after_stopped (em := Em.capped a s.em) stopped _ _ e same

/-- Without an activity a record that is asleep stays so (R140). -/
theorem eventRuns_sleep (sleeps : Em.sleeps s.em) (quiet : .activity ∉ l) : Em.capped a t.em = Em.capped a s.em :=
  eventRuns_keep (P := fun w => w.em = Em.capped a s.em) runs rfl fun e m _ same =>
    (after_sleeping (em := Em.capped a s.em) sleeps _ _ e same).trans (if_neg (by rintro rfl; exact quiet m))

/-- An activity wakes the record, and no event moves it on (R139, R140). -/
theorem eventRuns_wake (active : .activity ∈ l) (sleeps : Em.sleeps s.em) (delay : s.em.settings.seatDelay ≠ 0) :
    Em.capped a t.em = Em.woken s.lc.time (Em.capped a s.em) := by
  refine (eventRuns_establish (a := a) (P := fun w => w.em = Em.capped a s.em ∨ w.em = Em.woken s.lc.time (Em.capped a s.em))
    (Q := fun w => w.em = Em.woken s.lc.time (Em.capped a s.em)) runs (.inl rfl) (fun e _ w same => ?_)
    (fun e _ w _ same => after_woken (em := Em.capped a s.em) delay _ _ e same) (.inr ⟨_, active, fun w same => ?_⟩)).2
  · rcases same with same | same
    · rw [after_sleeping (em := Em.capped a s.em) sleeps _ _ e same]
      split
      · exact .inr rfl
      · exact .inl rfl
    · exact .inr (after_woken (em := Em.capped a s.em) delay _ _ e same)
  · rcases same with same | same
    · exact (after_sleeping (em := Em.capped a s.em) sleeps _ _ .activity same).trans (if_pos rfl)
    · exact after_woken (em := Em.capped a s.em) delay _ _ _ same

theorem eventRuns_settings : t.em.settings = s.em.settings :=
  eventRuns_keep (a := t.em) (P := fun w => w.em.settings = s.em.settings) runs rfl fun e _ w same =>
    (after_settings _ _ _ e w).trans same

/-- With no idle timer that runs out the mode stays, but for a change of phase; and without an activity so does the timer (R139 to
R141). -/
theorem eventRuns_carry (works : Em.works s.em) (runs' : .seat ∈ l → ¬IdleRunOut s.mlu.inputs.seat.level s.lc.time s.em)
    (delay : .activity ∈ l → s.em.settings.seatDelay ≠ 0) (one : .phase ∈ l → .ended ∉ l) :
    t.em.mode = (if t.ct.phase = s.ct.phase then s.em.mode else .work) ∧ (.activity ∉ l → t.em.idleTimer = s.em.idleTimer) := by
  have kept := eventRuns_keep (a := t.em) (P := fun w => Em.works w.em ∧ w.em.settings = s.em.settings ∧
    (w.em.idleTimer = s.em.idleTimer ∨ .activity ∈ l ∧ w.em.idleTimer = some s.lc.time) ∧
    (w.phase = s.ct.phase ∧ w.em.mode = s.em.mode ∨
      w.phase ≠ s.ct.phase ∧ w.em.mode = .work ∧ ∃ e ∈ l, ReadingEvent.target e = some w.phase)) runs
    ⟨works, rfl, .inl rfl, .inl ⟨rfl, rfl⟩⟩ fun e m w ⟨working, settings, timer, phase⟩ => by
      have settings' := (after_settings s.lc.time s.mlu.inputs.seat.level s.ct.pose e w).trans settings
      rcases after_cases s.lc.time s.mlu.inputs.seat.level s.ct.pose e w with ⟨rfl, eq⟩ | ⟨rfl, eq⟩ | ⟨new, is, moved, eq⟩ | eq
      · rw [eq, activityTaken_works working] at settings' ⊢
        exact ⟨working, settings', .inr ⟨m, rfl⟩, phase⟩
      · have stays : ¬IdleRunOut s.mlu.inputs.seat.level s.lc.time w.em := fun out => by
          rcases timer with timer | ⟨active, timer⟩
          · exact runs' m (out.congr works timer settings)
          · exact not_idleRunOut_now timer (settings ▸ delay active) out
        rw [eq, seatTaken_stays stays]
        exact ⟨working, settings, timer, phase⟩
      · obtain ⟨mode, timer'⟩ := phaseTaken_works (now := s.lc.time) (ReadingEvent.target_loaded is) working
        rw [eq] at settings' ⊢
        refine ⟨.inl mode, settings', by rwa [timer'], .inr ⟨fun back => ?_, mode, e, m, is⟩⟩
        rcases phase with ⟨same, -⟩ | ⟨-, -, e', m', is'⟩
        · exact moved (back.trans same.symm)
        · rcases ReadingEvent.target_eq is with ⟨rfl, this⟩ | ⟨rfl, this⟩ <;>
            rcases ReadingEvent.target_eq is' with ⟨rfl, that⟩ | ⟨rfl, that⟩
          · exact moved (this.trans that.symm)
          · exact one m m'
          · exact one m' m
          · exact moved (this.trans that.symm)
      · rw [eq]
        exact ⟨working, settings, timer, phase⟩
  obtain ⟨-, -, timer, phase⟩ := kept
  refine ⟨?_, fun quiet => timer.resolve_right fun h => quiet h.1⟩
  rcases phase with ⟨same, mode⟩ | ⟨moved, mode, -⟩
  · exact mode.trans (if_pos same).symm
  · exact mode.trans (if_neg moved).symm

/-- An activity leaves WORK or ECO with the idle timer started now, and never ECO where the mode was WORK (R139, R140). -/
theorem eventRuns_refresh (active : .activity ∈ l) (works : Em.works s.em) (delay : s.em.settings.seatDelay ≠ 0) :
    t.em.idleTimer = some s.lc.time ∧ Em.works t.em ∧ (s.em.mode = .work → t.em.mode = .work) := by
  have kept := eventRuns_establish (a := t.em) (P := fun w => w.em.mode ≠ .stopped ∧ w.em.settings = s.em.settings ∧
      (s.em.mode = .work → w.em.mode ≠ .eco)) (Q := fun w => Em.works w.em ∧ w.em.idleTimer = some s.lc.time) runs
    ⟨by rcases works with h | h <;> exact h ▸ (by decide), rfl, fun work => work ▸ (by decide)⟩
    (fun e _ w ⟨going, settings, eco⟩ => ?_) (fun e _ w ⟨_, settings, _⟩ ⟨working, timer⟩ => ?_) (.inr ⟨_, active, fun w ⟨going, _, _⟩ => ?_⟩)
  · obtain ⟨⟨-, -, eco⟩, working, timer⟩ := kept
    exact ⟨timer, working, fun work => working.resolve_right (eco work)⟩
  · have settings' := (after_settings s.lc.time s.mlu.inputs.seat.level s.ct.pose e w).trans settings
    rcases after_cases s.lc.time s.mlu.inputs.seat.level s.ct.pose e w with ⟨rfl, eq⟩ | ⟨rfl, eq⟩ | ⟨new, is, -, eq⟩ | eq
    · rw [eq] at settings' ⊢
      rcases Em.modes w.em with h | h | h
      · exact absurd h going
      · rw [activityTaken_sleeps h] at settings' ⊢
        exact ⟨by show EngineMode.work ≠ _; decide, settings', fun _ => by show EngineMode.work ≠ _; decide⟩
      · rw [activityTaken_works h] at settings' ⊢
        exact ⟨going, settings', eco⟩
    · rw [eq] at settings' ⊢
      by_cases out : IdleRunOut s.mlu.inputs.seat.level s.lc.time w.em
      · rw [seatTaken_idles out] at settings' ⊢
        exact ⟨by show EngineMode.autoIdle ≠ _; decide, settings', fun _ => by show EngineMode.autoIdle ≠ _; decide⟩
      · rw [seatTaken_stays out]
        exact ⟨going, settings, eco⟩
    · rw [eq] at settings' ⊢
      have mode : (phaseTaken s.lc.time new w.em).mode = if w.em.mode = .eco then .work else w.em.mode := by
        split
        · next h => rw [phaseTaken_eco (ReadingEvent.target_loaded is) h]; rfl
        · next h => rw [phaseTaken_stays (ReadingEvent.target_loaded is) h]
      refine ⟨?_, settings', fun _ => ?_⟩ <;> rw [mode] <;> split
      · decide
      · exact going
      · decide
      · next h => exact h
    · rw [eq]
      exact ⟨going, settings, eco⟩
  · have delay' : w.em.settings.seatDelay ≠ 0 := settings ▸ delay
    rcases after_cases s.lc.time s.mlu.inputs.seat.level s.ct.pose e w with ⟨rfl, eq⟩ | ⟨rfl, eq⟩ | ⟨new, is, -, eq⟩ | eq <;> rw [eq]
    · rw [activityTaken_works working]
      exact ⟨working, rfl⟩
    · rw [seatTaken_stays (not_idleRunOut_now timer delay')]
      exact ⟨working, timer⟩
    · obtain ⟨mode, timer'⟩ := phaseTaken_works (now := s.lc.time) (ReadingEvent.target_loaded is) working
      exact ⟨.inl mode, timer'.trans timer⟩
    · exact ⟨working, timer⟩
  · show Em.works (activityTaken s.lc.time w.em) ∧ (activityTaken s.lc.time w.em).idleTimer = _
    rcases Em.modes w.em with h | h | h
    · exact absurd h going
    · rw [activityTaken_sleeps h]
      exact ⟨.inl rfl, rfl⟩
    · rw [activityTaken_works h]
      exact ⟨h, rfl⟩

/-- A change of SEAT whose delay has run out makes WORK and ECO AUTO_IDLE, which without an activity stays (R139, R142). -/
theorem eventRuns_idle (quiet : .activity ∉ l) (seat : .seat ∈ l) (out : IdleRunOut s.mlu.inputs.seat.level s.lc.time s.em) :
    t.em.mode = .autoIdle ∧ t.em.idleTimer = none ∧ t.em.shutdownTimer = .running s.lc.time ∧ t.em.deferred = false := by
  have asleep {w : Working} (h : w.em.mode = .autoIdle) : Em.sleeps w.em := .inl h
  have kept := eventRuns_establish (a := t.em) (P := fun w => w.em.settings = s.em.settings ∧
      (Em.works w.em ∧ w.em.idleTimer = s.em.idleTimer ∨
        w.em.mode = .autoIdle ∧ w.em.idleTimer = none ∧ w.em.shutdownTimer = .running s.lc.time ∧ w.em.deferred = false))
    (Q := fun w => w.em.mode = .autoIdle ∧ w.em.idleTimer = none ∧ w.em.shutdownTimer = .running s.lc.time ∧ w.em.deferred = false)
    runs ⟨rfl, .inl ⟨out.1, rfl⟩⟩ (fun e m w ⟨settings, state⟩ => ?_) (fun e m w _ idled => ?_) (.inr ⟨_, seat, fun w ⟨settings, state⟩ => ?_⟩)
  · exact kept.2
  · refine ⟨(after_settings _ _ _ e w).trans settings, ?_⟩
    rcases state with ⟨working, timer⟩ | idled
    · rcases after_cases s.lc.time s.mlu.inputs.seat.level s.ct.pose e w with ⟨rfl, eq⟩ | ⟨rfl, eq⟩ | ⟨new, is, -, eq⟩ | eq
      · exact absurd m quiet
      · rw [eq, seatTaken_idles (out.congr working timer.symm settings.symm)]
        exact .inr ⟨rfl, rfl, rfl, rfl⟩
      · obtain ⟨mode, timer'⟩ := phaseTaken_works (now := s.lc.time) (ReadingEvent.target_loaded is) working
        rw [eq]
        exact .inl ⟨.inl mode, timer'.trans timer⟩
      · rw [eq]
        exact .inl ⟨working, timer⟩
    · rw [after_sleeping (asleep idled.1) _ _ e rfl, if_neg (by rintro rfl; exact quiet m)]
      exact .inr idled
  · rw [after_sleeping (asleep idled.1) _ _ e rfl, if_neg (by rintro rfl; exact quiet m)]
    exact idled
  · rcases state with ⟨working, timer⟩ | idled
    · show (seatTaken _ _ w.em).mode = _ ∧ (seatTaken _ _ w.em).idleTimer = _ ∧ (seatTaken _ _ w.em).shutdownTimer = _ ∧
        (seatTaken _ _ w.em).deferred = _
      rw [seatTaken_idles (out.congr working timer.symm settings.symm)]
      exact ⟨rfl, rfl, rfl, rfl⟩
    · rw [after_sleeping (asleep idled.1) _ _ .seat rfl, if_neg (by decide)]
      exact idled

end

end Sys2Proof.Machine

/-! PROOFS. What the events of a reading do to the zones, the loads and the authority, and hand over (R28, R29, R64, R65, R129). -/

namespace Sys2Proof.Machine

/-! ## A zone at TRAVEL (R65) -/

theorem isSiteSector_iff (z : ZoneRecord) : z.isSiteSector = true ↔ z.anchor = .site ∧ z.extent ≠ 0 := by
  simp [ZoneRecord.isSiteSector]

/-- A zone, the record apart, that TRAVEL unanchors (R65). -/
theorem unanchors_eq (e : ZoneEntry) : unanchors e = e.held.bind fun z =>
    if z.record.anchor = .site ∧ z.record.extent ≠ 0 then
      match z.state with
      | .dormant => some .dormant
      | .armed => some .armed
      | .suspended => some .suspended
      | .unanchored _ => none
    else none := by
  unfold unanchors
  cases e.held with
  | none => rfl
  | some z =>
    by_cases sector : z.record.anchor = .site ∧ z.record.extent ≠ 0
    · exact (if_pos ((isSiteSector_iff _).2 sector)).trans (if_pos sector).symm
    · exact (if_neg ((isSiteSector_iff _).not.2 sector)).trans (if_neg sector).symm

theorem unanchors_iff (e : ZoneEntry) (p : PriorState) : unanchors e = some p ↔
    ∃ z ∈ e.held, z.state ≠ .unanchored p ∧ (travelledZone z).state = .unanchored p := by
  rw [unanchors_eq, Option.bind_eq_some_iff]
  refine exists_congr fun z => and_congr_right fun _ => ?_
  unfold travelledZone
  by_cases sector : z.record.anchor = .site ∧ z.record.extent ≠ 0
  · rw [if_pos sector, if_pos sector]
    cases z.state <;> simp
  · rw [if_neg sector, if_neg sector]
    simp

theorem travelled_held (e : ZoneEntry) : (ZoneEntry.travelled e).held = e.held.map travelledZone := by
  unfold ZoneEntry.travelled
  rw [unanchors_eq]
  cases held : e.held with
  | none => exact held
  | some z =>
    obtain ⟨record, state⟩ := z
    unfold travelledZone
    rw [Option.bind_some, Option.map_some]
    by_cases sector : record.anchor = .site ∧ record.extent ≠ 0
    · rw [if_pos sector, if_pos sector]
      cases state with
      | unanchored p => exact held
      | _ => simp [ZoneEntry.withState, held]
    · rw [if_neg sector, if_neg sector]
      exact held

theorem travelled_state {e : ZoneEntry} {p : PriorState} (h : unanchors e = some p) :
    (ZoneEntry.travelled e).state? = some (.unanchored p) := by
  obtain ⟨z, held, -, state⟩ := (unanchors_iff e p).1 h
  rw [ZoneEntry.state?, travelled_held, held, Option.map_some, Option.map_some, state]

theorem travelled_statistics (e : ZoneEntry) :
    (ZoneEntry.travelled e).intrusions = e.intrusions ∧ (ZoneEntry.travelled e).cuts = e.cuts := by
  unfold ZoneEntry.travelled
  split <;> exact ⟨rfl, rfl⟩

theorem travelledZone_idem (z : Zone) : travelledZone (travelledZone z) = travelledZone z := by
  unfold travelledZone
  by_cases sector : z.record.anchor = .site ∧ z.record.extent ≠ 0
  · simp only [if_pos sector]
    cases z.state <;> rfl
  · simp only [if_neg sector]

theorem unanchors_none {s : State} (none' : ¬(s.zt.zones.toList.any fun e => (unanchors e).isSome) = true) (k : Fin 16) :
    unanchors s.zt.zones[k] = none := by
  rw [← Option.not_isSome_iff_eq_none]
  intro some'
  exact none' (List.any_eq_true.2 ⟨_, Vector.mem_toList_iff.2 (Vector.getElem_mem k.isLt), some'⟩)

theorem travelZones_zones (s : State) (k : Fin 16) : (travelZones s).zt.zones[k].held = s.zt.zones[k].held.map travelledZone ∧
    StatisticsKept k s (travelZones s) := by
  by_cases some' : (s.zt.zones.toList.any fun e => (unanchors e).isSome) = true
  · rw [travelZones_eq some']
    generalize hu : zoneNotices (fun k => (unanchors s.zt.zones[k]).map ZoneEvent.unanchored) (zonesTravelled s) = u
    have notices : Frame { choices := true } (zonesTravelled s) u := hu ▸ zoneNotices_frame _ _
    have entries := settleUnanchored_entries u
    obtain ⟨held, kept⟩ := zonesMapped_evaluated (f := ZoneEntry.travelled) travelled_statistics (s := s) (u := settleUnanchored u)
      (by rw [entries.zones, notices.zt rfl]; rfl) (by rw [entries.sl, notices.sl rfl]; rfl) k
    exact ⟨held.trans (travelled_held _), kept⟩
  · rw [show travelZones s = s from if_neg some']
    have stays : ZoneEntry.travelled s.zt.zones[k] = s.zt.zones[k] := by
      unfold ZoneEntry.travelled
      rw [unanchors_none some' k]
    exact ⟨by rw [← travelled_held, stays], .refl k s⟩

/-- What a TRAVEL event hands over: UNANCHORED of the zones it unanchors, and what the evaluation gives (R65, R72). -/
theorem travelZones_tells (s : State) : ∃ ns ms, Tells (ns ++ ms) s (travelZones s) ∧ ns.length ≤ 16 ∧
    (∀ n, n ∈ ns ↔ ∃ k p, unanchors s.zt.zones[k] = some p ∧
      n = .zoneEvent (.unanchored p) k (some (.unanchored p)) s.lc.time) ∧ ∀ n ∈ ms, ofEvaluation n = true := by
  by_cases some' : (s.zt.zones.toList.any fun e => (unanchors e).isSome) = true
  · rw [travelZones_eq some']
    obtain ⟨ns, ms, tells, few, -, mem, evaluation⟩ := zonesMapped_tells (f := ZoneEntry.travelled) (s := s) (v := zonesTravelled s)
      (event? := fun k => (unanchors s.zt.zones[k]).map ZoneEvent.unanchored) rfl rfl (.refl _) (settleUnanchored_tells _)
    refine ⟨ns, ms, tells, few, fun n => (mem n).trans ⟨?_, ?_⟩, evaluation⟩
    · rintro ⟨k, e, given, rfl⟩
      obtain ⟨p, is, rfl⟩ := Option.map_eq_some_iff.1 given
      exact ⟨k, p, is, by rw [travelled_state is]⟩
    · rintro ⟨k, p, is, rfl⟩
      exact ⟨k, _, Option.map_eq_some_iff.2 ⟨p, is, rfl⟩, by rw [travelled_state is]⟩
  · rw [show travelZones s = s from if_neg some']
    refine ⟨[], [], .silent rfl (.refl _), by simp, fun n => ⟨fun m => absurd m List.not_mem_nil, ?_⟩,
      fun n m => absurd m List.not_mem_nil⟩
    rintro ⟨k, p, is, -⟩
    rw [unanchors_none some' k] at is
    cases is

/-! ## The loads at TRAVEL (R129) -/

/-- The notices of a TRAVEL event at the Load Recorder. -/
def travelNotices (s : State) : List Notice := if s.lr.travelTaken then [] else closedNotices .closedTravel s.lc.time s.lr

theorem travelLoads_lr (s : State) : (travelLoads s).lr =
    if s.lr.travelTaken then { s.lr with travelTaken := false } else withLoadClosed .closedTravel s.lc.time s.lr := by
  unfold travelLoads
  split
  · rfl
  · rw [closeLoad_eq]
    rfl

theorem travelLoads_speaks (s : State) : Speaks (travelNotices s) s (travelLoads s) := by
  unfold travelLoads travelNotices
  split
  · exact .silent rfl (.refl _) rfl
  · rw [closeLoad_eq]
    exact told_speaks (closedNotices_plain _ _ _) _ s

theorem travelNotices_few (s : State) : (travelNotices s).length ≤ 1 ∧ ∀ n ∈ travelNotices s, noticeKind n = 0x48 := by
  unfold travelNotices closedNotices
  split
  · exact ⟨Nat.zero_le _, fun _ m => absurd m List.not_mem_nil⟩
  · split
    · exact ⟨Nat.zero_le _, fun _ m => absurd m List.not_mem_nil⟩
    · exact ⟨le_rfl, List.forall_mem_singleton.2 rfl⟩

/-! ## The zones at a change of authority (R64) -/

/-- A zone at a new authority: one SUSPENDED above it is ARMED (R64). -/
def rearmedZone (a : Authority) (z : Zone) : Zone :=
  if z.state = .suspended ∧ a.rank < z.record.suspendLevel.rank then { z with state := .armed } else z

theorem mustRearm_iff (a : Authority) (e : ZoneEntry) :
    mustRearm a e = true ↔ ∃ z ∈ e.held, z.state = .suspended ∧ a.rank < z.record.suspendLevel.rank := by
  unfold mustRearm
  cases e.held with
  | none => simp
  | some z => simp

/-- An entry at a new authority (R64). -/
def rearmedEntry (a : Authority) (e : ZoneEntry) : ZoneEntry := if mustRearm a e then ZoneEntry.withState .armed e else e

theorem rearmedEntry_held (a : Authority) (e : ZoneEntry) : (rearmedEntry a e).held = e.held.map (rearmedZone a) := by
  unfold rearmedEntry rearmedZone
  have must := mustRearm_iff a e
  cases held : e.held with
  | none =>
    rw [held] at must
    rw [if_neg (by simp [must])]
    exact held
  | some z =>
    rw [held] at must
    simp only [Option.mem_some_iff, exists_eq_left'] at must
    by_cases low : z.state = .suspended ∧ a.rank < z.record.suspendLevel.rank
    · rw [if_pos (must.2 low), Option.map_some, if_pos low, ZoneEntry.withState, held]
      rfl
    · rw [if_neg (must.not.2 low), Option.map_some, if_neg low, held]

theorem rearmedEntry_state {a : Authority} {e : ZoneEntry} (must : mustRearm a e = true) : (rearmedEntry a e).state? = some .armed := by
  obtain ⟨z, held, low⟩ := (mustRearm_iff a e).1 must
  rw [ZoneEntry.state?, rearmedEntry_held, held, Option.map_some, Option.map_some, rearmedZone, if_pos low]

theorem rearmZones_eq (a : Authority) (s : State) : rearmZones a s = evaluateSlew (zoneNotices
    (fun k => if mustRearm a s.zt.zones[k] then some (.reArmed .authority) else none)
    { s with zt := { s.zt with zones := s.zt.zones.map (rearmedEntry a) } }) := rfl

/-- A change of authority: the level that of the inputs, and the zones above it re-armed (R28, R64). -/
theorem settleAuthority_zones (s : State) : (settleAuthority s).mlu.authority = authorityOf s.mlu.inputs ∧ ∀ k : Fin 16,
    (settleAuthority s).zt.zones[k].held = if authorityOf s.mlu.inputs = s.mlu.authority then s.zt.zones[k].held
      else s.zt.zones[k].held.map (rearmedZone (authorityOf s.mlu.inputs)) := by
  by_cases same : authorityOf s.mlu.inputs = s.mlu.authority
  · rw [settleAuthority_same same]
    exact ⟨same.symm, fun k => (if_pos same).symm⟩
  · have frame := queueNotice_frame (.authority s.mlu.authority (authorityOf s.mlu.inputs) s.lc.time)
      (onMlu (fun m => { m with authority := authorityOf s.mlu.inputs }) s)
    have zt : (authorityTaken s).zt = s.zt := frame.zt rfl
    have authority : (authorityTaken s).mlu.authority = authorityOf s.mlu.inputs := congrArg Mlu.authority (frame.mlu rfl)
    rw [settleAuthority_moved same]
    refine ⟨((rearmZones_fields _ _).2.trans authority), fun k => ?_⟩
    rw [if_neg same, rearmZones_eq, (evaluateSlew_sameZones _).held, (zoneNotices_frame _ _).zt rfl, ← rearmedEntry_held]
    simp [zt]

/-- It hands over AUTHORITY, the RE_ARMED of the zones it re-arms, and what the evaluation gives (R29, R64, R72). -/
theorem settleAuthority_tells (s : State) : ∃ ns ms, Tells
    (if authorityOf s.mlu.inputs = s.mlu.authority then []
      else .authority s.mlu.authority (authorityOf s.mlu.inputs) s.lc.time :: (ns ++ ms)) s (settleAuthority s) ∧ ns.length ≤ 16 ∧
    (∀ n, n ∈ ns ↔ ∃ k, mustRearm (authorityOf s.mlu.inputs) s.zt.zones[k] = true ∧
      n = .zoneEvent (.reArmed .authority) k (some .armed) s.lc.time) ∧ ∀ n ∈ ms, ofEvaluation n = true := by
  have first : Tells [.authority s.mlu.authority (authorityOf s.mlu.inputs) s.lc.time] s (authorityTaken s) :=
    Tells.after (queueNotice_tells _ (onMlu (fun m => { m with authority := authorityOf s.mlu.inputs }) s)) rfl (.refl _)
  have time := first.time
  have zt : (authorityTaken s).zt = s.zt := (queueNotice_frame (.authority s.mlu.authority (authorityOf s.mlu.inputs) s.lc.time)
      (onMlu (fun m => { m with authority := authorityOf s.mlu.inputs }) s)).zt rfl
  obtain ⟨ns, ms, tells, few, -, mem, evaluation⟩ := zonesMapped_tells (f := rearmedEntry (authorityOf s.mlu.inputs))
    (s := authorityTaken s) (event? := fun k =>
      if mustRearm (authorityOf s.mlu.inputs) (authorityTaken s).zt.zones[k] then some (.reArmed .authority) else none)
    (v := { authorityTaken s with zt := { (authorityTaken s).zt with
      zones := (authorityTaken s).zt.zones.map (rearmedEntry (authorityOf s.mlu.inputs)) } }) rfl rfl (.refl _) (.silent rfl (.refl _))
  refine ⟨ns, ms, ?_, few, fun n => (mem n).trans ⟨?_, ?_⟩, evaluation⟩
  · split
    · next same =>
      rw [settleAuthority_same same]
      exact .silent rfl (.refl _)
    · next moved =>
      rw [settleAuthority_moved moved, rearmZones_eq]
      exact first.trans tells
  · rintro ⟨k, e, given, rfl⟩
    split at given
    · next arms =>
      cases given
      rw [time, rearmedEntry_state arms]
      exact ⟨k, by rwa [zt] at arms, rfl⟩
    · cases given
  · rintro ⟨k, arms, rfl⟩
    rw [← zt] at arms
    exact ⟨k, _, if_pos arms, by rw [time, rearmedEntry_state arms]⟩

end Sys2Proof.Machine

/-! PROOFS. The notices of a reading's events, one event after another, and a TRAVEL accepted alone (R24, R27, R65, R98, R129). -/

namespace Sys2Proof.Machine

/-! ## What each event leaves -/

/-- Events other than those of the zones and of the authority leave both and the Slew Limiter. -/
theorem runEvent_zones_other {e : ReadingEvent} (zones : e ≠ .zones) (authority : e ≠ .authority) (s : State) :
    (runEvent e s).zt = s.zt ∧ (runEvent e s).sl = s.sl ∧ (runEvent e s).mlu = s.mlu := by
  have frame {b : Blocks} {t : State} (h : Frame b s t) (zt : b.zt = false) (sl : b.sl = false) (mlu : b.mlu = false) :
      t.zt = s.zt ∧ t.sl = s.sl ∧ t.mlu = s.mlu := ⟨h.zt zt, h.sl sl, h.mlu mlu⟩
  cases e with
  | activity => exact frame (takeActivity_frame s) rfl rfl rfl
  | seat => exact frame (takeSeatChange_frame s) rfl rfl rfl
  | phase => exact frame (toUnknown_frame s) rfl rfl rfl
  | loads => exact frame (travelLoads_frame s) rfl rfl rfl
  | ended => exact frame (travelEndedAtCt_frame s) rfl rfl rfl
  | zones => exact absurd rfl zones
  | authority => exact absurd rfl authority

theorem runEvent_lr_other {e : ReadingEvent} (loads : e ≠ .loads) (s : State) : (runEvent e s).lr = s.lr := by
  cases e with
  | activity => exact (takeActivity_frame s).lr rfl
  | seat => exact (takeSeatChange_frame s).lr rfl
  | phase => exact (toUnknown_frame s).lr rfl
  | zones => exact (travelZones_frame s).lr rfl
  | ended => exact (travelEndedAtCt_frame s).lr rfl
  | authority => exact (settleAuthority_frame s).lr rfl
  | loads => exact absurd rfl loads

theorem runEvent_ct_other {e : ReadingEvent} (phase : e ≠ .phase) (ended : e ≠ .ended) (s : State) : (runEvent e s).ct = s.ct := by
  cases e with
  | activity => exact (takeActivity_frame s).ct rfl
  | seat => exact (takeSeatChange_frame s).ct rfl
  | zones => exact (travelZones_frame s).ct rfl
  | loads => exact (travelLoads_frame s).ct rfl
  | authority => exact (settleAuthority_frame s).ct rfl
  | phase => exact absurd rfl phase
  | ended => exact absurd rfl ended

theorem runEvent_authority {e : ReadingEvent} (authority : e ≠ .authority) (s : State) :
    (runEvent e s).mlu.authority = s.mlu.authority := by
  by_cases zones : e = .zones
  · subst zones
    exact (travelZones_keeps_suspensions s).2.1
  · rw [(runEvent_zones_other zones authority s).2.2]

theorem toUnknown_ct (s : State) : (toUnknown s).ct = { s.ct with phase := .unknown, window := none } := by
  unfold toUnknown setPhase
  split
  · next same =>
    show { s.ct with window := none } = _
    rw [same]
    rfl
  · exact (takePhaseChange_frame _ _).ct rfl

/-! ## The notices of the events -/

/-- A notice that an event may hand over. -/
def eventNotice : ReadingEvent → Notice → Prop
  | .activity, n | .seat, n | .phase, n | .ended, n => noticeKind n = 0x4A
  | .loads, n => noticeKind n = 0x48
  | .zones, n => ofEvaluation n = true ∨ ∃ p k state time, n = .zoneEvent (.unanchored p) k state time
  | .authority, n => ofEvaluation n = true ∨ (∃ a b time, n = .authority a b time) ∨
      ∃ k state time, n = .zoneEvent (.reArmed .authority) k state time

/-- The notices of one event. -/
structure EventNotices (e : ReadingEvent) (ns : List Notice) : Prop where
  each : ∀ n ∈ ns, eventNotice e n
  one  : e = .loads → ns.length ≤ 1

theorem ofEvaluation_plain {n : Notice} (h : ofEvaluation n = true) : n.replacesItsKind = false := by
  unfold ofEvaluation at h
  split at h
  · rfl
  · rfl
  · rfl
  · cases h

theorem travelZones_speaks (s : State) : ∃ ns ms, Speaks (ns ++ ms) s (travelZones s) ∧ ns.length ≤ 16 ∧
    (∀ n, n ∈ ns ↔ ∃ k p, unanchors s.zt.zones[k] = some p ∧
      n = .zoneEvent (.unanchored p) k (some (.unanchored p)) s.lc.time) ∧ ∀ n ∈ ms, ofEvaluation n = true := by
  obtain ⟨ns, ms, tells, few, mem, evaluation⟩ := travelZones_tells s
  refine ⟨ns, ms, tells.speaks (List.forall_mem_append.2 ⟨fun n m => ?_, fun n m => ofEvaluation_plain (evaluation n m)⟩) ?_, few, mem,
    evaluation⟩
  · obtain ⟨k, p, -, rfl⟩ := (mem n).1 m
    rfl
  · rw [(travelZones_frame s).em rfl]

theorem settleAuthority_speaks (s : State) : ∃ ns ms, Speaks
    (if authorityOf s.mlu.inputs = s.mlu.authority then []
      else .authority s.mlu.authority (authorityOf s.mlu.inputs) s.lc.time :: (ns ++ ms)) s (settleAuthority s) ∧ ns.length ≤ 16 ∧
    (∀ n, n ∈ ns ↔ ∃ k, mustRearm (authorityOf s.mlu.inputs) s.zt.zones[k] = true ∧
      n = .zoneEvent (.reArmed .authority) k (some .armed) s.lc.time) ∧ ∀ n ∈ ms, ofEvaluation n = true := by
  obtain ⟨ns, ms, tells, few, mem, evaluation⟩ := settleAuthority_tells s
  refine ⟨ns, ms, tells.speaks ?_ (by rw [(settleAuthority_frame s).em rfl]), few, mem, evaluation⟩
  split
  · exact fun _ m => absurd m List.not_mem_nil
  · refine List.forall_mem_cons.2 ⟨rfl, List.forall_mem_append.2 ⟨fun n m => ?_, fun n m => ofEvaluation_plain (evaluation n m)⟩⟩
    obtain ⟨k, -, rfl⟩ := (mem n).1 m
    rfl

/-- What every event hands over. -/
theorem runEvent_speaks (e : ReadingEvent) (s : State) : ∃ ns, Speaks ns s (runEvent e s) ∧ EventNotices e ns := by
  have advice (m : e ∈ [ReadingEvent.activity, .seat, .phase, .ended]) : ∃ ns, Speaks ns s (runEvent e s) ∧ EventNotices e ns := by
    obtain ⟨ns, speaks, kinds, -⟩ := (runEvent_em m s).1.speaks
    refine ⟨ns, speaks, fun n mn => ?_, fun h => by subst h; simp at m⟩
    simp only [List.mem_cons, List.not_mem_nil, or_false] at m
    rcases m with rfl | rfl | rfl | rfl <;> exact kinds n mn
  cases e with
  | activity => exact advice (by simp)
  | seat => exact advice (by simp)
  | phase => exact advice (by simp)
  | ended => exact advice (by simp)
  | loads =>
    obtain ⟨few, kinds⟩ := travelNotices_few s
    exact ⟨_, travelLoads_speaks s, kinds, fun _ => few⟩
  | zones =>
    obtain ⟨ns, ms, speaks, -, mem, evaluation⟩ := travelZones_speaks s
    refine ⟨_, speaks, List.forall_mem_append.2 ⟨fun n m => ?_, fun n m => .inl (evaluation n m)⟩, fun h => by cases h⟩
    obtain ⟨k, p, -, rfl⟩ := (mem n).1 m
    exact .inr ⟨p, k, _, _, rfl⟩
  | authority =>
    obtain ⟨ns, ms, speaks, -, mem, evaluation⟩ := settleAuthority_speaks s
    refine ⟨_, speaks, ?_, fun h => by cases h⟩
    split
    · exact fun _ m => absurd m List.not_mem_nil
    · refine List.forall_mem_cons.2 ⟨.inr (.inl ⟨_, _, _, rfl⟩), List.forall_mem_append.2 ⟨fun n m => ?_, fun n m => .inl (evaluation n m)⟩⟩
      obtain ⟨k, -, rfl⟩ := (mem n).1 m
      exact .inr (.inr ⟨k, _, _, rfl⟩)

/-- The notices of the events, one after another. -/
theorem eventRuns_speak {l : List ReadingEvent} {s t : State} (runs : Runs (l.map runEvent) s t) :
    ∃ nss, List.Forall₂ EventNotices l nss ∧ Speaks nss.flatten s t := by
  induction l generalizing s with
  | nil =>
    obtain ⟨n, rfl⟩ := runs
    exact ⟨[], .nil, .silent rfl (.refl _) rfl⟩
  | cons e l ih =>
    obtain ⟨n, runs⟩ := runs
    obtain ⟨ns, speaks, fits⟩ := runEvent_speaks e { s with choices := n }
    obtain ⟨nss, all, rest⟩ := ih runs
    exact ⟨ns :: nss, .cons fits all, (speaks.after (s := s) rfl (.refl _) rfl).trans rest⟩

/-- Each notice is that of one of the events. -/
theorem eventNotices_mem {l : List ReadingEvent} {nss : List (List Notice)} (all : List.Forall₂ EventNotices l nss) {n : Notice}
    (m : n ∈ nss.flatten) : ∃ e ∈ l, eventNotice e n := by
  obtain ⟨ns, mns, mn⟩ := List.mem_flatten.1 m
  obtain ⟨e, me, fits⟩ := forall₂_mem all.flip mns
  exact ⟨e, me, fits.each n mn⟩

/-- Without the events of the zones and of the authority, the notices that take the place of none are those of the loads. -/
theorem eventNotices_few {l : List ReadingEvent} {nss : List (List Notice)} (all : List.Forall₂ EventNotices l nss)
    (zones : .zones ∉ l) (authority : .authority ∉ l) : nss.flatten.countP notAdvice ≤ l.count .loads := by
  induction all with
  | nil => exact le_rfl
  | cons fits all ih =>
    rename_i e ns l nss
    have rest := ih (fun m => zones (List.mem_cons_of_mem _ m)) (fun m => authority (List.mem_cons_of_mem _ m))
    have advice (h : ∀ n ∈ ns, noticeKind n = 0x4A) : ns.countP notAdvice = 0 :=
      List.countP_eq_zero.2 fun n m => by simp [notAdvice, h n m]
    have own : ns.countP notAdvice ≤ if e = .loads then 1 else 0 := by
      cases e with
      | zones => exact absurd List.mem_cons_self zones
      | authority => exact absurd List.mem_cons_self authority
      | loads => exact List.countP_le_length.trans (fits.one rfl)
      | _ => exact (advice fits.each).le
    rw [List.flatten_cons, List.countP_append, List.count_cons]
    simp only [beq_iff_eq]
    omega

end Sys2Proof.Machine

/-! PROOFS. A TRAVEL accepted alone, settled (R24, R27, R65, R69, R98, R127, R129). -/

namespace Sys2Proof.Machine

/-- A reading that is due and accepts a level change runs (R24). -/
theorem exec_inputLevelChange {x : InputSamples} {s : State} (powered : s.powered = true)
    (due : (s.lc.time - s.mlu.nextReading).toNat < 2147483648) (some' : PerInput.any (changesAt s.mlu x) = true) :
    exec (.inputLevelChange x) s = .next (readInputs x s) := by
  have reading : readingDue s = true := by
    unfold readingDue
    rw [powered, Bool.true_and, decide_eq_true_iff]
    exact due
  show execInputLevelChange x s = _
  unfold execInputLevelChange
  exact whenDue_of_due (by rw [reading, some', Bool.and_self])

/-! ## The events of TRAVEL in a run -/

section
variable {l : List ReadingEvent} {s t : State} (runs : Runs (l.map runEvent) s t)
include runs

/-- Events other than those of the zones and of the authority. -/
theorem eventRuns_zones_other (zones : .zones ∉ l) (authority : .authority ∉ l) : t.zt = s.zt ∧ t.sl = s.sl ∧ t.mlu = s.mlu := by
  refine Runs.keeps (P := fun u => u.zt = s.zt ∧ u.sl = s.sl ∧ u.mlu = s.mlu) (fun u n h => h) runs (fun g m u h => ?_) ⟨rfl, rfl, rfl⟩
  obtain ⟨e, me, rfl⟩ := List.mem_map.1 m
  obtain ⟨zt, sl, mlu⟩ := runEvent_zones_other (e := e) (by rintro rfl; exact zones me) (by rintro rfl; exact authority me) u
  exact ⟨zt.trans h.1, sl.trans h.2.1, mlu.trans h.2.2⟩

theorem eventRuns_authority (authority : .authority ∉ l) : t.mlu.authority = s.mlu.authority := by
  refine Runs.keeps (P := fun u => u.mlu.authority = s.mlu.authority) (fun u n h => h) runs (fun g m u h => ?_) rfl
  obtain ⟨e, me, rfl⟩ := List.mem_map.1 m
  exact (runEvent_authority (by rintro rfl; exact authority me) u).trans h

theorem eventRuns_lr (loads : .loads ∉ l) : t.lr = s.lr := by
  refine Runs.keeps (P := fun u => u.lr = s.lr) (fun u n h => h) runs (fun g m u h => ?_) rfl
  obtain ⟨e, me, rfl⟩ := List.mem_map.1 m
  exact (runEvent_lr_other (by rintro rfl; exact loads me) u).trans h

/-- TRAVEL at the Cycle Tracker (R98). -/
theorem eventRuns_unknown (phase : l.count .phase = 1) (ended : .ended ∉ l) : t.ct = { s.ct with phase := .unknown, window := none } := by
  have iterated := runs.iterates (P := fun _ => True) (fun _ _ h => h) (· == .phase) State.ct (fun _ _ => rfl)
    (fun ct => { ct with phase := .unknown, window := none }) (fun e m u _ => ⟨trivial, ?_⟩) trivial
  · rw [← List.count_eq_countP', phase] at iterated
    exact iterated
  · by_cases is : e = .phase
    · subst is
      exact toUnknown_ct u
    · rw [if_neg (by simpa using is)]
      exact runEvent_ct_other is (by rintro rfl; exact ended m) u

end

/-- The zones at a TRAVEL accepted without a change of authority, with their statistics and their notices (R65, R69, R70, R72). -/
theorem eventRuns_travelled {l : List ReadingEvent} {s t : State} (runs : Runs (l.map runEvent) s t) (zones : l.count .zones = 1)
    (authority : .authority ∉ l) (loads : l.count .loads ≤ 1) :
    (∀ k : Fin 16, t.zt.zones[k].held = s.zt.zones[k].held.map travelledZone ∧ StatisticsKept k s t) ∧
    (∀ (k : Fin 16) (p : PriorState), unanchors s.zt.zones[k] = some p → s.lc.notices.length ≤ 14 →
      noticeHanded (.zoneEvent (.unanchored p) k (some (.unanchored p)) s.lc.time) t.lc) ∧
    ∀ (k : Fin 16) (p : PriorState) (state : Option ZoneState) (time : Stamp),
      noticeHanded (.zoneEvent (.unanchored p) k state time) t.lc →
        noticeHanded (.zoneEvent (.unanchored p) k state time) s.lc ∨ unanchors s.zt.zones[k] = some p := by
  obtain ⟨l₁, l₂, u, perm, others, before, after⟩ := runs.once zones
  have apart {e : ReadingEvent} (h : e ∉ l) (other : e ≠ .zones) : e ∉ l₁ ++ l₂ := fun m => h (perm.mem_iff.2 (List.mem_cons_of_mem _ m))
  have zones₁ : ReadingEvent.zones ∉ l₁ := fun m => others (List.mem_append_left _ m)
  have zones₂ : ReadingEvent.zones ∉ l₂ := fun m => others (List.mem_append_right _ m)
  have authority₁ : ReadingEvent.authority ∉ l₁ := fun m => apart authority (by decide) (List.mem_append_left _ m)
  have authority₂ : ReadingEvent.authority ∉ l₂ := fun m => apart authority (by decide) (List.mem_append_right _ m)
  obtain ⟨zt₁, sl₁, -⟩ := eventRuns_zones_other before zones₁ authority₁
  obtain ⟨zt₂, sl₂, -⟩ := eventRuns_zones_other after zones₂ authority₂
  obtain ⟨bss, fits₁, told₁⟩ := eventRuns_speak before
  obtain ⟨ass, fits₂, told₂⟩ := eventRuns_speak after
  obtain ⟨ns, ms, told, few, mem, evaluation⟩ := travelZones_tells u
  have time : u.lc.time = s.lc.time := told₁.told.time
  rw [zt₁, time] at mem
  have all := (told₁.told.trans told).trans told₂.told
  refine ⟨fun k => ?_, fun k p is room => ?_, fun k p state time' given => ?_⟩
  · obtain ⟨held, kept⟩ := travelZones_zones u k
    rw [zt₁] at held
    refine ⟨by rw [zt₂]; exact held, ?_⟩
    exact ZoneCounted.congr (by unfold StatisticsKept at kept; rwa [zt₁, sl₁] at kept) (by rw [sl₁]) (congrArg Zt.zones zt₂) sl₂
  · obtain ⟨front, back, split⟩ := List.append_of_mem ((mem _).2 ⟨k, p, is, rfl⟩)
    have order : bss.flatten ++ (ns ++ ms) ++ ass.flatten =
        (bss.flatten ++ front) ++ .zoneEvent (.unanchored p) k (some (.unanchored p)) s.lc.time :: (back ++ (ms ++ ass.flatten)) := by
      rw [split]
      simp
    rw [order] at all
    have loads₁ : l₁.count .loads ≤ 1 := by
      have counted := perm.count_eq .loads
      rw [List.count_cons_of_ne (by decide), List.count_append] at counted
      omega
    have few₁ := eventNotices_few fits₁ zones₁ authority₁
    have few₂ : front.countP notAdvice + 1 ≤ 16 := by
      have length := congrArg List.length split
      rw [List.length_append, List.length_cons] at length
      have := List.countP_le_length (p := notAdvice) (l := front)
      omega
    exact all.past (most := 16) (limit := 14) rfl (by rw [List.countP_append]; omega) (by norm_num) room
  · refine (all.handed.only _ given).imp id fun m => ?_
    have outside {l' : List ReadingEvent} {nss : List (List Notice)} (fits : List.Forall₂ EventNotices l' nss) (z : .zones ∉ l')
        (a : .authority ∉ l') : Notice.zoneEvent (.unanchored p) k state time' ∉ nss.flatten := fun m => by
      obtain ⟨e, me, fit⟩ := eventNotices_mem fits m
      cases e with
      | zones => exact z me
      | authority => exact a me
      | _ => exact absurd fit (by decide : 0x43 ≠ _)
    rcases List.mem_append.1 m with m | m
    · rcases List.mem_append.1 m with m | m
      · exact absurd m (outside fits₁ zones₁ authority₁)
      · rcases List.mem_append.1 m with m | m
        · obtain ⟨j, q, is, same⟩ := (mem _).1 m
          cases same
          exact is
        · exact absurd (evaluation _ m) (by simp [ofEvaluation])
    · exact absurd m (outside fits₂ zones₂ authority₂)

/-- The loads at a TRAVEL, with their notices (R127, R129). -/
theorem eventRuns_loads {l : List ReadingEvent} {s t : State} (runs : Runs (l.map runEvent) s t) (loads : l.count .loads = 1) :
    t.lr = (if s.lr.travelTaken then { s.lr with travelTaken := false } else withLoadClosed .closedTravel s.lc.time s.lr) ∧
    ∀ n ∈ travelNotices s, handedWithRoom n t.lc := by
  obtain ⟨l₁, l₂, u, -, others, before, after⟩ := runs.once loads
  have lr₁ := eventRuns_lr before fun m => others (List.mem_append_left _ m)
  have lr₂ := eventRuns_lr after fun m => others (List.mem_append_right _ m)
  have time := (eventRuns_kept before).time
  obtain ⟨bss, -, told₁⟩ := eventRuns_speak before
  obtain ⟨ass, -, told₂⟩ := eventRuns_speak after
  have same : travelNotices u = travelNotices s := by
    unfold travelNotices
    rw [lr₁, time]
  have told := (travelLoads_speaks u).told
  rw [same] at told
  refine ⟨?_, fun n m => ((told₁.told.trans told).trans told₂.told).plainWithRoom
    (List.mem_append_left _ (List.mem_append_right _ m)) ?_⟩
  · have lr := travelLoads_lr u
    rw [lr₁, time] at lr
    exact lr₂.trans lr
  · unfold travelNotices at m
    split at m
    · cases m
    · exact closedNotices_plain _ _ _ n m

/-- Settles O29: the events of TRAVEL, in whichever order, each on a block of its own. -/
theorem travelUnanchorsAndCloses : Obligations.TravelUnanchorsAndCloses := by
  intro x s powered due alone travel
  have changes : changesAt s.mlu x = { pilotEnable := false, seat := false, joyLeft := false, joyRight := false, travel := true
                                       supervisorKey := false, servicePlug := false } := alone
  have step := exec_inputLevelChange powered due (show PerInput.any (changesAt s.mlu x) = true by rw [changes]; rfl)
  have frame := readInputs_frame x s
  obtain ⟨l, perm, runs⟩ := readInputs_runs x s
  have level : (Debouncer.take s.mlu.inputs.travel x.travel).level = true := by
    have accepted : Debouncer.accepts s.mlu.inputs.travel x.travel = true := congrArg PerInput.travel changes
    unfold Debouncer.take
    rw [if_pos accepted, travel]
  have events : readingEvents (changesAt s.mlu x) (PerInput.map₂ Debouncer.take s.mlu.inputs x) = [.activity, .zones, .phase, .loads] := by
    rw [changes]
    unfold readingEvents activityEvent travelEventNames
    simp [PerInput.map₂, level]
  rw [events] at perm
  have count (e : ReadingEvent) : l.count e = [ReadingEvent.activity, .zones, .phase, .loads].count e := perm.count_eq e
  have absent {e : ReadingEvent} (h : e ∉ [ReadingEvent.activity, .zones, .phase, .loads]) : e ∉ l := fun m => h (perm.mem_iff.1 m)
  generalize readInputs x s = t at step runs frame
  obtain ⟨zones, unanchored, only⟩ := eventRuns_travelled runs (count _) (absent (by decide)) (count _).le
  obtain ⟨lr, closed⟩ := eventRuns_loads runs (count _)
  have ct := eventRuns_unknown runs (count _) (absent (by decide))
  refine ⟨t, step, fun k => (zones k).1, fun k => (zones k).2, fun k z held p moved is room => ?_, ?_,
    by rw [ct], by rw [ct], by rw [ct]; rfl, fun fresh => ⟨?_, fun n m => ?_⟩, fun taken => ?_,
    (eventRuns_authority runs (absent (by decide))).trans rfl, frame.scu rfl, frame.ps rfl, frame.st rfl, frame.rs rfl⟩
  · exact unanchored k p ((unanchors_iff _ _).2 ⟨z, held, moved, is⟩) room
  · intro k p state time n given
    exact (only k p state time given).imp id fun is => (unanchors_iff _ _).1 is
  · exact lr.trans (if_neg (by rw [show (takeReading x s).lr.travelTaken = false from fresh]; exact Bool.false_ne_true))
  · refine closed n ?_
    unfold travelNotices
    rw [if_neg (by rw [show (takeReading x s).lr.travelTaken = false from fresh]; exact Bool.false_ne_true)]
    exact m
  · exact lr.trans (if_pos taken)

end Sys2Proof.Machine

/-! PROOFS. The authority and the zones through a reading (R28, R29, R64, R65, R72). -/

namespace Sys2Proof.Machine

/-! ## A zone at both events -/

/-- A zone SUSPENDED above a level (R64). -/
def SuspendedAbove (a : Authority) (z : Zone) : Prop := z.state = .suspended ∧ a.rank < z.record.suspendLevel.rank

/-- A zone that a TRAVEL event has reached or not. -/
def travelledIf (b : Bool) (z : Zone) : Zone := if b then travelledZone z else z

theorem travelledZone_suspended {z : Zone} (h : (travelledZone z).state = .suspended) : travelledZone z = z := by
  unfold travelledZone at h ⊢
  split
  · next sector =>
    rw [if_pos sector] at h
    cases state : z.state <;> simp [state] at h
  · rfl

theorem rearmedZone_above {a : Authority} {z : Zone} (h : SuspendedAbove a z) : rearmedZone a z = { z with state := .armed } := if_pos h

theorem rearmedZone_other {a : Authority} {z : Zone} (h : ¬SuspendedAbove a z) : rearmedZone a z = z := if_neg h

theorem travelledIf_above {a : Authority} {b : Bool} {z : Zone} (h : SuspendedAbove a (travelledIf b z)) :
    travelledIf b z = z ∧ SuspendedAbove a z := by
  cases b with
  | false => exact ⟨rfl, h⟩
  | true =>
    have same : travelledIf true z = z := travelledZone_suspended h.1
    exact ⟨same, same ▸ h⟩

theorem travelledIf_travelled (b : Bool) (z : Zone) : travelledIf b (travelledZone z) = travelledZone z := by
  cases b
  · rfl
  · exact travelledZone_idem z

/-- A zone that is not SUSPENDED above the level is travelled alone. -/
theorem travelled_rearmed_other {a : Authority} {z : Zone} (h : ¬SuspendedAbove a z) {before after : Bool}
    (some' : before = true ∨ after = true) : travelledIf after (rearmedZone a (travelledIf before z)) = travelledZone z := by
  rw [rearmedZone_other fun k => h (travelledIf_above k).2]
  rcases some' with rfl | rfl
  · exact travelledIf_travelled after z
  · exact (show travelledZone (travelledIf before z) = travelledZone z by
      cases before
      · rfl
      · exact travelledZone_idem z)

/-- A zone SUSPENDED above the level, which TRAVEL reaches too: either order leaves one of two zones, the second with its RE_ARMED. -/
theorem travelled_rearmed_above {a : Authority} {z : Zone} (h : SuspendedAbove a z) {before after : Bool}
    (some' : before = true ∨ after = true) :
    travelledIf after (rearmedZone a (travelledIf before z)) = travelledZone z ∧
        travelledZone z ≠ travelledZone { z with state := .armed } ∨
      travelledIf after (rearmedZone a (travelledIf before z)) = travelledZone { z with state := .armed } ∧
        SuspendedAbove a (travelledIf before z) := by
  cases before with
  | false =>
    obtain rfl : after = true := by simpa using some'
    refine .inr ⟨?_, h⟩
    show travelledZone (rearmedZone a z) = _
    rw [rearmedZone_above h]
  | true =>
    show travelledIf after (rearmedZone a (travelledZone z)) = _ ∧ _ ∨ travelledIf after (rearmedZone a (travelledZone z)) = _ ∧
      SuspendedAbove a (travelledZone z)
    by_cases sector : z.record.anchor = .site ∧ z.record.extent ≠ 0
    · have away : ¬SuspendedAbove a (travelledZone z) := fun k => by
        have state := k.1
        unfold travelledZone at state
        rw [if_pos sector, h.1] at state
        cases state
      refine .inl ⟨by rw [rearmedZone_other away, travelledIf_travelled], fun same => ?_⟩
      have state := congrArg Zone.state same
      unfold travelledZone at state
      rw [if_pos sector, if_pos (show ({ z with state := .armed } : Zone).record.anchor = .site ∧ _ from sector), h.1] at state
      cases state
    · have stays : travelledZone z = z := if_neg sector
      have stays' : travelledZone { z with state := .armed } = { z with state := .armed } := if_neg sector
      rw [stays, stays', rearmedZone_above h]
      refine .inr ⟨?_, h⟩
      cases after
      · rfl
      · exact stays'

/-! ## The notices of a change of authority -/

/-- A notice that a change of authority alone hands over (R29, R72). -/
def ofAuthority : Notice → Bool
  | .authority .. | .zoneEvent (.reArmed .authority) .. => true
  | _ => false

theorem ofEvaluation_apart {n : Notice} (h : ofEvaluation n = true) : ofAuthority n = false := by
  unfold ofEvaluation at h
  split at h
  · rfl
  · rfl
  · rfl
  · cases h

theorem ofAuthority_kind {n : Notice} (h : ofAuthority n = true) : noticeKind n = 0x42 ∨ noticeKind n = 0x43 := by
  unfold ofAuthority at h
  split at h
  · exact .inl rfl
  · exact .inr rfl
  · cases h

theorem eventNotice_apart {e : ReadingEvent} {n : Notice} (h : eventNotice e n) (other : e ≠ .authority) : ofAuthority n = false := by
  have kinds (k : noticeKind n ≠ 0x42 ∧ noticeKind n ≠ 0x43) : ofAuthority n = false := by
    rw [Bool.eq_false_iff]
    exact fun is => (ofAuthority_kind is).elim k.1 k.2
  have is {c : Nat} (k : noticeKind n = c) (apart : c ≠ 0x42 ∧ c ≠ 0x43) : ofAuthority n = false := kinds (k ▸ apart)
  cases e with
  | authority => exact absurd rfl other
  | zones =>
    rcases h with h | ⟨p, k, state, time, rfl⟩
    · exact ofEvaluation_apart h
    · rfl
  | _ => exact is h (by decide)

theorem eventNotices_apart {l : List ReadingEvent} {nss : List (List Notice)} (all : List.Forall₂ EventNotices l nss)
    (authority : .authority ∉ l) : ∀ n ∈ nss.flatten, ofAuthority n = false := fun n m => by
  obtain ⟨e, me, fit⟩ := eventNotices_mem all m
  exact eventNotice_apart fit (by rintro rfl; exact authority me)

/-! ## The zones through a run of events -/

/-- Without a change of authority the zones are those travelled, or as they were (R65). -/
theorem eventRuns_held {l : List ReadingEvent} {s t : State} (runs : Runs (l.map runEvent) s t) (authority : .authority ∉ l)
    (k : Fin 16) : t.zt.zones[k].held = s.zt.zones[k].held.map (travelledIf (decide (.zones ∈ l))) := by
  have idem : ∀ h : Option Zone, (h.map travelledZone).map travelledZone = h.map travelledZone := fun h => by
    cases h
    · rfl
    · exact congrArg some (travelledZone_idem _)
  have step (e : ReadingEvent) (m : e ∈ l) (u : State) :
      (runEvent e u).zt.zones[k].held = if e = .zones then u.zt.zones[k].held.map travelledZone else u.zt.zones[k].held := by
    by_cases is : e = .zones
    · subst is
      exact (travelZones_zones u k).1
    · rw [if_neg is, (runEvent_zones_other is (by rintro rfl; exact authority m) u).1]
  by_cases travels : ReadingEvent.zones ∈ l
  · rw [decide_eq_true travels]
    refine (Runs.establishes (P := fun u => u.zt.zones[k].held = s.zt.zones[k].held ∨
      u.zt.zones[k].held = s.zt.zones[k].held.map travelledZone) (Q := fun u => u.zt.zones[k].held = s.zt.zones[k].held.map travelledZone)
      (fun u n h => h) (fun u n h => h) runs (fun g m u h => ?_) (fun g m u _ h => ?_) (.inr ⟨_, List.mem_map_of_mem travels, fun u h => ?_⟩)
      (.inl rfl)).2
    · obtain ⟨e, me, rfl⟩ := List.mem_map.1 m
      rw [step e me]
      split
      · refine .inr ?_
        rcases h with h | h <;> rw [h]
        exact idem _
      · exact h
    · obtain ⟨e, me, rfl⟩ := List.mem_map.1 m
      rw [step e me, h, idem, ite_self]
    · rw [step _ travels, if_pos rfl]
      rcases h with h | h <;> rw [h]
      exact idem _
  · have same : (travelledIf false : Zone → Zone) = id := rfl
    rw [decide_eq_false travels, same, Option.map_id_fun, id]
    refine Runs.keeps (P := fun u => u.zt.zones[k].held = s.zt.zones[k].held) (fun u n h => h) runs (fun g m u h => ?_) rfl
    obtain ⟨e, me, rfl⟩ := List.mem_map.1 m
    rw [step e me, if_neg (by rintro rfl; exact travels me), h]

/-- What a run of events leaves where the authority stays: the zones travelled at most, and no notice of a change of authority. -/
structure AuthorityStays (travels : Prop) (s t : State) : Prop where
  held   : ∀ (k : Fin 16), ∀ z ∈ s.zt.zones[k].held, t.zt.zones[k].held = some (travelledZone z) ∧ travels ∨
    t.zt.zones[k].held = some z ∧ ¬travels
  none'  : ∀ k : Fin 16, s.zt.zones[k].held = none → t.zt.zones[k].held = none
  apart  : ∃ ns, Tells ns s t ∧ ∀ n ∈ ns, ofAuthority n = false

/-- What it leaves where the authority changes: AUTHORITY handed over, and the zones re-armed before TRAVEL reaches them or behind it. -/
structure AuthorityMoves (travels : Prop) (s t : State) : Prop where
  told  : handedWithRoom (.authority s.mlu.authority t.mlu.authority s.lc.time) t.lc
  zones : ∃ before after : Bool, (travels ↔ before = true ∨ after = true) ∧
    (∀ k : Fin 16, t.zt.zones[k].held = s.zt.zones[k].held.map fun z =>
      travelledIf after (rearmedZone t.mlu.authority (travelledIf before z))) ∧
    (∀ k : Fin 16, ∀ z ∈ s.zt.zones[k].held, SuspendedAbove t.mlu.authority (travelledIf before z) →
      handedWithRoom (.zoneEvent (.reArmed .authority) k (some .armed) s.lc.time) t.lc) ∧
    ∀ (k : Fin 16) (state : Option ZoneState) (time : Stamp), noticeHanded (.zoneEvent (.reArmed .authority) k state time) t.lc →
      noticeHanded (.zoneEvent (.reArmed .authority) k state time) s.lc ∨ (state = some .armed ∧ time = s.lc.time ∧
        ∃ z ∈ s.zt.zones[k].held, SuspendedAbove t.mlu.authority (travelledIf before z))

theorem authorityStays_of_held {s t : State} {b : Bool} {travels : Prop} (is : travels ↔ b = true)
    (held : ∀ k : Fin 16, t.zt.zones[k].held = s.zt.zones[k].held.map (travelledIf b))
    (apart : ∃ ns, Tells ns s t ∧ ∀ n ∈ ns, ofAuthority n = false) : AuthorityStays travels s t := by
  refine ⟨fun k z hz => ?_, fun k hk => by rw [held, hk]; rfl, apart⟩
  have at' := held k
  rw [show s.zt.zones[k].held = some z from hz] at at'
  cases b with
  | true => exact .inl ⟨at', is.2 rfl⟩
  | false => exact .inr ⟨at', fun h => Bool.false_ne_true (is.1 h)⟩

/-- Without a change of the keyed inputs the authority stays. -/
theorem eventRuns_unkeyed {l : List ReadingEvent} {s t : State} (runs : Runs (l.map runEvent) s t) (authority : .authority ∉ l) :
    t.mlu.authority = s.mlu.authority ∧ AuthorityStays (.zones ∈ l) s t := by
  obtain ⟨nss, fits, told⟩ := eventRuns_speak runs
  exact ⟨eventRuns_authority runs authority, authorityStays_of_held decide_eq_true_iff.symm (eventRuns_held runs authority)
    ⟨_, told.told, eventNotices_apart fits authority⟩⟩

/-- With one the level is that of the inputs, and what follows is that of a change or of none (R28, R29, R64, R65). -/
theorem eventRuns_keyed {l : List ReadingEvent} {s t : State} (runs : Runs (l.map runEvent) s t) (authority : l.count .authority = 1) :
    t.mlu.authority = authorityOf s.mlu.inputs ∧ (t.mlu.authority = s.mlu.authority → AuthorityStays (.zones ∈ l) s t) ∧
      (t.mlu.authority ≠ s.mlu.authority → AuthorityMoves (.zones ∈ l) s t) := by
  obtain ⟨l₁, l₂, u, perm, others, before, after⟩ := runs.once authority
  have authority₁ : ReadingEvent.authority ∉ l₁ := fun m => others (List.mem_append_left _ m)
  have authority₂ : ReadingEvent.authority ∉ l₂ := fun m => others (List.mem_append_right _ m)
  have travels : ReadingEvent.zones ∈ l ↔ decide (ReadingEvent.zones ∈ l₁) = true ∨ decide (ReadingEvent.zones ∈ l₂) = true := by
    rw [perm.mem_iff]
    simp
  have held₁ := eventRuns_held before authority₁
  have held₂ := eventRuns_held after authority₂
  have level₁ := eventRuns_authority before authority₁
  have level₂ := eventRuns_authority after authority₂
  have kept := eventRuns_kept before
  obtain ⟨bss, fits₁, told₁⟩ := eventRuns_speak before
  obtain ⟨ass, fits₂, told₂⟩ := eventRuns_speak after
  have apart₁ := eventNotices_apart fits₁ authority₁
  have apart₂ := eventNotices_apart fits₂ authority₂
  obtain ⟨level, zones⟩ := settleAuthority_zones u
  obtain ⟨ns, ms, told, -, mem, evaluation⟩ := settleAuthority_tells u
  rw [level₁, kept.time, kept.inputs] at told
  rw [kept.inputs, kept.time] at mem
  rw [kept.inputs, level₁] at zones
  rw [kept.inputs] at level
  have all := (told₁.told.trans told).trans told₂.told
  have isLevel : t.mlu.authority = authorityOf s.mlu.inputs := level₂.trans level
  generalize decide (ReadingEvent.zones ∈ l₁) = b at travels held₁
  generalize decide (ReadingEvent.zones ∈ l₂) = a at travels held₂
  refine ⟨isLevel, fun same => ?_, fun moved => ?_⟩
  · rw [isLevel] at same
    rw [if_pos same] at all
    refine authorityStays_of_held (b := b || a) (by rw [travels, Bool.or_eq_true]) (fun k => ?_)
      ⟨_, all, List.forall_mem_append.2 ⟨List.forall_mem_append.2 ⟨apart₁, fun _ m => absurd m List.not_mem_nil⟩, apart₂⟩⟩
    have at' := zones k
    rw [if_pos same, held₁] at at'
    rw [held₂]
    show ((runEvent .authority u).zt.zones[k].held).map _ = _
    rw [show (runEvent .authority u).zt.zones[k].held = _ from at', Option.map_map]
    congr 1
    funext z
    cases b
    · rfl
    · exact travelledIf_travelled a z
  · rw [isLevel] at moved
    rw [if_neg moved, ← isLevel] at all
    refine ⟨?_, b, a, travels, fun k => ?_, fun k z hz above => ?_, fun k state time given => ?_⟩
    · exact all.plainWithRoom (List.mem_append_left _ (List.mem_append_right _ List.mem_cons_self)) rfl
    · have at' := zones k
      rw [if_neg moved, held₁] at at'
      rw [held₂, show (runEvent .authority u).zt.zones[k].held = _ from at', Option.map_map, Option.map_map, isLevel]
      rfl
    · rw [isLevel] at above
      have own : mustRearm (authorityOf s.mlu.inputs) u.zt.zones[k] = true :=
        (mustRearm_iff _ _).2 ⟨_, by rw [held₁, show s.zt.zones[k].held = some z from hz]; rfl, above⟩
      exact all.plainWithRoom (List.mem_append_left _ (List.mem_append_right _ (List.mem_cons_of_mem _
        (List.mem_append_left _ ((mem _).2 ⟨k, own, rfl⟩))))) rfl
    · refine (all.handed.only _ given).imp id fun m => ?_
      have is : ofAuthority (.zoneEvent (.reArmed .authority) k state time) = true := rfl
      rcases List.mem_append.1 m with m | m
      · rcases List.mem_append.1 m with m | m
        · rw [apart₁ _ m] at is
          cases is
        · rcases List.mem_cons.1 m with m | m
          · cases m
          · rcases List.mem_append.1 m with m | m
            · obtain ⟨j, own, same⟩ := (mem _).1 m
              cases same
              obtain ⟨z', hz, above⟩ := (mustRearm_iff _ _).1 own
              rw [held₁] at hz
              obtain ⟨z, hz', rfl⟩ := Option.map_eq_some_iff.1 hz
              exact ⟨rfl, rfl, z, hz', by rwa [isLevel]⟩
            · exact absurd (evaluation _ m) (by simp [ofEvaluation])
      · rw [apart₂ _ m] at is
        cases is

end Sys2Proof.Machine

/-! PROOFS. The advice and the phase through a reading: no advice where the mode stays, and an untouched Economy Manager (R139 to R141,
R145). -/

namespace Sys2Proof.Machine

/-! ## The last advice -/

theorem runEvent_em_taken (e : ReadingEvent) (s : State) : (runEvent e s).em.cap = s.em.cap ∧
    (AdviceStands s.em s.em.lastAdvice → AdviceStands (runEvent e s).em (runEvent e s).em.lastAdvice) := by
  have own (m : e ∈ [ReadingEvent.activity, .seat, .phase, .ended]) := (runEvent_em m s).1
  have other (m : e ∈ [ReadingEvent.zones, .loads, .authority]) : (runEvent e s).em.cap = s.em.cap ∧
      (AdviceStands s.em s.em.lastAdvice → AdviceStands (runEvent e s).em (runEvent e s).em.lastAdvice) := by
    rw [(runEvent_em_other m s).1]
    exact ⟨rfl, id⟩
  cases e with
  | activity => exact ⟨(own (by simp)).cap, (own (by simp)).stands⟩
  | seat => exact ⟨(own (by simp)).cap, (own (by simp)).stands⟩
  | phase => exact ⟨(own (by simp)).cap, (own (by simp)).stands⟩
  | ended => exact ⟨(own (by simp)).cap, (own (by simp)).stands⟩
  | zones => exact other (by simp)
  | loads => exact other (by simp)
  | authority => exact other (by simp)

theorem eventRuns_em_taken {l : List ReadingEvent} {s t : State} (runs : Runs (l.map runEvent) s t) : t.em.cap = s.em.cap ∧
    (AdviceStands s.em s.em.lastAdvice → AdviceStands t.em t.em.lastAdvice) := by
  refine Runs.keeps (P := fun u => u.em.cap = s.em.cap ∧ (AdviceStands s.em s.em.lastAdvice → AdviceStands u.em u.em.lastAdvice))
    (fun u n h => h) runs (fun g m u h => ?_) ⟨rfl, id⟩
  obtain ⟨e, -, rfl⟩ := List.mem_map.1 m
  obtain ⟨cap, stands⟩ := runEvent_em_taken e u
  exact ⟨cap.trans h.1, fun k => stands (h.2 k)⟩

/-- With the cap kept, a record that another is but for its cap and last advice is so but for the last advice. -/
theorem Em.capped_last {a b : Em} (cap : a.cap = b.cap) : Em.capped a b = { b with lastAdvice := a.lastAdvice } := by
  unfold Em.capped
  rw [cap]

/-- An event that keeps the mode keeps the record but for the idle timer (R139 to R141). -/
theorem after_sameMode {now : Stamp} {seat : Bool} {pose : Option Pose} {e : ReadingEvent} {w : Working}
    (mode : (w.after now seat pose e).em.mode = w.em.mode) :
    (w.after now seat pose e).em = { w.em with idleTimer := (w.after now seat pose e).em.idleTimer } := by
  rcases after_cases now seat pose e w with ⟨rfl, eq⟩ | ⟨rfl, eq⟩ | ⟨new, is, -, eq⟩ | eq <;> rw [eq] at mode ⊢
  · rcases Em.modes w.em with h | h | h
    · rw [activityTaken_stopped h]
    · rw [activityTaken_sleeps h] at mode
      exact absurd (.inl mode.symm) h.not_works
    · rw [activityTaken_works h]
  · by_cases out : IdleRunOut seat now w.em
    · rw [seatTaken_idles out] at mode
      exact absurd out.1 (Em.sleeps.not_works (.inl mode.symm))
    · rw [seatTaken_stays out]
  · rw [(phaseTaken_rest now new w.em).2.2.2.1 mode]

/-- An event that keeps the mode hands over no advice (R145). -/
theorem runEvent_unadvised {e : ReadingEvent} {s : State} (stands : AdviceStands s.em s.em.lastAdvice)
    (mode : (runEvent e s).em.mode = s.em.mode) : ∃ ns, Tells ns s (runEvent e s) ∧ ∀ n ∈ ns, noticeKind n ≠ 0x4A := by
  obtain ⟨cap, stands'⟩ := runEvent_em_taken e s
  have working := congrArg Working.em (runEvent_working s.em e s)
  have moved : Em.capped s.em (runEvent e s).em = { s.em with idleTimer := (runEvent e s).em.idleTimer } := by
    have same := after_sameMode (w := workingOf s.em s) ((congrArg Em.mode working).symm.trans mode)
    rw [← working] at same
    exact same
  have last : (runEvent e s).em.lastAdvice = s.em.lastAdvice := by
    rw [advice_eq_of_stands stands, advice_eq_of_stands (stands' stands)]
    have advice : Em.advice (runEvent e s).em = Em.advice (Em.capped s.em (runEvent e s).em) := by
      rw [Em.capped_last cap.symm]
      rfl
    rw [advice, moved]
    rfl
  have alone (m : e ∈ [ReadingEvent.activity, .seat, .phase, .ended]) :
      ∃ ns, Tells ns s (runEvent e s) ∧ ∀ n ∈ ns, noticeKind n ≠ 0x4A := by
    obtain ⟨ns, speaks, -, none'⟩ := (runEvent_em m s).1.speaks
    exact ⟨ns, speaks.told, by rw [none' last]; exact fun _ m => absurd m List.not_mem_nil⟩
  have evaluation {n : Notice} (h : ofEvaluation n = true) : noticeKind n ≠ 0x4A := fun kind => by
    have plain := ofEvaluation_plain h
    rw [(replacesItsKind_iff n).2 (.inr kind)] at plain
    cases plain
  obtain ⟨ns, speaks, fits⟩ := runEvent_speaks e s
  cases e with
  | activity => exact alone (by simp)
  | seat => exact alone (by simp)
  | phase => exact alone (by simp)
  | ended => exact alone (by simp)
  | loads => exact ⟨ns, speaks.told, fun n m => by rw [show noticeKind n = 0x48 from fits.each n m]; decide⟩
  | zones =>
    refine ⟨ns, speaks.told, fun n m => ?_⟩
    rcases fits.each n m with h | ⟨p, k, state, time, rfl⟩
    · exact evaluation h
    · exact (by decide : 0x43 ≠ 0x4A)
  | authority =>
    refine ⟨ns, speaks.told, fun n m => ?_⟩
    rcases fits.each n m with h | ⟨a, b, time, rfl⟩ | ⟨k, state, time, rfl⟩
    · exact evaluation h
    · exact (by decide : 0x42 ≠ 0x4A)
    · exact (by decide : 0x43 ≠ 0x4A)

/-- Where every change of mode climbs, a mode that ends as it began never changed, and no advice was handed over (R145). -/
theorem eventRuns_climb {a : Em} {I : Working → Prop} (rank : EngineMode → Nat) {now : Stamp} {seat : Bool} {pose : Option Pose}
    {l : List ReadingEvent} {s t : State} (runs : Runs (l.map runEvent) s t)
    (climbs : ∀ e ∈ l, ∀ w, I w → I (w.after now seat pose e) ∧
      ((w.after now seat pose e).em.mode = w.em.mode ∨ rank w.em.mode < rank (w.after now seat pose e).em.mode))
    (context : s.lc.time = now ∧ s.mlu.inputs.seat.level = seat ∧ s.ct.pose = pose) (start : I (workingOf a s))
    (stands : AdviceStands s.em s.em.lastAdvice) : rank s.em.mode ≤ rank t.em.mode ∧
      (rank t.em.mode ≤ rank s.em.mode → ∃ ns, Tells ns s t ∧ ∀ n ∈ ns, noticeKind n ≠ 0x4A) := by
  induction l generalizing s with
  | nil =>
    obtain ⟨n, rfl⟩ := runs
    exact ⟨le_rfl, fun _ => ⟨[], .silent rfl (.refl _), fun _ m => absurd m List.not_mem_nil⟩⟩
  | cons e l ih =>
    obtain ⟨n, runs⟩ := runs
    obtain ⟨rfl, rfl, rfl⟩ := context
    obtain ⟨kept, moves⟩ := climbs e List.mem_cons_self (workingOf a s) start
    have working : workingOf a (runEvent e { s with choices := n }) =
        (workingOf a s).after s.lc.time s.mlu.inputs.seat.level s.ct.pose e := runEvent_working a e { s with choices := n }
    rw [← working] at kept moves
    have same := runEvent_kept e { s with choices := n }
    have stands' := (runEvent_em_taken e { s with choices := n }).2 stands
    obtain ⟨rest, quiet⟩ := ih runs (fun e' m => climbs e' (List.mem_cons_of_mem _ m))
      ⟨same.time, congrArg (fun i => i.seat.level) same.inputs, same.pose⟩ kept stands'
    have first : (runEvent e { s with choices := n }).em.mode = s.em.mode ∨
        rank s.em.mode < rank (runEvent e { s with choices := n }).em.mode := moves
    refine ⟨?_, fun back => ?_⟩
    · rcases first with stays | climbed
      · rwa [stays] at rest
      · exact climbed.le.trans rest
    · rcases first with stays | climbed
      · obtain ⟨ns, told, none'⟩ := runEvent_unadvised (e := e) (s := { s with choices := n }) stands stays
        obtain ⟨ms, told', none''⟩ := quiet (by rwa [stays])
        exact ⟨ns ++ ms, (Tells.after (s := s) told rfl (.refl _)).trans told', List.forall_mem_append.2 ⟨none', none''⟩⟩
      · exact absurd (climbed.trans_le rest) (Nat.not_lt.2 back)

/-- Modes in the order in which a reading with an activity, and none that SEAT idles, moves them. -/
def wakingRank (m : EngineMode) : Nat := if m = .work then 1 else 0

/-- Modes in the order in which a reading without an activity moves them. -/
def idlingRank : EngineMode → Nat
  | .eco => 0
  | .work => 1
  | _ => 2

theorem wakingRank_other {m : EngineMode} (h : m ≠ .work) : wakingRank m < wakingRank .work := by
  rw [wakingRank, if_neg h]
  exact Nat.one_pos

section
variable {l : List ReadingEvent} {s t : State} (runs : Runs (l.map runEvent) s t) (stands : AdviceStands s.em s.em.lastAdvice)
include runs stands

/-- With activities and no idle timer run out (R139 to R141, R145). -/
theorem eventRuns_waking (delay : s.em.settings.seatDelay ≠ 0)
    (runs' : .seat ∈ l → ¬IdleRunOut s.mlu.inputs.seat.level s.lc.time s.em) (mode : t.em.mode = s.em.mode) :
    ∃ ns, Tells ns s t ∧ ∀ n ∈ ns, noticeKind n ≠ 0x4A := by
  refine (eventRuns_climb (a := s.em) (I := fun w => w.em.settings.seatDelay ≠ 0 ∧
    (.seat ∈ l → ¬IdleRunOut s.mlu.inputs.seat.level s.lc.time w.em)) wakingRank runs (fun e m w ⟨delay, out⟩ => ?_) ⟨rfl, rfl, rfl⟩
    ⟨delay, runs'⟩ stands).2 (by rw [mode])
  have settings := after_settings s.lc.time s.mlu.inputs.seat.level s.ct.pose e w
  have delay' := settings ▸ delay
  rcases after_cases s.lc.time s.mlu.inputs.seat.level s.ct.pose e w with ⟨rfl, eq⟩ | ⟨rfl, eq⟩ | ⟨new, is, -, eq⟩ | eq <;>
    rw [eq] at delay' ⊢
  · rcases Em.modes w.em with h | h | h
    · rw [activityTaken_stopped h]
      exact ⟨⟨delay, out⟩, .inl rfl⟩
    · rw [activityTaken_sleeps h]
      exact ⟨⟨delay, fun _ => not_idleRunOut_now rfl delay⟩, .inr (wakingRank_other fun work => h.not_works (.inl work))⟩
    · rw [activityTaken_works h]
      exact ⟨⟨delay, fun _ => not_idleRunOut_now rfl delay⟩, .inl rfl⟩
  · rw [seatTaken_stays (out m)]
    exact ⟨⟨delay, out⟩, .inl rfl⟩
  · by_cases eco : w.em.mode = .eco
    · rw [phaseTaken_eco (ReadingEvent.target_loaded is) eco]
      exact ⟨⟨delay, fun seat ran => out seat (ran.congr (.inr eco) rfl rfl)⟩, .inr (wakingRank_other (by rw [eco]; decide))⟩
    · rw [phaseTaken_stays (ReadingEvent.target_loaded is) eco]
      exact ⟨⟨delay, out⟩, .inl rfl⟩
  · exact ⟨⟨delay, out⟩, .inl rfl⟩

/-- Without an activity (R139, R141, R145). -/
theorem eventRuns_idling (quiet : .activity ∉ l) (mode : t.em.mode = s.em.mode) :
    ∃ ns, Tells ns s t ∧ ∀ n ∈ ns, noticeKind n ≠ 0x4A := by
  refine (eventRuns_climb (a := s.em) (I := fun _ => True) idlingRank runs (fun e m w _ => ⟨trivial, ?_⟩) ⟨rfl, rfl, rfl⟩ trivial stands).2
    (by rw [mode])
  rcases after_cases s.lc.time s.mlu.inputs.seat.level s.ct.pose e w with ⟨rfl, eq⟩ | ⟨rfl, eq⟩ | ⟨new, is, -, eq⟩ | eq <;> rw [eq]
  · exact absurd m quiet
  · by_cases out : IdleRunOut s.mlu.inputs.seat.level s.lc.time w.em
    · rw [seatTaken_idles out]
      refine .inr ?_
      rcases out.1 with h | h <;> rw [h]
      · exact (by decide : 1 < 2)
      · exact (by decide : 0 < 2)
    · rw [seatTaken_stays out]
      exact .inl rfl
  · by_cases eco : w.em.mode = .eco
    · rw [phaseTaken_eco (ReadingEvent.target_loaded is) eco, eco]
      exact .inr (by decide : 0 < 1)
    · rw [phaseTaken_stays (ReadingEvent.target_loaded is) eco]
      exact .inl rfl
  · exact .inl rfl

end

/-! ## An untouched Economy Manager -/

theorem setPhase_phase (new : Phase) (s : State) : (setPhase new s).ct.phase = new := by
  unfold setPhase
  split
  · next same => exact same.symm
  · rw [(takePhaseChange_frame _ _).ct rfl]
    rfl

/-- TRAVEL becoming INACTIVE ends UNKNOWN, or does nothing (R98). -/
theorem travelEndedAtCt_cases (s : State) :
    travelEndedAtCt s = s ∨ s.ct.phase = .unknown ∧ (travelEndedAtCt s).ct.phase = .digging := by
  unfold travelEndedAtCt
  split
  · next unknown _ =>
    split
    · exact .inl rfl
    · exact .inr ⟨unknown, setPhase_phase _ _⟩
  · exact .inl rfl

/-- Without an activity, a change of SEAT and a change of phase nothing reaches the Economy Manager. -/
theorem eventRuns_untouched {l : List ReadingEvent} {s t : State} (runs : Runs (l.map runEvent) s t) (active : .activity ∉ l)
    (seat : .seat ∉ l) (phase : .phase ∉ l) (same : t.ct.phase = s.ct.phase) : t.em = s.em := by
  have kept := Runs.keeps (P := fun u => u.ct.phase = s.ct.phase ∧ u.em = s.em ∨ s.ct.phase = .unknown ∧ u.ct.phase = .digging)
    (fun u n h => h) runs (fun g m u h => ?_) (.inl ⟨rfl, rfl⟩)
  · rcases kept with ⟨-, em⟩ | ⟨before, after⟩
    · exact em
    · rw [same, before] at after
      cases after
  · obtain ⟨e, me, rfl⟩ := List.mem_map.1 m
    have other (m : e ∈ [ReadingEvent.zones, .loads, .authority]) : (runEvent e u).ct.phase = s.ct.phase ∧ (runEvent e u).em = s.em ∨
        s.ct.phase = .unknown ∧ (runEvent e u).ct.phase = .digging := by
      obtain ⟨em, ct⟩ := runEvent_em_other m u
      rw [em, ct]
      exact h
    cases e with
    | activity => exact absurd me active
    | seat => exact absurd me seat
    | phase => exact absurd me phase
    | zones => exact other (by simp)
    | loads => exact other (by simp)
    | authority => exact other (by simp)
    | ended =>
      show (travelEndedAtCt u).ct.phase = _ ∧ (travelEndedAtCt u).em = _ ∨ _ ∧ (travelEndedAtCt u).ct.phase = _
      rcases travelEndedAtCt_cases u with stays | ⟨unknown, digging⟩
      · rw [stays]
        exact h
      · refine .inr ⟨?_, digging⟩
        rcases h with ⟨same, -⟩ | ⟨before, -⟩
        · exact same.symm.trans unknown
        · exact before

end Sys2Proof.Machine

/-! PROOFS. A level change, settled (R24, R26 to R29, R64, R65, R72, R139 to R142, R144, R145). -/

namespace Sys2Proof.Machine

/-- A debouncer's level and last sample after a reading (R24). -/
theorem take_eq (d : Debouncer) (v : Bool) :
    Debouncer.take d v = { level := if d.last = some v then v else d.level, last := some v } := by
  unfold Debouncer.take
  by_cases twice : d.last = some v
  · rw [if_pos twice]
    by_cases changed : v = d.level
    · rw [if_neg (by rw [accepts_iff]; exact fun h => h.2 changed), changed]
    · rw [if_pos ((accepts_iff d v).2 ⟨twice, changed⟩)]
  · rw [if_neg twice, if_neg (by rw [accepts_iff]; exact fun h => twice h.1)]

theorem map₂_take (i : PerInput Debouncer) (x : InputSamples) : PerInput.map₂ Debouncer.take i x =
    PerInput.map₂ (fun (d : Debouncer) v => { level := if d.last = some v then v else d.level, last := some v }) i x := by
  unfold PerInput.map₂
  simp only [take_eq]

/-- Where a RE_ARMED stands, its zone is SUSPENDED above the level; and it is handed over where the zone was armed before TRAVEL. -/
structure Rearmed (a : Authority) (k : Fin 16) (z : Zone) (travels : Prop) (s t : State) : Prop where
  still    : ¬travels → ¬SuspendedAbove a z → t.zt.zones[k].held = some z
  armed    : ¬travels → SuspendedAbove a z → t.zt.zones[k].held = some { z with state := .armed } ∧
    handedWithRoom (.zoneEvent (.reArmed .authority) k (some .armed) s.lc.time) t.lc
  moved    : travels → ¬SuspendedAbove a z → t.zt.zones[k].held = some (travelledZone z)
  either   : travels → SuspendedAbove a z → t.zt.zones[k].held = some (travelledZone z) ∨
    t.zt.zones[k].held = some (travelledZone { z with state := .armed })
  noticed  : travels → SuspendedAbove a z → t.zt.zones[k].held = some (travelledZone { z with state := .armed }) →
    handedWithRoom (.zoneEvent (.reArmed .authority) k (some .armed) s.lc.time) t.lc

theorem AuthorityMoves.rearmed {travels : Prop} {s t : State} (h : AuthorityMoves travels s t) {k : Fin 16} {z : Zone}
    (hz : s.zt.zones[k].held = some z) : Rearmed t.mlu.authority k z travels s t := by
  obtain ⟨before, after, is, held, noticed, -⟩ := h.zones
  have at' := held k
  rw [hz, Option.map_some] at at'
  have still (no : ¬travels) : before = false ∧ after = false := by
    rw [is, not_or, Bool.not_eq_true, Bool.not_eq_true] at no
    exact no
  refine ⟨fun no other => ?_, fun no above => ?_, fun yes other => ?_, fun yes above => ?_, fun yes above armed => ?_⟩
  · obtain ⟨rfl, rfl⟩ := still no
    exact at'.trans (congrArg some (rearmedZone_other other))
  · obtain ⟨rfl, rfl⟩ := still no
    exact ⟨at'.trans (congrArg some (rearmedZone_above above)), noticed k z hz above⟩
  · rw [at', travelled_rearmed_other other (is.1 yes)]
  · rw [at']
    exact (travelled_rearmed_above above (is.1 yes)).imp (fun h => congrArg some h.1) fun h => congrArg some h.1
  · rcases travelled_rearmed_above above (is.1 yes) with ⟨left, apart⟩ | ⟨-, low⟩
    · rw [at', left] at armed
      exact absurd (Option.some.inj armed) apart
    · exact noticed k z hz low

theorem AuthorityMoves.none {travels : Prop} {s t : State} (h : AuthorityMoves travels s t) {k : Fin 16}
    (empty : s.zt.zones[k].held = Option.none) : t.zt.zones[k].held = Option.none := by
  obtain ⟨_, _, -, held, -⟩ := h.zones
  rw [held, empty]
  rfl

theorem AuthorityMoves.only {travels : Prop} {s t : State} (h : AuthorityMoves travels s t) {k : Fin 16} {state : Option ZoneState}
    {time : Stamp} (given : noticeHanded (.zoneEvent (.reArmed .authority) k state time) t.lc) :
    noticeHanded (.zoneEvent (.reArmed .authority) k state time) s.lc ∨ (state = some .armed ∧ time = s.lc.time ∧
      ∃ z ∈ s.zt.zones[k].held, SuspendedAbove t.mlu.authority z) := by
  obtain ⟨_, _, -, -, -, only⟩ := h.zones
  exact (only k state time given).imp id fun ⟨hs, ht, z, hz, above⟩ => ⟨hs, ht, z, hz, (travelledIf_above above).2⟩

/-- No notice of a change of authority where there is none. -/
theorem AuthorityStays.noneHanded {travels : Prop} {s t : State} (h : AuthorityStays travels s t) : NoneHanded 0x42 s.lc t.lc ∧
    ∀ (k : Fin 16) (state : Option ZoneState) (time : Stamp), noticeHanded (.zoneEvent (.reArmed .authority) k state time) t.lc →
      noticeHanded (.zoneEvent (.reArmed .authority) k state time) s.lc := by
  obtain ⟨ns, told, apart⟩ := h.apart
  refine ⟨told.handed.noneOfKind fun n m kind => ?_, fun k state time given => (told.handed.only _ given).resolve_right fun m => ?_⟩
  · have other := apart n m
    cases n with
    | authority a b time => exact Bool.false_ne_true other.symm
    | _ => exact absurd kind (by simp [noticeKind])
  · exact Bool.false_ne_true (apart _ m).symm

section
variable {x : InputSamples} {s t : State} {l : List ReadingEvent}
  (perm : l.Perm (readingEvents (changesAt s.mlu x) (PerInput.map₂ Debouncer.take s.mlu.inputs x)))
  (runs : Runs (l.map runEvent) (takeReading x s) t)
include perm runs

/-- The authority that was right is right after the reading (R28). -/
theorem reading_authorityRight (right : s.mlu.authority = authorityOf s.mlu.inputs) : t.mlu.authority = authorityOf t.mlu.inputs := by
  have inputs := (eventRuns_kept runs).inputs
  by_cases keyed : ReadingEvent.authority ∈ l
  · rw [inputs]
    exact (eventRuns_keyed runs (le_antisymm (reading_count perm (by decide)) (List.count_pos_iff.2 keyed))).1
  · have unkeyed := Bool.eq_false_iff.2 ((authority_mem perm).not.1 keyed)
    rw [inputs, eventRuns_authority runs keyed]
    exact right.trans (authorityOf_map₂ (x := x) unkeyed).symm

/-- The authority stays or changes, with what follows of either (R28, R29, R64, R65). -/
theorem reading_zones :
    (t.mlu.authority = s.mlu.authority → AuthorityStays (Rises s.mlu.inputs.travel x.travel) (takeReading x s) t) ∧
    (t.mlu.authority ≠ s.mlu.authority → AuthorityMoves (Rises s.mlu.inputs.travel x.travel) (takeReading x s) t) := by
  rw [← zones_mem perm]
  by_cases keyed : ReadingEvent.authority ∈ l
  · exact (eventRuns_keyed runs (le_antisymm (reading_count perm (by decide)) (List.count_pos_iff.2 keyed))).2
  · obtain ⟨same, stays⟩ := eventRuns_unkeyed runs keyed
    exact ⟨fun _ => stays, fun moved => absurd same moved⟩

end

/-- The idle timer that a change of SEAT in the reading finds run out (R139). -/
theorem reading_idleRunOut {x : InputSamples} {s : State} {l : List ReadingEvent}
    (perm : l.Perm (readingEvents (changesAt s.mlu x) (PerInput.map₂ Debouncer.take s.mlu.inputs x))) (seat : .seat ∈ l) :
    IdleRunOut (takeReading x s).mlu.inputs.seat.level (takeReading x s).lc.time (takeReading x s).em ↔ Em.works s.em ∧ ¬(x.seat = true ∧ s.em.settings.idleDelay = 0) ∧ ∃ start ∈ s.em.idleTimer,
      (if x.seat then s.em.settings.idleDelay else s.em.settings.seatDelay) * 1000 ≤ (s.lc.time - start).toNat := by
  have level : (takeReading x s).mlu.inputs.seat.level = x.seat := by
    show (Debouncer.take s.mlu.inputs.seat x.seat).level = _
    rw [take_eq, if_pos ((seat_mem perm).1 seat).1]
  rw [level]
  rfl

/-- The record after a run, but for the last advice. -/
theorem eventRuns_record {l : List ReadingEvent} {s t : State} {f : Em → Em} (runs : Runs (l.map runEvent) s t)
    (moved : ∀ a, Em.capped a t.em = f (Em.capped a s.em)) : t.em = f { s.em with lastAdvice := t.em.lastAdvice } := by
  have cap := (eventRuns_em_taken runs).1
  have own := moved t.em
  rwa [Em.capped_self, Em.capped_last cap] at own

/-- Settles O28: the events of the reading one after another, each block by the events that reach it. -/
theorem levelChangeTakesTwiceReadSamples : Obligations.LevelChangeTakesTwiceReadSamples := by
  intro x s powered due some' now rises travels active seated runsOut
  have step := exec_inputLevelChange powered due some'
  have frame := readInputs_frame x s
  obtain ⟨l, perm, runs⟩ := readInputs_runs x s
  generalize readInputs x s = t at step runs frame
  have kept := eventRuns_kept runs
  obtain ⟨cap, stands⟩ := eventRuns_em_taken runs
  obtain ⟨nss, -, speaks⟩ := eventRuns_speak runs
  obtain ⟨stay, move⟩ := reading_zones perm runs
  have isActive : ReadingEvent.activity ∈ l ↔ active := activity_mem perm
  have isSeated : ReadingEvent.seat ∈ l ↔ seated := seat_mem perm
  have quiet (no : ¬active) : ReadingEvent.activity ∉ l := isActive.not.2 no
  have out := reading_idleRunOut perm
  have notOut (no : ¬runsOut) : .seat ∈ l → ¬IdleRunOut (takeReading x s).mlu.inputs.seat.level (takeReading x s).lc.time (takeReading x s).em :=
    fun m ran => no ⟨isSeated.1 m, ((out m).1 ran).2⟩
  have one : ReadingEvent.phase ∈ l → ReadingEvent.ended ∉ l := fun m => ended_not_mem perm ((phase_mem perm).1 m)
  refine ⟨t, step, ?_, kept.nextReading, reading_authorityRight perm runs, fun moved => (move moved).told,
    fun same => (stay same).noneHanded.1, ⟨fun k empty => ?_, fun k z hz => ?_, ?_⟩, stands, speaks.advised, fun stood delay calm last => ?_,
    frame.ps rfl, frame.scu rfl, frame.st rfl, (eventRuns_settings runs).trans rfl, frame.powered.trans powered, fun no unseated same => ?_,
    fun stopped => ?_, fun sleeps => ⟨fun no => ?_, fun yes delay => ?_⟩, fun works => ⟨fun yes delay => ?_, fun no calm => ?_,
      fun no ran => ?_⟩⟩
  · exact kept.inputs.trans (map₂_take _ _)
  · by_cases moved : t.mlu.authority = s.mlu.authority
    · exact (stay moved).none' k empty
    · exact (move moved).none empty
  · intro armed
    by_cases moved : t.mlu.authority = s.mlu.authority
    · have held := (stay moved).held k z hz
      have still (no : ¬travels) : t.zt.zones[k].held = some z := (held.resolve_left fun h => no h.2).1
      have gone (yes : travels) : t.zt.zones[k].held = some (travelledZone z) := (held.resolve_right fun h => h.2 yes).1
      exact ⟨fun no _ => still no, fun _ above => absurd moved above.1, fun yes _ => gone yes, fun yes _ => .inl (gone yes),
        fun _ above => absurd moved above.1⟩
    · have rearmed := (move moved).rearmed hz
      exact ⟨fun no other => rearmed.still no fun above => other ⟨moved, above⟩, fun no above => rearmed.armed no above.2,
        fun yes other => rearmed.moved yes fun above => other ⟨moved, above⟩, fun yes above => rearmed.either yes above.2,
        fun yes above => rearmed.noticed yes above.2⟩
  · intro k state time n given
    by_cases moved : t.mlu.authority = s.mlu.authority
    · exact .inl ((stay moved).noneHanded.2 k state time given)
    · refine ((move moved).only given).imp id fun ⟨hs, ht, z, hz, above⟩ => ⟨?_, z, hz, moved, above⟩
      show Notice.zoneEvent _ k state time = _
      rw [hs, ht]
      rfl
  · have mode : t.em.mode = s.em.mode := (stands stood).1.symm.trans ((congrArg Advice.mode last).trans stood.1)
    obtain ⟨ns, told, none'⟩ : ∃ ns, Tells ns (takeReading x s) t ∧ ∀ n ∈ ns, noticeKind n ≠ 0x4A := by
      by_cases is : active
      · exact eventRuns_waking runs stood delay (notOut fun ran => calm ⟨is, ran⟩) mode
      · exact eventRuns_idling runs stood (quiet is) mode
    exact told.handed.noneOfKind none'
  · refine eventRuns_untouched (s := takeReading x s) runs (quiet no) (isSeated.not.2 unseated) (fun m => ?_) same
    exact no (.inr (.inr (.inr ((phase_mem perm).1 m))))
  · exact eventRuns_record (s := takeReading x s) (f := id) runs fun a => eventRuns_stopped (s := takeReading x s) runs stopped
  · exact eventRuns_record (s := takeReading x s) (f := id) runs fun a => eventRuns_sleep (s := takeReading x s) runs sleeps (quiet no)
  · exact eventRuns_record (s := takeReading x s) (f := Em.woken now) runs fun a => eventRuns_wake (s := takeReading x s) runs (isActive.2 yes) sleeps delay
  · obtain ⟨timer, working, work⟩ := eventRuns_refresh runs (isActive.2 yes) works delay
    exact ⟨timer, working, fun calm => (eventRuns_carry runs works (notOut calm) (fun _ => delay) one).1, work⟩
  · obtain ⟨mode, timer⟩ := eventRuns_carry runs works (notOut calm) (fun m => absurd m (quiet no)) one
    exact ⟨timer (quiet no), mode⟩
  · have seat := isSeated.2 ran.1
    exact eventRuns_idle (s := takeReading x s) runs (quiet no) seat ((out seat).2 ⟨works, ran.2⟩)

end Sys2Proof.Machine
